-- ==== Sys2Proof/Word.lean ====
section
/-! DEFINITION. The widths of 11_frame_and_record_formats.md and the fixed-size tables they fill. -/

namespace Sys2Proof

/-- One byte of a frame, message or record. -/
abbrev Byte := BitVec 8
/-- A two-byte field (R186). -/
abbrev Half := BitVec 16
/-- A four-byte field (R186). -/
abbrev Word := BitVec 32
/-- A cartridge serial, an 8-byte string compared as a whole (R25). -/
abbrev Serial := BitVec 64
/-- A slot number, 0..9 (00_scope.md, Numbering). -/
abbrev SlotId := Fin 10

/-- The slots in slot order, 0 first. -/
abbrev allSlots : List SlotId := [0, 1, 2, 3, 4, 5, 6, 7, 8, 9]

/-- The table whose place `i` holds `f i`. -/
def tab {α : Type} (k : Nat) (f : Fin k → α) : Vector α k :=
  ⟨((List.finRange k).map f).toArray, by simp⟩

/-- `v` with place `i` replaced. -/
def put {α : Type} {k : Nat} (v : Vector α k) (i : Fin k) (x : α) : Vector α k :=
  v.set i.val x i.isLt

end Sys2Proof
end

