-- ==== Sys2Proof/Machine/Codes.lean ====
section
/-! DEFINITION. The enumerations of the manual and the numbers R186, R187 and R188 give them. -/

namespace Sys2Proof

/-- Rejection reasons (R2). -/
inductive Reason where
  | authFailed | noResponse | malformed | wrongColour | wrongRegion | keyMissing | duplicateSerial
  | noCalibration | refillBlocked | filterReject | contactLost
deriving DecidableEq, Repr

/-- Alert codes (R18); NONE is the absence of one. -/
inductive AlertCode where
  | authFailed | noResponse | malformed | wrongColour | wrongRegion | keyMissing | duplicateSerial
  | noCalibration | refillSuspect | refillBlocked | filterReject | counterFell | contactLost
  | exhausted | starved | removedInUse
deriving DecidableEq, Repr

/-- Slot states (1.1); a REJECTED slot carries its reason (R2). -/
inductive SlotState where
  | vacant | seated | reading | proving | reconciling | ready | parked | exhausted
  | rejected (why : Reason)
deriving DecidableEq, Repr

/-- Admission modes (R2, 1.3). -/
inductive Mode where
  | auto | confirm | closed
deriving DecidableEq, Repr

/-- The target of a slot (R2). -/
inductive Target where
  | online | parked
deriving DecidableEq, Repr

/-- Lamp patterns (R21). -/
inductive LampPattern where
  | off | on | blinkSlow | blinkFast | flash2
deriving DecidableEq, Repr

/-- The non-genuine policy (R155). -/
inductive NonGenuinePolicy where
  | block | allowUnmetered
deriving DecidableEq, Repr

/-- The suspect policy (R155). -/
inductive SuspectPolicy where
  | warn | block
deriving DecidableEq, Repr

/-- Account classes (R83). -/
inductive AccountClass where
  | genuine | suspectRefill | nonGenuine
deriving DecidableEq, Repr

/-- Refill reasons (R83, R134). -/
inductive RefillReason where
  | spentButFull | retiredSerial | counterFell | filterMatch
deriving DecidableEq, Repr

/-- What the part knows of a cartridge's spent mark (R83). -/
inductive SpentState where
  | none | requested | marked | found
deriving DecidableEq, Repr

/-- Account levels (R83); UNKNOWN for an unmetered account. -/
inductive Level where
  | normal | low | reserve | empty | unknown
deriving DecidableEq, Repr

/-- States of a swath table entry (R108). -/
inductive SwathState where
  | opened | expired
deriving DecidableEq, Repr

/-- The two history tables a request can name (R145, R146). -/
inductive HistTable where
  | seen | retired
deriving DecidableEq, Repr

/-- Scope of CLEAR_HISTORY (R172). -/
inductive Scope where
  | oneSerial | all
deriving DecidableEq, Repr

/-- Reasons of a retired entry (R130). -/
inductive RetiredReason where
  | spent | exhaustedRemoved
deriving DecidableEq, Repr

/-- Actions of a filter entry, and IDF's decision (R139, R143). -/
inductive FilterAction where
  | none | suspect | reject
deriving DecidableEq, Repr

/-- Errors an attempt notes (R57). -/
inductive BusError where
  | collision | framing | check | length | timeout
deriving DecidableEq, Repr

/-- Statuses of a cartridge reply (R187). -/
inductive CartStatus where
  | done | mismatch | refusedSpent | badCommand
deriving DecidableEq, Repr

/-- Kinds of event records (R159). -/
inductive EventKind where
  | slotState | alert | level | engineSilent | swathOverrun | reservationCut | purgeAssumed
  | writebackFailed | settingsDefaulted | storeFault | flushDone | overflow
deriving DecidableEq, Repr

/-- Reply statuses of the three links (R186). -/
inductive Status where
  | ok | clamped | range | wrongState | alertPending | busy | noAccount | noCartridge | badCommand
  | busError | badCheck | unknownKind | malformed | duplicateSwath | tableFull | powerFail
  | engineSilent | slotsRefused | notReady | short | purgeBusy | unknownPurge | unknownSwath | late
  | locked | calLocked | calInvalid | keyLocked | wrongCode
deriving DecidableEq, Repr

/-- The power state (R182). -/
inductive PowerState where
  | normal | flushingBus | flushingStore | flushed
deriving DecidableEq, Repr

/-- Line states of the service line (R164). -/
inductive LineState where
  | waitSync | ready | receiving | busy | sending
deriving DecidableEq, Repr

/-- Unlock states (R167). -/
inductive Unlock where
  | none | half | opened
deriving DecidableEq, Repr

/-- Where the part stands in a full reset (R179). -/
inductive Phase where
  | off | resetHeld | loading | running
deriving DecidableEq, Repr

/-- The two admission steps (R61). -/
inductive AdmissionStep where
  | readId | challenge
deriving DecidableEq, Repr

/-- The operations of a write-back entry (R62). -/
inductive WbOp where
  | addUsed | readUsage | markSpent
deriving DecidableEq, Repr

/-! ### Numbers (R186, R187, R188) -/

def AlertCode.code : AlertCode → Byte
  | .authFailed => 1 | .noResponse => 2 | .malformed => 3 | .wrongColour => 4 | .wrongRegion => 5
  | .keyMissing => 6 | .duplicateSerial => 7 | .noCalibration => 8 | .refillSuspect => 9
  | .refillBlocked => 10 | .filterReject => 11 | .counterFell => 12 | .contactLost => 13
  | .exhausted => 14 | .starved => 15 | .removedInUse => 16

/-- The alert of the same name as a rejection reason (R7, R8, R9, R16). -/
def Reason.alert : Reason → AlertCode
  | .authFailed => .authFailed | .noResponse => .noResponse | .malformed => .malformed
  | .wrongColour => .wrongColour | .wrongRegion => .wrongRegion | .keyMissing => .keyMissing
  | .duplicateSerial => .duplicateSerial | .noCalibration => .noCalibration
  | .refillBlocked => .refillBlocked | .filterReject => .filterReject | .contactLost => .contactLost

/-- Alert codes and rejection reasons share one list of numbers (R188). -/
def Reason.code (r : Reason) : Byte := r.alert.code

/-- NONE is 0 (R188). -/
def alertCodeOrNone : Option AlertCode → Byte
  | none => 0
  | some a => a.code

def SlotState.code : SlotState → Byte
  | .vacant => 0 | .seated => 1 | .reading => 2 | .proving => 3 | .reconciling => 4 | .ready => 5
  | .parked => 6 | .exhausted => 7 | .rejected _ => 8

/-- The rejection reason, present only while REJECTED (R2). -/
def SlotState.reason : SlotState → Option Reason
  | .rejected r => some r
  | _ => none

def Mode.code : Mode → Byte
  | .auto => 0 | .confirm => 1 | .closed => 2

def Mode.ofCode (b : Byte) : Option Mode :=
  if b = 0 then some .auto else if b = 1 then some .confirm else if b = 2 then some .closed else none

def Target.code : Target → Byte
  | .online => 0 | .parked => 1

def LampPattern.code : LampPattern → Byte
  | .off => 0 | .on => 1 | .blinkSlow => 2 | .blinkFast => 3 | .flash2 => 4

def LampPattern.ofCode (b : Byte) : Option LampPattern :=
  if b = 0 then some .off else if b = 1 then some .on else if b = 2 then some .blinkSlow
  else if b = 3 then some .blinkFast else if b = 4 then some .flash2 else none

/-- The cycle of a pattern: intervals of lit or dark and their length in ms (R21). OFF and ON have
one interval that does not end. -/
def LampPattern.cycle : LampPattern → List (Bool × Nat)
  | .off => [(false, 0)]
  | .on => [(true, 0)]
  | .blinkSlow => [(true, 500), (false, 500)]
  | .blinkFast => [(true, 125), (false, 125)]
  | .flash2 => [(true, 100), (false, 200), (true, 100), (false, 1600)]

def NonGenuinePolicy.code : NonGenuinePolicy → Byte
  | .block => 0 | .allowUnmetered => 1

def NonGenuinePolicy.ofCode (b : Byte) : Option NonGenuinePolicy :=
  if b = 0 then some .block else if b = 1 then some .allowUnmetered else none

def SuspectPolicy.code : SuspectPolicy → Byte
  | .warn => 0 | .block => 1

def SuspectPolicy.ofCode (b : Byte) : Option SuspectPolicy :=
  if b = 0 then some .warn else if b = 1 then some .block else none

def AccountClass.code : AccountClass → Byte
  | .genuine => 0 | .suspectRefill => 1 | .nonGenuine => 2

def RefillReason.code : RefillReason → Byte
  | .spentButFull => 1 | .retiredSerial => 2 | .counterFell => 3 | .filterMatch => 4

/-- No refill reason is 0 (R188). -/
def refillCodeOrNone : Option RefillReason → Byte
  | none => 0
  | some r => r.code

def SpentState.code : SpentState → Byte
  | .none => 0 | .requested => 1 | .marked => 2 | .found => 3

/-- Level numbers; UNKNOWN is sent as 0xFF (R186, R188). -/
def Level.code : Level → Byte
  | .normal => 0 | .low => 1 | .reserve => 2 | .empty => 3 | .unknown => 0xFF

def SwathState.code : SwathState → Byte
  | .opened => 0 | .expired => 1

def HistTable.ofCode (b : Byte) : Option HistTable :=
  if b = 0 then some .seen else if b = 1 then some .retired else none

def Scope.ofCode (b : Byte) : Option Scope :=
  if b = 0 then some .oneSerial else if b = 1 then some .all else none

def RetiredReason.code : RetiredReason → Byte
  | .spent => 0 | .exhaustedRemoved => 1

def RetiredReason.ofCode (b : Byte) : Option RetiredReason :=
  if b = 0 then some .spent else if b = 1 then some .exhaustedRemoved else none

def FilterAction.code : FilterAction → Byte
  | .none => 0 | .suspect => 1 | .reject => 2

def FilterAction.ofCode (b : Byte) : Option FilterAction :=
  if b = 0 then some .none else if b = 1 then some .suspect else if b = 2 then some .reject else none

/-- The class of a seen entry (R128): GENUINE or SUSPECT_REFILL. -/
def seenClassOfCode (b : Byte) : Option AccountClass :=
  if b = 0 then some .genuine else if b = 1 then some .suspectRefill else none

/-- yes 1, no 0 (R186). -/
def yesNo (b : Bool) : Byte := if b then 1 else 0

def yesNoOfCode (b : Byte) : Option Bool :=
  if b = 0 then some false else if b = 1 then some true else none

def BusError.code : BusError → Byte
  | .collision => 1 | .framing => 2 | .check => 3 | .length => 4 | .timeout => 5

/-- The error code REFUSED_SPENT of a WRITEBACK_FAILED event (R188). -/
def refusedSpentCode : Byte := 6

/-- Low nibble of a reply's address character (R187); any other value is no status. -/
def CartStatus.ofNibble (b : Byte) : Option CartStatus :=
  if b = 0 then some .done else if b = 1 then some .mismatch else if b = 2 then some .refusedSpent
  else if b = 3 then some .badCommand else none

def EventKind.code : EventKind → Byte
  | .slotState => 1 | .alert => 2 | .level => 3 | .engineSilent => 4 | .swathOverrun => 5
  | .reservationCut => 6 | .purgeAssumed => 7 | .writebackFailed => 8 | .settingsDefaulted => 9
  | .storeFault => 10 | .flushDone => 11 | .overflow => 12

def Status.code : Status → Byte
  | .ok => 0x00 | .clamped => 0x01 | .range => 0x02 | .wrongState => 0x03 | .alertPending => 0x04
  | .busy => 0x05 | .noAccount => 0x06 | .noCartridge => 0x07 | .badCommand => 0x08
  | .busError => 0x09 | .badCheck => 0x0A | .unknownKind => 0x0B | .malformed => 0x0C
  | .duplicateSwath => 0x10 | .tableFull => 0x11 | .powerFail => 0x12 | .engineSilent => 0x13
  | .slotsRefused => 0x14 | .notReady => 0x15 | .short => 0x16 | .purgeBusy => 0x17
  | .unknownPurge => 0x18 | .unknownSwath => 0x19 | .late => 0x1A | .locked => 0x20
  | .calLocked => 0x21 | .calInvalid => 0x22 | .keyLocked => 0x23 | .wrongCode => 0x24

/-- The slot field of an event that concerns no slot (00_scope.md, Numbering). -/
def noSlot : Byte := 15

/-- A slot number as a byte. -/
def slotByte (n : SlotId) : Byte := BitVec.ofNat 8 n.val

/-- The slot a byte names, if it is in 0..9. -/
def slotOf (b : Byte) : Option SlotId :=
  if h : b.toNat < 10 then some ⟨b.toNat, h⟩ else none

end Sys2Proof
end

