-- ==== Sys2Proof/Config.lean ====
section
/-! DEFINITION. What the manual fixes for an implementation without giving its value, and the free values. Each is
opaque: no proof can see it, so a claim about it holds whatever it is (notes/assumptions/6, 15, 19, 20, 22, 27). -/

namespace Sys2Proof.Config

/-- The keyed digest KD, "a fixed, deterministic function that maps a 128-bit key and a message of
any length to 64 bits" (R35). -/
opaque kd : BitVec 128 → List Byte → BitVec 64

/-- The eight random bytes of the k-th draw (R32, R33). -/
opaque randomBytes : Nat → BitVec 64

/-- The seed the k-th draw gives the challenge sequence number (R32). -/
opaque randomSeed : Nat → Word

/-- The silicon revision IDENT reports (R168). -/
opaque siliconRevision : Byte

/-- The key of a digest whose key slot is EMPTY, which no run reaches (R27 check 6). -/
opaque unloadedKey : BitVec 128

/-- The class byte of SLOT_STATUS for a slot with no open account: R24 says "none", R186 gives no number. -/
opaque noClassCode : Byte

/-- The number of an unlock state in a reply; R186 gives none (R167, R168). -/
opaque unlockCode : Unlock → Byte

/-- The number of a key slot's state in a reply, LOADED being true; R186 gives none (R168, R172). -/
opaque keyStateCode : Bool → Byte

/-- The number of a calibration record's validity in SLOT_DUMP, VALID being true; R186 gives none. -/
opaque validityCode : Bool → Byte

/-- The mark of an empty position in HISTORY_READ and HISTORY_DUMP; the manual gives no form (R146). -/
opaque emptyEntry : HistTable → List Byte

/-- How many bytes IDENT's part number takes beyond the fewest that hold it; R186 gives no width (R168). -/
opaque partNumberExtra : Nat

/-- How many bytes IDENT's bit rate takes beyond the fewest that hold it; R186 gives no width (R168). -/
opaque bitRateExtra : Nat

/-- How many bytes SLOT_DUMP's residue takes beyond the fewest that hold it; R186 gives no width (R168). -/
opaque residueExtra : Nat

/-- What a four-byte field carries for a figure above 4,294,967,295 (R186 states no result). -/
opaque oversizeFigure : Nat → Word

/-- How many records STORE_CHECK has read when a write starts, on the k-th draw (R169 reads them in record order and
gives no pace). -/
opaque checkProgress : Nat → Nat

/-- Which of two loaded history entries with one serial and one number is kept: the lower position
if true (R147 speaks of unequal numbers only). -/
opaque tieKeepsLower : Bool

end Sys2Proof.Config
end

