-- ==== Sys2Proof/Machine/Bytes.lean ====
section
/-! DEFINITION. Byte order (R1), field widths (R186) and the two check codes of 00_scope.md. -/

namespace Sys2Proof.Machine

/-! ### Byte order: most significant byte first (R1) -/

def be16 (w : Half) : List Byte := [w.extractLsb' 8 8, w.extractLsb' 0 8]

def be24 (w : BitVec 24) : List Byte := [w.extractLsb' 16 8, w.extractLsb' 8 8, w.extractLsb' 0 8]

def be32 (w : Word) : List Byte :=
  [w.extractLsb' 24 8, w.extractLsb' 16 8, w.extractLsb' 8 8, w.extractLsb' 0 8]

def be64 (w : BitVec 64) : List Byte := be32 (w.extractLsb' 32 32) ++ be32 (w.extractLsb' 0 32)

def be128 (w : BitVec 128) : List Byte := be64 (w.extractLsb' 64 64) ++ be64 (w.extractLsb' 0 64)

def of16 (a b : Byte) : Half := a ++ b

def of24 (a b c : Byte) : BitVec 24 := a ++ b ++ c

def of32 (a b c d : Byte) : Word := a ++ b ++ c ++ d

def of64 (a b c d e f g h : Byte) : BitVec 64 := of32 a b c d ++ of32 e f g h

/-- A number in `k` bytes, most significant first. -/
def beBytes : Nat → Nat → List Byte
  | 0, _ => []
  | k + 1, n => BitVec.ofNat 8 (n / 256 ^ k) :: beBytes k n

/-- The number a run of bytes spells, most significant first. -/
def ofBytes (l : List Byte) : Nat := l.foldl (fun n b => 256 * n + b.toNat) 0

/-- The data bits of a character as they go out, least significant first (R43, R165). -/
def dataBits (b : Byte) : List Bool := (List.range 8).map b.getLsbD

/-- The bits of a byte most significant first, as the two ports carry them (R148). -/
def msbBits (b : Byte) : List Bool := (List.range 8).map b.getMsbD

/-- The bits of a run of bytes on a port's data line (R148). -/
def wireBits (l : List Byte) : List Bool := l.flatMap msbBits

/-- The byte that eight bits spell, the first the most significant (R148). -/
def byteOfBits (l : List Bool) : Byte := BitVec.ofNat 8 (l.foldl (fun n high => 2 * n + high.toNat) 0)

/-- The bytes that the bits of a port's data line spell, eight bits each (R148). -/
def wireBytes : List Bool → List Byte
  | a :: b :: c :: d :: e :: f :: g :: h :: rest => byteOfBits [a, b, c, d, e, f, g, h] :: wireBytes rest
  | _ => []

/-- The byte at place `i` of a run of bytes. -/
def byteAt (l : List Byte) (i : Nat) : Byte := (l[i]?).getD 0

/-! ### Fields of a reply body (R186) -/

/-- A count, at most 255. -/
def u8 (n : Nat) : List Byte := [BitVec.ofNat 8 n]

/-- A two-byte figure. -/
def u16 (n : Nat) : List Byte := be16 (BitVec.ofNat 16 n)

/-- The four-byte number of a figure in µL; one above 4,294,967,295 has no stated form. -/
def figure (n : Nat) : Word := if n < 2 ^ 32 then BitVec.ofNat 32 n else Config.oversizeFigure n

/-- A four-byte figure. -/
def u32 (n : Nat) : List Byte := be32 (figure n)

/-- A figure reported as UNKNOWN, and a figure of none (R186). -/
def noFigure : List Byte := be32 0xFFFFFFFF

/-- The part number in IDENT, most significant byte first: the number takes 2 bytes, the width is free (R1, R168). -/
def partNumber : List Byte := beBytes (2 + Config.partNumberExtra) 3610

/-- A bit rate in IDENT, most significant byte first: at most 230,400 bit/s takes 3 bytes, the width is free (R1, R168). -/
def bitRateField (n : Nat) : List Byte := beBytes (3 + Config.bitRateExtra) n

/-- A residue in SLOT_DUMP, most significant byte first: below 65,536,000,000 fine units it takes 5 bytes, the width is
free (R1, R79, R168). -/
def residueField (n : Nat) : List Byte := beBytes (5 + Config.residueExtra) n

/-- A level of none (R186). -/
def noLevel : Byte := 0xFE

/-- A slot mask: bit n is slot n (R186). -/
def slotMask (f : SlotId → Bool) : Half :=
  allSlots.foldl (fun m n => if f n then m ||| ((1 : Half) <<< n.val) else m) 0

/-! ### Check codes (00_scope.md, Word order and check codes) -/

/-- One bit of the CRC-8 with polynomial 0x07. -/
def crc8Bit (c : Byte) : Byte := if c.getLsbD 7 then (c <<< 1) ^^^ 0x07 else c <<< 1

/-- One byte of the CRC-8, most significant bit first. -/
def crc8Byte (c b : Byte) : Byte :=
  crc8Bit (crc8Bit (crc8Bit (crc8Bit (crc8Bit (crc8Bit (crc8Bit (crc8Bit (c ^^^ b))))))))

/-- The CRC-8 of every link frame, initial value 0x00. -/
def crc8 (l : List Byte) : Byte := l.foldl crc8Byte 0x00

/-- One bit of the CRC-16 with polynomial 0x1021. -/
def crc16Bit (c : Half) : Half := if c.getLsbD 15 then (c <<< 1) ^^^ 0x1021 else c <<< 1

/-- One byte of the CRC-16, most significant bit first. -/
def crc16Byte (c : Half) (b : Byte) : Half :=
  crc16Bit (crc16Bit (crc16Bit (crc16Bit (crc16Bit (crc16Bit (crc16Bit (crc16Bit
    (c ^^^ (b.setWidth 16 <<< 8)))))))))

/-- The CRC-16 of identity blocks, filters and store records, initial value 0xFFFF. -/
def crc16 (l : List Byte) : Half := l.foldl crc16Byte 0xFFFF

end Sys2Proof.Machine
end

