-- ==== Sys2Proof/Syntax.lean ====
section
/-! DEFINITION. The commands of spec/opcode_table.json, one constructor a row. A request carries the body fields of its
frame in R186's order, as received, and the selection that brought it; an event carries what the world decides about it. -/

namespace Sys2Proof

/-- The selection of a four-wire port that ends with a whole frame (R148): whether a reply was READY
when it began, and how many bytes were clocked after the frame. -/
structure Selection where
  ready : Bool
  filler : Nat
deriving DecidableEq, Repr

/-- A character on CBUS: its mark bit and its data byte (R43). -/
structure CbusChar where
  mark : Bool
  data : Byte
deriving DecidableEq, Repr

/-- One entry of a DROP_REPORT (R71). -/
structure DropEntry where
  slot : Byte
  small : Half
  medium : Half
  large : Half
deriving DecidableEq, Repr

/-- One entry of an OPEN_SWATH (R109). -/
structure SwathAsk where
  slot : Byte
  estimate : Half
deriving DecidableEq, Repr

/-- The commands. -/
inductive Instr where
  -- slot lines and lamps
  | presenceLineChange (slot : SlotId) (high : Bool)
  | presenceTimerExpiry (slot : SlotId)
  | lampPhaseExpiry (slot : SlotId)
  -- digest engine
  | derivedKeyDigestComplete
  | responseDigestComplete
  -- cartridge bus
  | breakEnd
  | backoffComplete (idleRun : Nat)
  | preambleComplete
  | collision
  | messageSent
  | replyAddressCharacter (data : Byte)
  | replyDeadlineExpiry
  | cbusFramingError
  | framingDiscardEnd
  | cbusReplyEnd (rest : List CbusChar)
  | replyLengthLimitExpiry
  | idleWaitLimitExpiry
  -- system port
  | slotStatus (slot : Byte) (sel : Selection)
  | levels (sel : Selection)
  | setSlotMode (slot mode : Byte) (sel : Selection)
  | admitSlot (slot : Byte) (sel : Selection)
  | park (slot : Byte) (sel : Selection)
  | unpark (slot : Byte) (sel : Selection)
  | retry (slot : Byte) (sel : Selection)
  | ackAlert (slot : Byte) (sel : Selection)
  | setLamp (slot pattern : Byte) (sel : Selection)
  | takeEvents (n : Byte) (sel : Selection)
  | cartRead (slot offset length : Byte) (sel : Selection)
  | setPolicy (nonGenuine suspect : Byte) (sel : Selection)
  | setLimits (low reserve : Byte) (threshold : Half) (window swath purge : Byte) (sel : Selection)
  | flush (sel : Selection)
  | historyRead (table index : Byte) (sel : Selection)
  | accountStats (slot : Byte) (sel : Selection)
  | sysFrameRejected (frame : List Byte) (sel : Selection)
  | sysPartialSelection (received : List Byte) (ready : Bool)
  | sysCollectSelection (clocked : Nat) (ready : Bool)
  -- engine port
  | openSwath (id : Byte) (asks : List SwathAsk) (sel : Selection)
  | dropReport (id temperature : Byte) (entries : List DropEntry) (sel : Selection)
  | closeSwath (id : Byte) (sel : Selection)
  | purgeStart (slot : Byte) (amount : Half) (sel : Selection)
  | purgeEnd (slot : Byte) (actual : Half) (sel : Selection)
  | gateStatus (sel : Selection)
  | engineRestart (sel : Selection)
  | engFrameRejected (frame : List Byte) (sel : Selection)
  | engPartialSelection (received : List Byte) (ready : Bool)
  | engCollectSelection (clocked : Nat) (ready : Bool)
  | reportWatchdogExpiry
  | swathTimerExpiry (id : Byte)
  | purgeTimerExpiry (slot : SlotId)
  -- service line
  | syncLowRunEnd (lowNs : Nat)
  | syncSamplesComplete (first second third : Bool)
  | ident
  | slotDump
  | historyDump
  | storeCheck
  | storeCheckComplete
  | unlockA (code : Byte)
  | unlockB (code : Byte)
  | writeCal (slot : Byte) (vS vM vL : Half) (kappa : Byte)
  | lockCal (mask : Half)
  | writeColourMap (colours : Vector Byte 10)
  | setRegion (region : Byte)
  | writeFilter (entry enabled offset : Byte) (mask : BitVec 24) (expected : Half) (chain invert action : Byte)
  | clearHistory (table scope : Byte) (serial : Serial)
  | loadKey (index : Byte) (key : BitVec 128)
  | restart
  | svcFrameRejected (frame : List Byte)
  | svcGapTimeout
  | svcReplyStart
  | svcReplySent
  | svcFramingError
  | svcCollision
  | toolBreak
  | svcBreakStart
  | svcBreakEnd
  -- power and store
  | pfailNChange (high : Bool)
  | pfailAsserted
  | pfailWithdrawn
  | busFlushDrained
  | storeFlushComplete
  | writerStart
  | writeComplete
  | powerOn
  | resetLineAsserted
  | resetLineWithdrawn
  | startUpLoadComplete
  | powerLoss
deriving DecidableEq, Repr

end Sys2Proof
end

