-- ==== Sys2Proof/Machine/Frames.lean ====
section
/-! DEFINITION. The link frames: how received bytes are judged and which request they carry (R148, R149, R106, R165, R186),
the frame of each request, and the frames of replies and CBUS messages (R44, R152, R186). -/

namespace Sys2Proof.Machine

/-- What a run of received bytes is (R149, R165). -/
inductive FrameJudgement where
  | notWhole
  | failed (status : Status)
  | taken (request : Instr)
deriving DecidableEq, Repr

/-- Kind byte and body of a system request (R186). -/
def systemBody : Instr → Option (Byte × List Byte)
  | .slotStatus slot _ => some (0x01, [slot])
  | .levels _ => some (0x02, [])
  | .setSlotMode slot mode _ => some (0x03, [slot, mode])
  | .admitSlot slot _ => some (0x04, [slot])
  | .park slot _ => some (0x05, [slot])
  | .unpark slot _ => some (0x06, [slot])
  | .retry slot _ => some (0x07, [slot])
  | .ackAlert slot _ => some (0x08, [slot])
  | .setLamp slot pattern _ => some (0x09, [slot, pattern])
  | .takeEvents n _ => some (0x0A, [n])
  | .cartRead slot offset length _ => some (0x0B, [slot, offset, length])
  | .setPolicy nonGenuine suspect _ => some (0x0C, [nonGenuine, suspect])
  | .setLimits low reserve threshold window swath purge _ =>
    some (0x0D, [low, reserve] ++ be16 threshold ++ [window, swath, purge])
  | .flush _ => some (0x0E, [])
  | .historyRead table index _ => some (0x0F, [table, index])
  | .accountStats slot _ => some (0x10, [slot])
  | _ => none

/-- The bytes of an OPEN_SWATH list entry (R186). -/
def askBytes (a : SwathAsk) : List Byte := a.slot :: be16 a.estimate

/-- The bytes of a DROP_REPORT entry (R186). -/
def dropBytes (e : DropEntry) : List Byte := e.slot :: (be16 e.small ++ be16 e.medium ++ be16 e.large)

/-- Kind byte and body of an engine request (R186). -/
def engineBody : Instr → Option (Byte × List Byte)
  | .openSwath id asks _ => some (0x21, id :: BitVec.ofNat 8 asks.length :: asks.flatMap askBytes)
  | .dropReport id temperature entries _ => some (0x22, id :: temperature :: entries.flatMap dropBytes)
  | .closeSwath id _ => some (0x23, [id])
  | .purgeStart slot amount _ => some (0x24, slot :: be16 amount)
  | .purgeEnd slot actual _ => some (0x25, slot :: be16 actual)
  | .gateStatus _ => some (0x26, [])
  | .engineRestart _ => some (0x27, [])
  | _ => none

/-- Command byte and body of a service command (R186). -/
def serviceBody : Instr → Option (Byte × List Byte)
  | .ident => some (0x41, [])
  | .slotDump => some (0x42, [])
  | .historyDump => some (0x43, [])
  | .storeCheck => some (0x44, [])
  | .restart => some (0x45, [])
  | .unlockA code => some (0x46, [code])
  | .unlockB code => some (0x47, [code])
  | .writeCal slot vS vM vL kappa => some (0x48, slot :: (be16 vS ++ be16 vM ++ be16 vL ++ [kappa]))
  | .lockCal mask => some (0x49, be16 mask)
  | .writeColourMap colours => some (0x4A, colours.toList)
  | .setRegion region => some (0x4B, [region])
  | .writeFilter entry enabled offset mask expected chain invert action =>
    some (0x4C, [entry, enabled, offset] ++ be24 mask ++ be16 expected ++ [chain, invert, action])
  | .clearHistory table scope serial => some (0x4D, table :: scope :: be64 serial)
  | .loadKey index key => some (0x4E, index :: be128 key)
  | _ => none

/-- A system or engine frame: kind, length, body, CRC-8 (R186). -/
def portFrame (kind : Byte) (body : List Byte) : List Byte :=
  let head := kind :: BitVec.ofNat 8 body.length :: body
  head ++ [crc8 head]

/-- A service frame: command, two-byte length, body, CRC-8 (R186). -/
def serviceFrame (command : Byte) (body : List Byte) : List Byte :=
  let head := command :: (be16 (BitVec.ofNat 16 body.length) ++ body)
  head ++ [crc8 head]

/-- The list entries of an OPEN_SWATH body, three bytes each. -/
def readAsks : List Byte → Option (List SwathAsk)
  | [] => some []
  | s :: e1 :: e0 :: rest => (readAsks rest).map (⟨s, of16 e1 e0⟩ :: ·)
  | _ => none

/-- The entries of a DROP_REPORT body, seven bytes each. -/
def readDrops : List Byte → Option (List DropEntry)
  | [] => some []
  | s :: a1 :: a0 :: b1 :: b0 :: c1 :: c0 :: rest =>
    (readDrops rest).map (⟨s, of16 a1 a0, of16 b1 b0, of16 c1 c0⟩ :: ·)
  | _ => none

/-- A system kind and its body: the request, or the status of check 2 or 3 of R149. -/
def readSystem (sel : Selection) (kind : Byte) (body : List Byte) : FrameJudgement :=
  match kind.toNat, body with
  | 0x01, [slot] => .taken (.slotStatus slot sel)
  | 0x02, [] => .taken (.levels sel)
  | 0x03, [slot, mode] => .taken (.setSlotMode slot mode sel)
  | 0x04, [slot] => .taken (.admitSlot slot sel)
  | 0x05, [slot] => .taken (.park slot sel)
  | 0x06, [slot] => .taken (.unpark slot sel)
  | 0x07, [slot] => .taken (.retry slot sel)
  | 0x08, [slot] => .taken (.ackAlert slot sel)
  | 0x09, [slot, pattern] => .taken (.setLamp slot pattern sel)
  | 0x0A, [n] => .taken (.takeEvents n sel)
  | 0x0B, [slot, offset, length] => .taken (.cartRead slot offset length sel)
  | 0x0C, [nonGenuine, suspect] => .taken (.setPolicy nonGenuine suspect sel)
  | 0x0D, [low, reserve, t1, t0, window, swath, purge] =>
    .taken (.setLimits low reserve (of16 t1 t0) window swath purge sel)
  | 0x0E, [] => .taken (.flush sel)
  | 0x0F, [table, index] => .taken (.historyRead table index sel)
  | 0x10, [slot] => .taken (.accountStats slot sel)
  | k, _ => if 0x01 ≤ k ∧ k ≤ 0x10 then .failed .malformed else .failed .unknownKind

/-- An OPEN_SWATH body: its length must be 2 + 3n for its own count byte n (R186). -/
def readOpenSwath (sel : Selection) (id count : Byte) (rest : List Byte) : FrameJudgement :=
  match readAsks rest with
  | some asks => if asks.length = count.toNat then .taken (.openSwath id asks sel) else .failed .malformed
  | none => .failed .malformed

/-- A DROP_REPORT body: its length must be 2 + 7n for some n in 1..10 (R186). -/
def readDropReport (sel : Selection) (id temperature : Byte) (rest : List Byte) : FrameJudgement :=
  match readDrops rest with
  | some es =>
    if 1 ≤ es.length ∧ es.length ≤ 10 then .taken (.dropReport id temperature es sel)
    else .failed .malformed
  | none => .failed .malformed

/-- An engine kind and its body (R106). -/
def readEngine (sel : Selection) (kind : Byte) (body : List Byte) : FrameJudgement :=
  match kind.toNat, body with
  | 0x21, id :: count :: rest => readOpenSwath sel id count rest
  | 0x22, id :: temperature :: rest => readDropReport sel id temperature rest
  | 0x23, [id] => .taken (.closeSwath id sel)
  | 0x24, [slot, a1, a0] => .taken (.purgeStart slot (of16 a1 a0) sel)
  | 0x25, [slot, a1, a0] => .taken (.purgeEnd slot (of16 a1 a0) sel)
  | 0x26, [] => .taken (.gateStatus sel)
  | 0x27, [] => .taken (.engineRestart sel)
  | k, _ => if 0x21 ≤ k ∧ k ≤ 0x27 then .failed .malformed else .failed .unknownKind

/-- The ten colour codes of a WRITE_COLOUR_MAP body. -/
def readColours (body : List Byte) : FrameJudgement :=
  if h : body.length = 10 then .taken (.writeColourMap ⟨body.toArray, by simpa using h⟩)
  else .failed .malformed

/-- A service command byte and its body (R165, R186). -/
def readService (command : Byte) (body : List Byte) : FrameJudgement :=
  match command.toNat, body with
  | 0x41, [] => .taken .ident
  | 0x42, [] => .taken .slotDump
  | 0x43, [] => .taken .historyDump
  | 0x44, [] => .taken .storeCheck
  | 0x45, [] => .taken .restart
  | 0x46, [code] => .taken (.unlockA code)
  | 0x47, [code] => .taken (.unlockB code)
  | 0x48, [slot, s1, s0, m1, m0, l1, l0, kappa] =>
    .taken (.writeCal slot (of16 s1 s0) (of16 m1 m0) (of16 l1 l0) kappa)
  | 0x49, [m1, m0] => .taken (.lockCal (of16 m1 m0))
  | 0x4A, body => readColours body
  | 0x4B, [region] => .taken (.setRegion region)
  | 0x4C, [entry, enabled, offset, m2, m1, m0, e1, e0, chain, invert, action] =>
    .taken (.writeFilter entry enabled offset (of24 m2 m1 m0) (of16 e1 e0) chain invert action)
  | 0x4D, [table, scope, a, b, c, d, e, f, g, h] =>
    .taken (.clearHistory table scope (of64 a b c d e f g h))
  | 0x4E, [index, a, b, c, d, e, f, g, h, i, j, k, l, m, n, o, p] =>
    .taken (.loadKey index (of64 a b c d e f g h ++ of64 i j k l m n o p))
  | k, _ => if 0x41 ≤ k ∧ k ≤ 0x4E then .failed .malformed else .failed .unknownKind

/-- Judges the bytes received in one selection whose first byte is not 0x00 (R148, R149); `read` finds
the request of a kind. Bytes after the check byte are filler. -/
def judgePort (read : Byte → List Byte → FrameJudgement) : List Byte → FrameJudgement
  | kind :: len :: rest =>
    let body := rest.take len.toNat
    match rest[len.toNat]? with
    | none => .notWhole
    | some check =>
      if check = crc8 (kind :: len :: body) then read kind body else .failed .badCheck
  | _ => .notWhole

/-- Judges the bytes of a service frame (R165). -/
def judgeService : List Byte → FrameJudgement
  | command :: l1 :: l0 :: rest =>
    let len := (of16 l1 l0).toNat
    let body := rest.take len
    match rest[len]? with
    | none => .notWhole
    | some check =>
      if check = crc8 (command :: l1 :: l0 :: body) then readService command body else .failed .badCheck
  | _ => .notWhole

/-- The system port's judgement of a frame. -/
def judgeSystem (sel : Selection) : List Byte → FrameJudgement := judgePort (readSystem sel)

/-- The engine port's judgement of a frame. -/
def judgeEngine (sel : Selection) : List Byte → FrameJudgement := judgePort (readEngine sel)

/-- Bytes of a whole port frame, from its length byte (R148). -/
def portFrameLength (frame : List Byte) : Nat := (byteAt frame 1).toNat + 3

/-! ### Reply frames -/

/-- A system or engine reply (R152, R186). -/
structure Reply where
  kind : Byte
  status : Status
  flags : Byte
  body : List Byte
deriving DecidableEq, Repr

/-- The kind of a reply is its request's with 0x80 added (R152). -/
def replyKind (kind : Byte) : Byte := 0x80 ||| kind

/-- The flags byte of a reply (R186). -/
def replyFlags (lost events clamped tempClamped : Bool) : Byte :=
  (if lost then 0x01 else 0) ||| (if events then 0x02 else 0) |||
    (if clamped then 0x04 else 0) ||| (if tempClamped then 0x08 else 0)

/-- The bytes of a reply frame. -/
def Reply.frame (r : Reply) : List Byte :=
  let head := r.kind :: r.status.code :: r.flags :: BitVec.ofNat 8 r.body.length :: r.body
  head ++ [crc8 head]

/-- The NONE reply (R150, R186). -/
def noneReply : Reply := ⟨0x80, .ok, 0, []⟩

/-- A reply of the service line (R165, R186). -/
structure SvcReply where
  command : Byte
  status : Status
  body : List Byte
deriving DecidableEq, Repr

/-- The bytes of a service reply frame. -/
def SvcReply.frame (r : SvcReply) : List Byte :=
  let head := r.command :: r.status.code :: (be16 (BitVec.ofNat 16 r.body.length) ++ r.body)
  head ++ [crc8 head]

/-- The 10 bit-times of a service character, high being true: the start bit, the data bits least significant first and
the stop bit (R165). -/
def svcCharBits (b : Byte) : List Bool := false :: (dataBits b ++ [true])

/-- The bit-times of a service reply, its characters back to back (R165). -/
def SvcReply.bits (r : SvcReply) : List Bool := r.frame.flatMap svcCharBits

/-- The bytes the part sends in a selection in which `n` bytes are clocked: the reply's frame, then
0x00 (R148). -/
def clockedOut (r : Reply) (n : Nat) : List Byte := (r.frame ++ List.replicate n 0x00).take n

end Sys2Proof.Machine
end

