-- ==== Sys2Proof/Decode.lean ====
section
/-! DEFINITION. From what the links carry to commands. No row of spec/opcode_table.json has bits, so no word spells a
command; the system and engine ports spell theirs in selections (R148, R149, R106) and the service line in frames (R165). -/

namespace Sys2Proof

/-- The command a word spells by the table's bits: none, for the table gives no row any. -/
def decodeTableWord (_nbits _w : Nat) : Option Instr := none

namespace Decode

open Sys2Proof.Machine

/-- The bytes clocked after a whole frame. -/
def fillerAfter (received : List Byte) : Nat := received.length - portFrameLength received

/-- The command a selection of the system port is (R148, R149, R150): `received` holds every byte clocked in, and
`ready` says whether a reply was READY when the selection began. A selection with no clock is no command. -/
def systemSelection (received : List Byte) (ready : Bool) : Option Instr :=
  if received.isEmpty then none
  else if received.head? = some 0 then some (.sysCollectSelection received.length ready)
  else
    let sel : Selection := ⟨ready, fillerAfter received⟩
    match judgeSystem sel received with
    | .notWhole => some (.sysPartialSelection received ready)
    | .failed _ => some (.sysFrameRejected (received.take (portFrameLength received)) sel)
    | .taken i => some i

/-- The command a selection of the engine port is (R106). -/
def engineSelection (received : List Byte) (ready : Bool) : Option Instr :=
  if received.isEmpty then none
  else if received.head? = some 0 then some (.engCollectSelection received.length ready)
  else
    let sel : Selection := ⟨ready, fillerAfter received⟩
    match judgeEngine sel received with
    | .notWhole => some (.engPartialSelection received ready)
    | .failed _ => some (.engFrameRejected (received.take (portFrameLength received)) sel)
    | .taken i => some i

/-- The command that the bits clocked in on SYS_DI in a selection are, most significant bit of each byte first; the formatter
clocks whole bytes (R148). -/
def systemClocked (bits : List Bool) (ready : Bool) : Option Instr :=
  if bits.length % 8 = 0 then systemSelection (wireBytes bits) ready else none

/-- The command that the bits clocked in on ENG_DI in a selection are (R106, R148). -/
def engineClocked (bits : List Bool) (ready : Bool) : Option Instr :=
  if bits.length % 8 = 0 then engineSelection (wireBytes bits) ready else none

/-- The command a run of characters of the service line from the first of a frame is (R165); a frame that is not yet whole
is received so far. -/
def serviceFrameTaken (received : List Byte) : Option Instr :=
  match judgeService received with
  | .notWhole => if received.isEmpty then none else some (.svcFrameRejected received)
  | .failed _ => some (.svcFrameRejected received)
  | .taken i => some i

/-- The frame of a request or service command (R186), none for a command that is no frame. -/
def encodeFrame (i : Instr) : Option (List Byte) :=
  match systemBody i, engineBody i, serviceBody i with
  | some (kind, body), _, _ => some (portFrame kind body)
  | none, some (kind, body), _ => some (portFrame kind body)
  | none, none, some (command, body) => some (serviceFrame command body)
  | none, none, none => none

end Decode

end Sys2Proof
end

