-- ==== Sys2Proof/Machine/State.lean ====
section
/-! DEFINITION. The state of the IJ-3610, block by block, as plain data, and the state right after a power-on reset is
taken. INVENTORY.md lists each field with the rule that names it. -/

namespace Sys2Proof.Machine

/-- A running timer: the clock at its start and its window, in bit-times of 10 µs. -/
structure Timer where
  start : Nat
  window : Nat
deriving DecidableEq, Repr

/-! ### Lines and settings -/

/-- Levels of the input lines, high being true (00_scope.md, Signal list). -/
structure Lines where
  presence : Vector Bool 10
  pfailN : Bool
  resetN : Bool
deriving DecidableEq, Repr

/-- The six limits (R156). -/
structure Limits where
  low : Nat
  reserve : Nat
  threshold : Nat
  window : Nat
  swath : Nat
  purge : Nat
deriving DecidableEq, Repr

/-- The RAM copy of the settings record (R174). -/
structure Settings where
  nonGenuine : NonGenuinePolicy
  suspect : SuspectPolicy
  limits : Limits
  modes : Vector Mode 10
  colours : Vector Byte 10
  region : Byte
deriving DecidableEq, Repr

/-- The RAM copy of a calibration record (R68); κ is two's complement. -/
structure Calibration where
  vS : Half
  vM : Half
  vL : Half
  kappa : Byte
  valid : Bool
deriving DecidableEq, Repr

/-! ### Slot controller -/

/-- A slot record (R2) with its lamp (R21). -/
structure SlotRec where
  state : SlotState
  target : Target
  alert : Option AlertCode
  alertCount : Nat
  present : Bool
  presenceTimer : Option Timer
  override : Option LampPattern
  shown : LampPattern
  lampPhase : Nat
deriving DecidableEq, Repr

/-! ### Proof unit -/

/-- An identity record: the block as received and the fields of R25. -/
structure IdRecord where
  raw : List Byte
  version : Byte
  colour : Byte
  model : Half
  serial : Serial
  lot : Option Word
  capacity : Word
  week : Half
  region : Byte
  keyIndex : Byte
  vendor : List Byte
deriving DecidableEq, Repr

/-- Phases of the proof context (R34). -/
inductive ProofPhase where
  | free | awaitingReply | checking
deriving DecidableEq, Repr

/-- The derived key or the expected response: absent, being computed, or a value (R34). -/
inductive DigestField where
  | absent | computing | value (key : BitVec 64)
deriving DecidableEq, Repr

/-- The proof context (R34). The expected response is compared, and the context cleared, in the step in which
its digest completes (R36). -/
structure ProofContext where
  slot : Option SlotId
  phase : ProofPhase
  challenge : Option (BitVec 96)
  derivedKey : DigestField
  expected : DigestField
  response : Option (BitVec 64)
  counter : Option Word
  flags : Option Byte
deriving DecidableEq, Repr

/-- A digest under way (R39): which one, its key and its message. -/
inductive Digest where
  | derivedKey (key : BitVec 128) (message : List Byte)
  | response (key : BitVec 128) (message : List Byte)
deriving DecidableEq, Repr

/-- The proof unit. -/
structure Prf where
  identity : Vector (Option IdRecord) 10
  keys : Vector (Option (BitVec 128)) 4
  seqNo : Word
  ctx : ProofContext
  digest : Option Digest
deriving DecidableEq, Repr

/-! ### Cartridge bus controller -/

/-- A cartridge command as a transaction (R48); a pass-through read carries the tag of its CART_READ. -/
inductive TxCommand where
  | admission (step : AdmissionStep)
  | writeBack (op : WbOp)
  | readArea (offset length : Byte) (tag : Nat)
deriving DecidableEq, Repr

/-- A waiting entry of the transaction queue, by its place (R60). -/
inductive QEntry where
  | admission (slot : SlotId) (step : AdmissionStep)
  | writeBack (slot : SlotId) (ops : List WbOp)
  | passThrough (slot : SlotId) (offset length : Byte) (tag : Nat)
deriving DecidableEq, Repr

/-- The line action of an attempt (R50). `sending` carries how many bits of the message have been driven (R43);
`taking` carries the reply's address character; `discarding` says whether that character had been taken (R55);
`held` is an accepted CHALLENGE reply awaiting PRF (R59). -/
inductive LineAction where
  | breaking | backoff | preamble
  | sending (sent : Nat)
  | awaiting
  | taking (address : Byte)
  | discarding (addressTaken : Bool)
  | held
deriving DecidableEq, Repr

/-- The transaction on the line (R49, R50, R57). `expected` and `amount` are those of an ADD_USED (R94). -/
structure Transaction where
  slot : SlotId
  command : TxCommand
  attempt : Nat
  body : List Byte
  expected : Nat
  amount : Nat
  action : LineAction
  noted : List BusError
  deadline : Option Timer
  limit : Option Timer
deriving DecidableEq, Repr

/-- The cartridge bus controller. -/
structure Cbc where
  line : Option Transaction
  queue : List QEntry
  breakOwed : Bool
  idle : Nat
  backoff : Nat
  flush : Bool
deriving DecidableEq, Repr

/-! ### Accounts -/

/-- An ink account (R83); figures are whole µL held exactly, the residue is in fine units. -/
structure Account where
  serial : Serial
  capacity : Nat
  keyIndex : Byte
  version : Byte
  cls : AccountClass
  refill : Option RefillReason
  metered : Bool
  base : Nat
  catchUp : Nat
  confirmed : Nat
  inFlight : Nat
  pendingInk : Nat
  doubtful : Nat
  residue : Nat
  dropTotal : Nat
  purgeTotal : Nat
  failures : Nat
  suspended : Bool
  spent : SpentState
  level : Level
deriving DecidableEq, Repr

/-! ### Engine port -/

/-- A slot listed in a swath (R108). -/
structure Listed where
  slot : SlotId
  hold : Nat
  debited : Nat
deriving DecidableEq, Repr

/-- A swath table entry (R108); its place in the table is the opening order. -/
structure Swath where
  id : Byte
  state : SwathState
  slots : List Listed
  timer : Option Timer
deriving DecidableEq, Repr

/-- A held purge record (R118). -/
structure Purge where
  requested : Nat
  hold : Nat
  timer : Timer
deriving DecidableEq, Repr

/-- The engine port. `table` is older first. -/
structure Engp where
  table : List Swath
  expired : Bool
  watchdog : Option Timer
  purges : Vector (Option Purge) 10
  gates : Vector Bool 10
  reply : Option Reply
  sent : List Byte
deriving DecidableEq, Repr

/-! ### History and filters -/

/-- A seen entry (R128). -/
structure SeenEntry where
  serial : Serial
  consumed : Nat
  unwritten : Nat
  lastSlot : SlotId
  lastClass : AccountClass
  stamp : Nat
deriving DecidableEq, Repr

/-- A retired entry (R130). -/
structure RetiredEntry where
  serial : Serial
  reason : RetiredReason
  number : Nat
deriving DecidableEq, Repr

/-- An identity filter entry (R139). -/
structure Filter where
  enabled : Bool
  offset : Byte
  mask : BitVec 24
  expected : Half
  chain : Bool
  invert : Bool
  action : FilterAction
deriving DecidableEq, Repr

/-- The cartridge history unit and the identity filters. -/
structure His where
  seen : Vector (Option SeenEntry) 32
  retired : Vector (Option RetiredEntry) 64
  stamp : Nat
  retire : Nat
  filters : Vector Filter 6
deriving DecidableEq, Repr

/-! ### System port -/

/-- An event record (R159). -/
structure Event where
  seq : Byte
  kind : EventKind
  slot : Byte
  code : Byte
  value : Option Word
deriving DecidableEq, Repr

/-- The reply holder (R150). WAITING names the awaited read and keeps the REPLY_LOST of its request. -/
inductive Holder where
  | empty
  | waiting (tag : Nat) (lost : Bool)
  | ready (reply : Reply)
deriving DecidableEq, Repr

/-- The system port. -/
structure Sysp where
  holder : Holder
  events : List Event
  seq : Byte
  readTag : Nat
  sent : List Byte
deriving DecidableEq, Repr

/-! ### Service line -/

/-- The error handling of R166 between the error and the end of the part's break. -/
inductive LineError where
  | none | breakDue | breaking
deriving DecidableEq, Repr

/-- What a stored record is judged to be (R175). -/
inductive Judgement where
  | blank | good | bad
deriving DecidableEq, Repr

/-- The service line. `frame` is the frame being received, its bytes so far from the first (R165). `check` holds, while
STORE_CHECK runs, the judgements it has made so far, in record order (R169). `sent` is the bit-times of the reply being sent,
or of the last one, that are over, high being true, and `begun` the clock at which its first start bit began (R165). -/
structure Svl where
  line : LineState
  frame : List Byte
  rate : Option Nat
  candidate : Option Nat
  unlock : Unlock
  reply : Option SvcReply
  check : Option (List Judgement)
  restart : Bool
  error : LineError
  sent : List Bool
  begun : Nat
deriving DecidableEq, Repr

/-! ### Settings store -/

/-- The stored contents of the settings record, as written (R174); judged by R175. -/
structure SettingsImage where
  nonGenuine : Byte
  suspect : Byte
  low : Byte
  reserve : Byte
  threshold : Half
  window : Byte
  swath : Byte
  purge : Byte
  modes : Vector Byte 10
  colours : Vector Byte 10
  region : Byte
deriving DecidableEq, Repr

/-- The stored contents of a filter record. -/
structure FilterImage where
  enabled : Byte
  offset : Byte
  mask : BitVec 24
  expected : Half
  chain : Byte
  invert : Byte
  action : Byte
deriving DecidableEq, Repr

/-- The stored contents of a seen record that is not marked empty. -/
structure SeenImage where
  serial : Serial
  consumed : Word
  unwritten : Word
  lastSlot : Byte
  lastClass : Byte
  stamp : Word
deriving DecidableEq, Repr

/-- The stored contents of a retired record that is not marked empty. -/
structure RetiredImage where
  serial : Serial
  reason : Byte
  number : Word
deriving DecidableEq, Repr

/-- The contents of a record, by its kind (R174). -/
inductive Contents where
  | settings (image : SettingsImage)
  | calibration (vS vM vL : Half) (kappa : Byte)
  | locks (locks : Vector Bool 10)
  | filter (image : FilterImage)
  | key (key : BitVec 128)
  | seen (entry : Option SeenImage)
  | retired (entry : Option RetiredImage)
deriving DecidableEq, Repr

/-- A stored record: never written, left by a write that was cut off, or written with a stored CRC-16 (R174, R175,
R181). What bytes a cut write leaves is not said, but that the check does not fit is. -/
inductive Stored where
  | blank
  | broken
  | written (contents : Contents) (check : Half)
deriving DecidableEq, Repr

/-- The settings store but for the RAM copies, which stand with the blocks that use them. -/
structure Sto where
  stored : Vector Stored 118
  dirty : Vector Bool 118
  writer : Option (Fin 118 × Contents)
  last : Fin 118
  carried : Option (Fin 118 × Contents)
  power : PowerState
  filter : Timer
deriving DecidableEq, Repr

/-! ### The machine -/

/-- The state of the IJ-3610. -/
structure State where
  phase : Phase
  lines : Lines
  clock : Nat
  draws : Nat
  slots : Vector SlotRec 10
  prf : Prf
  cbc : Cbc
  accounts : Vector (Option Account) 10
  engp : Engp
  his : His
  sysp : Sysp
  svl : Svl
  settings : Settings
  cal : Vector Calibration 10
  locks : Vector Bool 10
  sto : Sto
  pending : List Instr
deriving DecidableEq, Repr

/-- Reasons for which the machine stops with a fault: none. No command of this block has an effect the
manual leaves undefined, so the type has no member (safe). -/
inductive Fault where
deriving DecidableEq, Repr

/-- Reasons for which a command is refused. -/
inductive Refusal where
  /-- Raised by exec's arm of a command that has no meaning yet; no arm raises it (safe). -/
  | notModelled (mnemonic : String)
deriving DecidableEq, Repr

/-- The outcome of a command. -/
abbrev Outcome := Host.Outcome State Fault Refusal

/-! ### After a full reset -/

/-- The defaults of R176. -/
def defaultSettings : Settings where
  nonGenuine := .block
  suspect := .warn
  limits := ⟨15, 5, 250, 25, 8, 20⟩
  modes := Vector.replicate 10 .auto
  colours := #v[1, 2, 3, 4, 5, 6, 7, 8, 9, 10]
  region := 0

/-- A calibration record that is blank or bad (R176). -/
def invalidCalibration : Calibration := ⟨0, 0, 0, 0, false⟩

/-- A cleared filter entry (R139). -/
def clearedFilter : Filter := ⟨false, 0, 0, 0, false, false, .none⟩

/-- A slot record after a full reset, before the presence line is sampled (R23). R23 gives the state and the filtered presence
only from that sample: until then VACANT, with the pattern OFF that goes with it, and ABSENT are the model's choice
(notes/assumptions/5). -/
def resetSlot : SlotRec := ⟨.vacant, .online, none, 0, false, none, none, .off, 0⟩

/-- The free proof context (R34, R42). -/
def freeContext : ProofContext := ⟨none, .free, none, .absent, .absent, none, none, none⟩

/-- The state right after power-on of a part as manufactured: every block at its value after full
reset, the store blank, the load not yet done (R179 step 1). -/
def State.reset : State where
  phase := .loading
  lines := ⟨Vector.replicate 10 false, true, true⟩
  clock := 0
  draws := 1
  slots := Vector.replicate 10 resetSlot
  prf := ⟨Vector.replicate 10 none, Vector.replicate 4 none, Config.randomSeed 0, freeContext, none⟩
  cbc := ⟨none, [], true, 0, 0, false⟩
  accounts := Vector.replicate 10 none
  engp := ⟨[], false, none, Vector.replicate 10 none, Vector.replicate 10 false, none, []⟩
  his := ⟨Vector.replicate 32 none, Vector.replicate 64 none, 1, 1, Vector.replicate 6 clearedFilter⟩
  sysp := ⟨.empty, [], 0, 0, []⟩
  svl := ⟨.waitSync, [], none, none, .none, none, none, false, .none, [], 0⟩
  settings := defaultSettings
  cal := Vector.replicate 10 invalidCalibration
  locks := Vector.replicate 10 false
  sto := ⟨Vector.replicate 118 .blank, Vector.replicate 118 false, none, 21, none, .normal, ⟨0, 0⟩⟩
  pending := []

end Sys2Proof.Machine
end

