-- ==== Sys2Proof/Machine/Ops.lean ====
section
/-! DEFINITION. The operations every block shares: the records of slots and accounts, the event queue (R160), dirty marks
(R174), the derived quantities of R85, the gate condition (R107), lamps (R21, R22) and a change of slot state (R20). -/

namespace Sys2Proof.Machine

/-! ### Tables -/

/-- `v` with `f` applied at place `i`. -/
def upd {α : Type} {k : Nat} (v : Vector α k) (i : Fin k) (f : α → α) : Vector α k := put v i (f v[i])

/-- The slot record of `n` changed by `f`. -/
def modSlot (s : State) (n : SlotId) (f : SlotRec → SlotRec) : State :=
  { s with slots := upd s.slots n f }

/-- The account of `n` replaced. -/
def setAccount (s : State) (n : SlotId) (a : Option Account) : State :=
  { s with accounts := put s.accounts n a }

/-- The account of `n`, if open, changed by `f`. -/
def modAccount (s : State) (n : SlotId) (f : Account → Account) : State :=
  { s with accounts := upd s.accounts n (Option.map f) }

/-- `f` taken for every slot in slot order, 0 first. -/
def forSlots (f : State → SlotId → State) (s : State) : State := allSlots.foldl f s

/-- Milliseconds in bit-times of 10 µs. -/
def ms (n : Nat) : Nat := 100 * n

/-- A timer started now with a window of bit-times. -/
def startTimer (s : State) (window : Nat) : Timer := ⟨s.clock, window⟩

/-! ### Records of the settings store (R174) -/

def recSettings : Fin 118 := 0
def recCalibration (n : SlotId) : Fin 118 := ⟨1 + n.val, by omega⟩
def recLocks : Fin 118 := 11
def recFilter (e : Fin 6) : Fin 118 := ⟨12 + e.val, by omega⟩
def recKey (k : Fin 4) : Fin 118 := ⟨18 + k.val, by omega⟩
def recSeen (p : Fin 32) : Fin 118 := ⟨22 + p.val, by omega⟩
def recRetired (p : Fin 64) : Fin 118 := ⟨54 + p.val, by omega⟩

/-- A record marked dirty (R174). -/
def markDirty (s : State) (r : Fin 118) : State :=
  { s with sto := { s.sto with dirty := put s.sto.dirty r true } }

/-- Whether any record is dirty. -/
def anyDirty (s : State) : Bool := s.sto.dirty.toList.any id

/-- PFAIL is taken as asserted in every power state but NORMAL (R182, R184). -/
def pfailAsserted (s : State) : Bool := s.sto.power != .normal

/-! ### The event queue (R159, R160) -/

/-- An OVERFLOW value one higher, stopping at 255 (R160 case 3). -/
def bumpOverflow (e : Event) : Event :=
  if e.kind = .overflow then
    { e with value := some (BitVec.ofNat 32 (min 255 ((e.value.getD 0).toNat + 1))) }
  else e

/-- The record that replaces the newest one of a full queue (R160 case 2). -/
def overflowOf (newest : Event) : Event := ⟨newest.seq, .overflow, noSlot, 0, some 2⟩

/-- The queue after an event is taken, and whether the event was stored (R160). -/
def takeEvent (q : List Event) (e : Event) : List Event × Bool :=
  if q.any (·.kind == .overflow) then (q.map bumpOverflow, false)
  else if q.length < 24 then (q ++ [e], true)
  else (q.dropLast ++ (q.getLast?.map overflowOf).toList, false)

/-- An event posted into the queue of the system port (R160). -/
def postEvent (s : State) (kind : EventKind) (slot code : Byte) (value : Option Word) : State :=
  let (q, stored) := takeEvent s.sysp.events ⟨s.sysp.seq, kind, slot, code, value⟩
  { s with sysp := { s.sysp with events := q, seq := if stored then s.sysp.seq + 1 else s.sysp.seq } }

/-- ATTN is high exactly while a record is held (R162). -/
def attn (s : State) : Bool := !s.sysp.events.isEmpty

/-- SYS_RDY is high exactly while the holder is READY (R150). -/
def sysRdy (s : State) : Bool := match s.sysp.holder with | .ready _ => true | _ => false

/-- ENG_RDY is high exactly while a reply is held (R106). -/
def engRdy (s : State) : Bool := s.engp.reply.isSome

/-- Where a port stands: its select line high, or low with so many clocks of the selection over. -/
inductive PortMoment where
  | deselected
  | selected (clocks : Nat)
deriving DecidableEq, Repr

/-- What a port's data output shows, high being true and none being high impedance: while deselected nothing, in a selection
the bytes the part sends, most significant bit first (R148). A part out of service ignores the selection (R179). -/
def portDo (s : State) (sent : List Byte) : PortMoment → Option Bool
  | .deselected => none
  | .selected clocks => if s.phase = .running then (wireBits sent)[clocks]? else none

/-- SYS_DO: between commands the port is deselected, and a moment of a selection is one of the selection that the last
command of the port was (R148, R163). -/
def sysDo (s : State) (p : PortMoment) : Option Bool := portDo s s.sysp.sent p

/-- ENG_DO, as SYS_DO (R106, R148). -/
def engDo (s : State) (p : PortMoment) : Option Bool := portDo s s.engp.sent p

/-- The level the part puts on SVC, high when it releases the line: low in its break, in SENDING the bit of the reply that
follows those that are over (R165, R166). -/
def svcLevel (s : State) : Bool :=
  match s.svl.error, s.svl.line, s.svl.reply with
  | .breaking, _, _ => false
  | .none, .sending, some r => ((r.bits)[s.svl.sent.length]?).getD true
  | _, _, _ => true

/-! ### Derived quantities (R85) -/

def consumedView (a : Account) : Nat := a.base + a.confirmed + a.inFlight + a.pendingInk

/-- Natural subtraction stops at 0, as the headroom does. -/
def headroom (a : Account) : Nat := a.capacity - consumedView a

/-- Whether a swath lists a slot (R108). -/
def lists (w : Swath) (n : SlotId) : Bool := w.slots.any (·.slot == n)

/-- The hold a swath carries for a slot. -/
def holdOf (w : Swath) (n : SlotId) : Nat := ((w.slots.find? (·.slot == n)).map (·.hold)).getD 0

/-- A slot's purge hold. -/
def purgeHold (s : State) (n : SlotId) : Nat := (s.engp.purges[n].map (·.hold)).getD 0

/-- A slot's swath holds and purge hold together. -/
def holds (s : State) (n : SlotId) : Nat := (s.engp.table.map (holdOf · n)).sum + purgeHold s n

def available (s : State) (n : SlotId) (a : Account) : Nat := headroom a - holds s n

/-- A swath with a slot's listing changed. -/
def modListed (w : Swath) (n : SlotId) (f : Listed → Listed) : Swath :=
  { w with slots := w.slots.map (fun l => if l.slot = n then f l else l) }

/-! ### Gate lines (R107) -/

/-- The account may feed the heads: unmetered, or with headroom above zero. -/
def feeds (a : Account) : Bool := !a.metered || decide (0 < headroom a)

def gateCondition (s : State) (n : SlotId) : Bool :=
  decide (s.slots[n].state = .ready) && !pfailAsserted s && !s.engp.expired &&
    (s.accounts[n].map feeds).getD false

/-- Gate line `n` re-evaluated. -/
def reevalGate (s : State) (n : SlotId) : State :=
  { s with engp := { s.engp with gates := put s.engp.gates n (gateCondition s n) } }

/-- Every gate line re-evaluated. -/
def reevalGates (s : State) : State :=
  { s with engp := { s.engp with gates := tab 10 (gateCondition s) } }

/-- The gate mask, bit n for slot n. -/
def gateMask (s : State) : Half := slotMask (fun n => s.engp.gates[n])

/-! ### Lamps (R21, R22) -/

/-- The pattern a slot state shows with no override; a READY slot's depends on its level. -/
def statePattern (st : SlotState) (level : Option Level) : LampPattern :=
  match st with
  | .vacant | .parked => .off
  | .seated | .reading | .proving | .reconciling => .blinkSlow
  | .exhausted | .rejected _ => .blinkFast
  | .ready =>
    match level with
    | some .low | some .reserve => .flash2
    | some .empty => .blinkFast
    | _ => .on

/-- The state pattern of slot `n`. -/
def patternOf (s : State) (n : SlotId) : LampPattern :=
  statePattern s.slots[n].state (s.accounts[n].map (·.level))

/-- A lamp after a change of slot state, or of level while READY: an override is removed; a pattern that
differs, or that an override hid, starts at the beginning of its cycle (R21, R22). -/
def lampAfterChange (s : State) (n : SlotId) : State :=
  let p := patternOf s n
  modSlot s n fun r =>
    if r.override.isSome || r.shown != p then { r with override := none, shown := p, lampPhase := 0 } else r

/-- Whether slot `n`'s lamp is lit: dark until the load has ended (R23), then as its pattern's interval says. -/
def lampLit (s : State) (n : SlotId) : Bool :=
  s.phase == .running && ((s.slots[n].shown.cycle[s.slots[n].lampPhase]?).map (·.1)).getD false

/-- The level of LAMP line `n`, high being true: a lit lamp drives it low, and a dark one leaves it high, its inactive level
(R21, Signal list). A part without power drives none. -/
def lampLine (s : State) (n : SlotId) : Option Bool := if s.phase = .off then none else some (!lampLit s n)

/-! ### A change of slot state (R20) -/

/-- The value of a SLOT_STATE event: the rejection reason, for REJECTED (R159). -/
def stateValue (st : SlotState) : Option Word := st.reason.map fun r => r.code.setWidth 32

/-- The slot takes a state: the lamp follows, the SLOT_STATE event is posted and the gate is
re-evaluated (R20). -/
def moveSlot (s : State) (n : SlotId) (st : SlotState) : State :=
  let s := lampAfterChange (modSlot s n fun r => { r with state := st }) n
  reevalGate (postEvent s .slotState (slotByte n) st.code (stateValue st)) n

/-- An alert raised on a slot (R18): stored if none is pending, counted otherwise, and posted. -/
def raiseAlert (s : State) (n : SlotId) (code : AlertCode) (value : Option Word) : State :=
  let s := modSlot s n fun r =>
    match r.alert with
    | none => { r with alert := some code, alertCount := 0 }
    | some _ => { r with alertCount := min 15 (r.alertCount + 1) }
  postEvent s .alert (slotByte n) code.code value

/-- Whether a slot is REJECTED(CONTACT_LOST). -/
def contactLost (s : State) (n : SlotId) : Bool := s.slots[n].state == .rejected .contactLost

/-- The account states (1.1). -/
def inAccountState (s : State) (n : SlotId) : Bool :=
  s.slots[n].state == .ready || s.slots[n].state == .parked || s.slots[n].state == .exhausted

end Sys2Proof.Machine
end

