-- ==== Sys2Proof/Machine/History.lean ====
section
/-! DEFINITION. Refill detection and cartridge history (07): seen entries (R129), the retired list (R130), account close
(R131), provisional entries (R132), the identity filters (R139 to R143), reconciliation (R133 to R137), clearing (R145). -/

namespace Sys2Proof.Machine

/-! ### Positions and order -/

/-- The place of least `f` among `l`, the first of equals, `d` if `l` is empty. -/
def leastBy {k : Nat} (f : Fin k → Nat) (d : Fin k) : List (Fin k) → Fin k
  | [] => d
  | i :: l => l.foldl (fun b j => if f j < f b then j else b) i

/-- How many other entries stand before place `i` in the order of `num`, equal numbers by position. -/
def rankOf {α : Type} {k : Nat} (t : Vector (Option α) k) (num : α → Nat) (skip : Option (Fin k)) (i : Fin k) : Nat :=
  ((List.finRange k).filter fun j =>
    decide (some j ≠ skip) && match t[i], t[j] with
      | some x, some y => decide (num y < num x) || (decide (num y = num x) && decide (j.val < i.val))
      | _, _ => false).length

/-- How many entries are present, apart from place `skip`. -/
def countPresent {α : Type} {k : Nat} (t : Vector (Option α) k) (skip : Option (Fin k)) : Nat :=
  ((List.finRange k).filter fun j => decide (some j ≠ skip) && t[j].isSome).length

/-- The entries present but for place `p`, renumbered from 1 in their existing order (R129). -/
def renumber {α : Type} {k : Nat} (t : Vector (Option α) k) (num : α → Nat) (setNum : α → Nat → α) (p : Fin k) :
    Vector (Option α) k :=
  tab k fun j => if j = p then t[j] else t[j].map fun x => setNum x (rankOf t num (some p) j + 1)

/-- Every present entry's record but `p`'s marked dirty. -/
def markOthers {α : Type} {k : Nat} (s : State) (t : Vector (Option α) k) (rec : Fin k → Fin 118) (p : Fin k) : State :=
  (List.finRange k).foldl (fun s j => if j ≠ p ∧ t[j].isSome = true then markDirty s (rec j) else s) s

/-! ### The seen table -/

/-- Whether a place holds an entry with the serial. -/
def hasSerial (serial : Serial) (e : Option SeenEntry) : Bool := (e.map (·.serial == serial)).getD false

/-- The seen entry for a serial, if present. -/
def seenEntry (s : State) (serial : Serial) : Option SeenEntry :=
  (s.his.seen.toList.find? (hasSerial serial)).join

/-- The position a seen write takes: the serial's own, else the lowest empty one, else the lowest stamp's (R129). -/
def seenPosition (t : Vector (Option SeenEntry) 32) (serial : Serial) : Fin 32 :=
  match (List.finRange 32).find? fun p => hasSerial serial t[p] with
  | some p => p
  | none =>
    match (List.finRange 32).find? fun p => t[p].isNone with
    | some p => p
    | none => leastBy (fun p => (t[p].map (·.stamp)).getD 0) 0 (List.finRange 32)

/-- The stamp counter made ready for a write at `p`: the stamps are renumbered when it stands at its
maximum (R129). -/
def readyStamp (s : State) (p : Fin 32) : State :=
  if 4294967295 ≤ s.his.stamp then
    let t := renumber s.his.seen SeenEntry.stamp (fun e k => { e with stamp := k }) p
    markOthers { s with his := { s.his with seen := t, stamp := countPresent s.his.seen (some p) + 1 } }
      s.his.seen recSeen p
  else s

/-- A seen entry written for a serial (R129), its figures held to the ranges of R128. -/
def writeSeen (s : State) (serial : Serial) (consumed unwritten : Nat) (slot : SlotId) (cls : AccountClass) : State :=
  let p := seenPosition s.his.seen serial
  let s := readyStamp s p
  let c := min consumed 4294967295
  let e : SeenEntry := ⟨serial, c, min unwritten c, slot, cls, s.his.stamp⟩
  markDirty { s with his := { s.his with seen := put s.his.seen p (some e), stamp := s.his.stamp + 1 } } (recSeen p)

/-! ### The retired list -/

/-- Whether a place holds a retired entry with the serial. -/
def retiredIs (serial : Serial) (e : Option RetiredEntry) : Bool := (e.map (·.serial == serial)).getD false

/-- Whether the retired list holds a serial. -/
def isRetired (s : State) (serial : Serial) : Bool := s.his.retired.toList.any (retiredIs serial)

/-- The position a new retired serial takes: the lowest empty one, else the oldest entry's (R130). -/
def retiredPosition (t : Vector (Option RetiredEntry) 64) : Fin 64 :=
  match (List.finRange 64).find? fun p => t[p].isNone with
  | some p => p
  | none => leastBy (fun p => (t[p].map (·.number)).getD 0) 0 (List.finRange 64)

/-- The retire counter made ready for an entry at `p` (R130). -/
def readyRetire (s : State) (p : Fin 64) : State :=
  if 4294967295 ≤ s.his.retire then
    let t := renumber s.his.retired RetiredEntry.number (fun e k => { e with number := k }) p
    markOthers { s with his := { s.his with retired := t, retire := countPresent s.his.retired (some p) + 1 } }
      s.his.retired recRetired p
  else s

/-- A new retired entry (R130). -/
def newRetired (s : State) (serial : Serial) (why : RetiredReason) : State :=
  let p := retiredPosition s.his.retired
  let s := readyRetire s p
  markDirty
    { s with his := { s.his with
      retired := put s.his.retired p (some ⟨serial, why, s.his.retire⟩), retire := s.his.retire + 1 } }
    (recRetired p)

/-- A serial added to the retired list (R130). -/
def addRetired (s : State) (serial : Serial) (why : RetiredReason) : State :=
  match (List.finRange 64).find? fun p => retiredIs serial s.his.retired[p] with
  | none => newRetired s serial why
  | some p =>
    match s.his.retired[p] with
    | some e =>
      if why = .spent ∧ e.reason ≠ .spent then
        markDirty { s with his := { s.his with retired := put s.his.retired p (some { e with reason := .spent }) } }
          (recRetired p)
      else s
    | none => s

/-- The retired list in its order, oldest first (R130, R146). -/
def retiredInOrder (t : Vector (Option RetiredEntry) 64) : List RetiredEntry :=
  (List.range 64).filterMap fun k =>
    ((List.finRange 64).find? fun p => t[p].isSome && rankOf t RetiredEntry.number none p == k).bind (t[·])

/-! ### Account close and provisional entries -/

/-- What a close of `a` writes into the seen table (R103, R131). -/
def seenFromAccount (s : State) (n : SlotId) (a : Account) : State :=
  writeSeen s a.serial (consumedView a) (a.inFlight + a.pendingInk) n a.cls

/-- HIS takes the items of a closing account (R131). -/
def closeIntoHistory (s : State) (n : SlotId) (a : Account) : State :=
  if a.metered then
    let exhausted := s.slots[n].state == .exhausted
    let s := seenFromAccount s n a
    if a.spent = .marked ∨ a.spent = .found then addRetired s a.serial .spent
    else if exhausted then addRetired s a.serial .exhaustedRemoved
    else s
  else s

/-- The account of a slot closes into history and is discarded (R103). -/
def closeAccount (s : State) (n : SlotId) : State :=
  match s.accounts[n] with
  | none => s
  | some a => setAccount (closeIntoHistory s n a) n none

/-- Provisional seen entries of every open metered account, slot 0 first (R132). -/
def provisionalEntries (s : State) : State :=
  forSlots (fun s n =>
    match s.accounts[n] with
    | some a => if a.metered then seenFromAccount s n a else s
    | none => s) s

/-! ### Identity filters (R140 to R143) -/

/-- The effective offset of a filter for an identity record (R140). -/
def effectiveOffset (f : Filter) (id : IdRecord) : Nat :=
  f.offset.toNat + if id.version = 2 ∧ 12 ≤ f.offset.toNat then 4 else 0

/-- The bytes a filter selects, in ascending byte number, none above 61 (R140). -/
def selectedBytes (f : Filter) (id : IdRecord) : List Byte :=
  (List.range 24).filterMap fun k =>
    if f.mask.getLsbD k ∧ effectiveOffset f id + k ≤ 61 then some (byteAt id.raw (effectiveOffset f id + k)) else none

/-- The match of a filter: false with nothing selected, else the raw match, turned by invert (R141). -/
def filterMatch (f : Filter) (id : IdRecord) : Bool :=
  let bytes := selectedBytes f id
  if bytes.isEmpty then false else (crc16 bytes == f.expected) != f.invert

/-- The decision formed from entries in order, given the signal of the entry before them (R142, R143). -/
def decisionFrom (id : IdRecord) : Bool → List Filter → FilterAction
  | _, [] => .none
  | prev, f :: rest =>
    let signal := filterMatch f id && (!f.chain || prev)
    let later := decisionFrom id signal rest
    if f.enabled && signal then
      match f.action, later with
      | .reject, _ => .reject
      | _, .reject => .reject
      | .suspect, _ => .suspect
      | .none, d => d
    else later

/-- IDF's decision on an identity record; the signal before entry 0 is true after a PROVEN outcome (R142, R143). -/
def filterDecision (s : State) (id : IdRecord) : FilterAction := decisionFrom id true s.his.filters.toList

/-! ### Reconciliation (R133 to R137) -/

/-- The refill reason: that of the first check of R134 that triggers. -/
def refillReason (s : State) (id : IdRecord) (c : Nat) (spent : Bool) : Option RefillReason :=
  if spent ∧ c < id.capacity.toNat then some .spentButFull
  else if isRetired s id.serial then some .retiredSerial
  else if (match seenEntry s id.serial with
      | some e => decide (c < e.consumed - e.unwritten)
      | none => false) then some .counterFell
  else if filterDecision s id = .suspect then some .filterMatch
  else none

/-- The catch-up (R135). -/
def catchUpOf (s : State) (serial : Serial) (c : Nat) : Nat :=
  match seenEntry s serial with
  | some e => e.consumed - c
  | none => 0

/-- A reconciliation outcome (R9, R136, R137): a refusal, or the opening figures. -/
inductive ReconOutcome where
  | reject (why : Reason)
  | opens (empty : Bool) (cls : AccountClass) (refill : Option RefillReason) (catchUp : Nat)
deriving DecidableEq, Repr

/-- The reconciliation of a proven cartridge with counter `c` (R133). -/
def reconcile (s : State) (id : IdRecord) (c : Nat) (spent : Bool) : ReconOutcome :=
  let catchUp := catchUpOf s id.serial c
  let empty := decide (id.capacity.toNat ≤ c + catchUp)
  if filterDecision s id = .reject then .reject .filterReject
  else
    match refillReason s id c spent with
    | some r =>
      if s.settings.suspect = .block then .reject .refillBlocked
      else .opens empty .suspectRefill (some r) catchUp
    | none => .opens empty .genuine none catchUp

/-! ### CLEAR_HISTORY (R145) -/

/-- The seen positions `sel` chooses emptied, with their records marked dirty, and how many they are. -/
def clearSeen (s : State) (sel : SeenEntry → Bool) : State × Nat :=
  let hit (p : Fin 32) : Bool := (s.his.seen[p].map sel).getD false
  let l := (List.finRange 32).filter hit
  let t := tab 32 fun p => if hit p then none else s.his.seen[p]
  (l.foldl (fun s p => markDirty s (recSeen p)) { s with his := { s.his with seen := t } }, l.length)

/-- The retired positions `sel` chooses emptied, with their records marked dirty, and how many they are. -/
def clearRetired (s : State) (sel : RetiredEntry → Bool) : State × Nat :=
  let hit (p : Fin 64) : Bool := (s.his.retired[p].map sel).getD false
  let l := (List.finRange 64).filter hit
  let t := tab 64 fun p => if hit p then none else s.his.retired[p]
  (l.foldl (fun s p => markDirty s (recRetired p)) { s with his := { s.his with retired := t } }, l.length)

end Sys2Proof.Machine
end

