-- ==== Sys2Proof/Machine/Queue.lean ====
section
/-! DEFINITION. The transaction queue and the arbiter (R60 to R65), what starting a transaction asks of PRF (R33, R34) and
ACC (R94), and the message of a transaction with its characters and bits (R43, R44). -/

namespace Sys2Proof.Machine

/-! ### The start of a CHALLENGE attempt (R33, R34, R35) -/

/-- The bytes of a challenge: eight random bytes, then the sequence number (R33). -/
def challengeBytes (c : BitVec 96) : List Byte := be64 (c.extractLsb' 32 64) ++ be32 (c.extractLsb' 0 32)

/-- The master key an identity record names (R35). -/
def masterKey (s : State) (id : IdRecord) : BitVec 128 :=
  if h : id.keyIndex.toNat < 4 then (s.prf.keys[id.keyIndex.toNat]).getD Config.unloadedKey
  else Config.unloadedKey

/-- The derived key digest of an identity record (R35). -/
def derivedKeyDigest (s : State) (id : IdRecord) : Digest :=
  .derivedKey (masterKey s id) (be64 id.serial ++ [id.keyIndex])

/-- PRF builds the challenge of an attempt for slot `n`; the first attempt binds the context and starts the
derived key digest, a later one keeps the derived key. None if the slot holds no identity record (R33). -/
def startChallenge (s : State) (n : SlotId) (first : Bool) : Option (List Byte × State) :=
  match s.prf.identity[n] with
  | none => none
  | some id =>
    let c : BitVec 96 := Config.randomBytes s.draws ++ s.prf.seqNo
    let prf := { s.prf with seqNo := s.prf.seqNo + 1 }
    let prf :=
      if first then
        { prf with
          ctx := { freeContext with slot := some n, phase := .awaitingReply, challenge := some c, derivedKey := .computing }
          digest := some (derivedKeyDigest s id) }
      else { prf with ctx := { prf.ctx with challenge := some c } }
    some (challengeBytes c, { s with prf := prf, draws := s.draws + 1 })

/-- The proof context freed if it is bound to `n`, with any digest under way discarded (R40). -/
def releaseContext (s : State) (n : SlotId) : State :=
  if s.prf.ctx.slot = some n then { s with prf := { s.prf with ctx := freeContext, digest := none } } else s

/-- A CHALLENGE attempt that cannot be built ends as an abort by removal: no message, a break owed, no
outcome (R33, R66). -/
def unbuiltChallenge (s : State) (n : SlotId) : State :=
  let s := releaseContext s n
  { s with cbc := { s.cbc with line := none, breakOwed := true } }

/-! ### The start of an ADD_USED (R94) -/

/-- The largest counter a cartridge holds. -/
def counterMax : Nat := 4294967295

/-- The expected total and the amount, and the account with its pending ink moved to in-flight; none if ACC
has nothing to send (R94). -/
def addUsedBody (s : State) (n : SlotId) : Option (Nat × Nat × State) :=
  match s.accounts[n] with
  | none => none
  | some a =>
    let e := a.base + a.confirmed
    if a.pendingInk = 0 ∨ a.suspended = true ∨ 0 < a.doubtful ∨ contactLost s n = true ∨ counterMax ≤ e then none
    else
      let amount := min a.pendingInk (counterMax - e)
      some (e, amount,
        setAccount s n (some { a with inFlight := a.inFlight + amount, pendingInk := a.pendingInk - amount }))

/-! ### The start of an attempt (R45, R46, R50) -/

/-- The message is ready: it goes out at once if the idle count is 11 or more, else it waits for the
preamble, with the wait limit of R56 (R45). -/
def messageReady (s : State) (tx : Transaction) : State :=
  let tx :=
    if 11 ≤ s.cbc.idle then { tx with action := .sending 0, limit := none }
    else { tx with action := .preamble, limit := some (startTimer s 500) }
  { s with cbc := { s.cbc with line := some tx } }

/-- The first line action of an attempt: the break if one is owed, else the preamble (R46, R50). -/
def beginAttempt (s : State) (tx : Transaction) : State :=
  if s.cbc.breakOwed then
    { s with cbc := { s.cbc with line := some { tx with action := .breaking, limit := none } } }
  else messageReady s tx

/-- A transaction before its first attempt. -/
def newTransaction (n : SlotId) (c : TxCommand) (body : List Byte) : Transaction :=
  ⟨n, c, 1, body, 0, 0, .preamble, [], none, none⟩

/-- The transaction started (R49, R50). The line stays free if it ends at once: NOTHING_SENT, or a
CHALLENGE without an identity record. -/
def startTransaction (s : State) (n : SlotId) (c : TxCommand) : State :=
  match c with
  | .writeBack .addUsed =>
    match addUsedBody s n with
    | none => s
    | some (e, amount, s') =>
      beginAttempt s'
        { newTransaction n c (be32 (BitVec.ofNat 32 e) ++ be32 (BitVec.ofNat 32 amount)) with
          expected := e, amount := amount }
  | .admission .challenge =>
    match startChallenge s n true with
    | none => unbuiltChallenge s n
    | some (body, s') => beginAttempt s' (newTransaction n c body)
  | .readArea offset length _ => beginAttempt s (newTransaction n c [offset, length])
  | _ => beginAttempt s (newTransaction n c [])

/-! ### The arbiter (R62, R64, R65) -/

/-- What is left of a write-back entry, as an entry that moves to the tail (R62). -/
def leftover (n : SlotId) (ops : List WbOp) : List QEntry := if ops.isEmpty then [] else [.writeBack n ops]

/-- Normal service: the oldest entry, whatever its origin (R64). -/
def oldestEntry : List QEntry → Option (SlotId × TxCommand × List QEntry)
  | [] => none
  | .admission n step :: rest => some (n, .admission step, rest)
  | .passThrough n offset length tag :: rest => some (n, .readArea offset length tag, rest)
  | .writeBack n (op :: ops) :: rest => some (n, .writeBack op, rest ++ leftover n ops)
  | .writeBack _ [] :: rest => oldestEntry rest

/-- The oldest entry whose list contains ADD_USED, with the entries before and after it (R65). -/
def splitAddUsed : List QEntry → Option (SlotId × List WbOp × List QEntry)
  | [] => none
  | .writeBack n ops :: rest =>
    if ops.contains .addUsed then some (n, ops.erase .addUsed, rest)
    else (splitAddUsed rest).map fun (m, o, r) => (m, o, .writeBack n ops :: r)
  | e :: rest => (splitAddUsed rest).map fun (m, o, r) => (m, o, e :: r)

/-- Flush mode: the oldest entry whose list contains ADD_USED (R65). -/
def oldestAddUsed (q : List QEntry) : Option (SlotId × TxCommand × List QEntry) :=
  (splitAddUsed q).map fun (n, ops, rest) => (n, .writeBack .addUsed, rest ++ leftover n ops)

/-- The next operation the arbiter may start (R64, R65). -/
def nextEntry (flush : Bool) (q : List QEntry) : Option (SlotId × TxCommand × List QEntry) :=
  if flush then oldestAddUsed q else oldestEntry q

/-- How many operations an entry holds. -/
def QEntry.size : QEntry → Nat
  | .writeBack _ ops => ops.length
  | _ => 1

/-- The arbiter, at most `k` starts: while the line is free and an entry may be served, the next one is
started; one that ends at once leaves the line free for another. -/
def arbitrateUpTo : Nat → State → State
  | 0, s => s
  | k + 1, s =>
    if s.cbc.line.isSome then s
    else
      match nextEntry s.cbc.flush s.cbc.queue with
      | none => s
      | some (n, c, q) => arbitrateUpTo k (startTransaction { s with cbc := { s.cbc with queue := q } } n c)

/-- The arbiter acts (R64). Each start takes one operation from the queue, so as many starts as there are
operations are enough. -/
def arbitrate (s : State) : State := arbitrateUpTo (s.cbc.queue.map QEntry.size).sum s

/-! ### Joining the queue -/

/-- An entry joins the tail, and the arbiter acts (R60, R64). -/
def joinQueue (s : State) (e : QEntry) : State :=
  arbitrate { s with cbc := { s.cbc with queue := s.cbc.queue ++ [e] } }

/-- Whether an entry is the write-back entry of a slot. -/
def QEntry.isWriteBackOf (n : SlotId) : QEntry → Bool
  | .writeBack m _ => m == n
  | _ => false

/-- An operation added to a slot's write-back entry, or absorbed if listed (R62). -/
def QEntry.addOp (n : SlotId) (op : WbOp) : QEntry → QEntry
  | .writeBack m ops => if m = n ∧ ops.contains op = false then .writeBack m (ops ++ [op]) else .writeBack m ops
  | e => e

/-- The queue with an operation placed in a slot's write-back place (R62). -/
def withOp (q : List QEntry) (n : SlotId) (op : WbOp) : List QEntry :=
  if q.any (QEntry.isWriteBackOf n) then q.map (QEntry.addOp n op) else q ++ [.writeBack n [op]]

/-- An operation placed in a slot's write-back place (R62). The arbiter acts once the event that asks for it has been
taken whole: no start of an ADD_USED reaches an account in between (R71, R111). -/
def enqueueOp (s : State) (n : SlotId) (op : WbOp) : State :=
  { s with cbc := { s.cbc with queue := withOp s.cbc.queue n op } }

/-- An operation placed, and the arbiter acts (R62, R64). -/
def placeOp (s : State) (n : SlotId) (op : WbOp) : State := arbitrate (enqueueOp s n op)

/-- The arbiter acts at the end of an event that led from `s` to `t`, if something joined the queue (R64). -/
def arbitrateIfJoined (s t : State) : State := if t.cbc.queue = s.cbc.queue then t else arbitrate t

/-- An admission step placed for a slot (R61). -/
def placeAdmission (s : State) (n : SlotId) (step : AdmissionStep) : State := joinQueue s (.admission n step)

/-- Whether an ADD_USED is on the line or waiting (R65). -/
def addUsedOutstanding (s : State) : Bool :=
  (match s.cbc.line with
    | some tx => tx.command == .writeBack .addUsed
    | none => false) ||
  s.cbc.queue.any fun e => match e with
    | .writeBack _ ops => ops.contains .addUsed
    | _ => false

/-- The slot of a waiting entry. -/
def QEntry.slot : QEntry → SlotId
  | .admission n _ => n
  | .writeBack n _ => n
  | .passThrough n _ _ _ => n

/-- Whether an entry is a pass-through read. -/
def QEntry.isPassThrough : QEntry → Bool
  | .passThrough _ _ _ _ => true
  | _ => false

/-! ### The message on the line (R43, R44) -/

/-- The bytes of the message of a transaction (R44, R187). -/
def messageBytes (tx : Transaction) : List Byte :=
  let code : Byte := match tx.command with
    | .admission .readId => 1 | .admission .challenge => 2 | .writeBack .readUsage => 3
    | .writeBack .addUsed => 4 | .writeBack .markSpent => 5 | .readArea _ _ _ => 6
  let head := ((slotByte tx.slot <<< 4) ||| code) :: tx.body
  head ++ [crc8 head]

/-- The characters of a message: its address character has mark bit 1, its data characters and its check character mark
bit 0 (R43, R44). -/
def messageChars (tx : Transaction) : List CbusChar :=
  match messageBytes tx with
  | [] => []
  | address :: rest => ⟨true, address⟩ :: rest.map (⟨false, ·⟩)

/-- The 11 bit-times of a character, high being true: the start bit, the data bits least significant first, the mark bit
and the stop bit (R43). -/
def charBits (c : CbusChar) : List Bool := false :: (dataBits c.data ++ [c.mark, true])

/-- The bit-times of a message, its characters back to back (R43). -/
def messageBits (tx : Transaction) : List Bool := (messageChars tx).flatMap charBits

/-- The line idle count after bit-times at the levels given (R45). -/
def idleOver (count : Nat) (levels : List Bool) : Nat := levels.foldl (fun k high => if high then min 255 (k + 1) else 0) count

/-- The level the part puts on CBUS in the next bit-time, high when it releases the line (R43, R46). -/
def cbusLevel (c : Cbc) : Bool :=
  match c.line with
  | none => true
  | some tx =>
    match tx.action with
    | .breaking => false
    | .sending sent => ((messageBits tx)[sent]?).getD true
    | _ => true

end Sys2Proof.Machine
end

