-- ==== Sys2Proof/Machine/Accounts.lean ====
section
/-! DEFINITION. Accounts and write-back (05): triggers (R92), the spent mark (R91), levels (R87), the hold clamp (R89),
exhaustion (R90, R15), the actions after a debit (R88), opening (R83), and the results of write-back operations (R95 to R100). -/

namespace Sys2Proof.Machine

/-! ### Requests for write-back work -/

/-- Whether a write-back trigger makes a request (R92). -/
def triggerDue (s : State) (n : SlotId) : Bool :=
  match s.accounts[n] with
  | none => false
  | some a => a.metered && !a.suspended && !contactLost s n && decide (0 < a.pendingInk)

/-- A write-back trigger's request within an event that is not yet taken whole (R92). -/
def requestAddUsed (s : State) (n : SlotId) : State := if triggerDue s n then enqueueOp s n .addUsed else s

/-- A write-back trigger taken for a slot (R92). -/
def trigger (s : State) (n : SlotId) : State := if triggerDue s n then placeOp s n .addUsed else s

/-- Whether MARK_SPENT is due (R91). -/
def spentDue (s : State) (n : SlotId) : Bool :=
  match s.accounts[n] with
  | none => false
  | some a =>
    a.metered && s.slots[n].state == .exhausted && a.spent == .none && decide (a.pendingInk = 0) &&
      decide (a.inFlight = 0) && !a.suspended

/-- The spent mark conditions checked, and MARK_SPENT requested when they hold (R91). -/
def spentCheck (s : State) (n : SlotId) : State :=
  if spentDue s n then enqueueOp (modAccount s n fun a => { a with spent := .requested }) n .markSpent else s

/-- A slot takes a state; entry to EXHAUSTED is a write-back trigger and a spent mark check (R20, R90, R91, R92). -/
def changeState (s : State) (n : SlotId) (st : SlotState) : State :=
  let s := moveSlot s n st
  if st = .exhausted then spentCheck (requestAddUsed s n) n else s

/-- A slot REJECTED with the alert of the same name (R7, R8, R9, R16). -/
def rejectSlot (s : State) (n : SlotId) (why : Reason) : State :=
  raiseAlert (changeState s n (.rejected why)) n why.alert none

/-! ### Levels (R87) -/

/-- The level computed from a headroom `h` (R87). -/
def levelComputed (lim : Limits) (capacity h : Nat) : Level :=
  if h = 0 then .empty
  else if h ≤ capacity * lim.reserve / 100 then .reserve
  else if h ≤ capacity * lim.low / 100 then .low
  else .normal

/-- The order NORMAL, LOW, RESERVE, EMPTY (R87). -/
def Level.rank : Level → Nat
  | .normal => 0 | .low => 1 | .reserve => 2 | .empty => 3 | .unknown => 0

/-- The lower of two levels. -/
def lowerLevel (a b : Level) : Level := if Level.rank a < Level.rank b then b else a

/-- The level of an open metered account computed afresh; a change is posted and made known to the lamp (R87, R22). -/
def refreshLevel (s : State) (n : SlotId) : State :=
  match s.accounts[n] with
  | none => s
  | some a =>
    let l := lowerLevel a.level (levelComputed s.settings.limits a.capacity (headroom a))
    if a.metered = true ∧ l ≠ a.level then
      let s := setAccount s n (some { a with level := l })
      let s := postEvent s .level (slotByte n) l.code (some (figure (headroom a)))
      if s.slots[n].state = .ready then lampAfterChange s n else s
    else s

/-! ### The hold clamp (R89) -/

/-- The swath holds of slot `n` cut by up to `excess`, newer OPEN swath first: the table, the excess left,
and the cuts in the order made. The table is older first. -/
def cutSwaths (n : SlotId) : List Swath → Nat → List Swath × Nat × List (Byte × Nat)
  | [], excess => ([], excess, [])
  | w :: ws, excess =>
    let (ws, excess, cuts) := cutSwaths n ws excess
    if w.state = .opened ∧ lists w n = true then
      let cut := min (holdOf w n) excess
      (modListed w n (fun l => { l with hold := l.hold - cut }) :: ws, excess - cut, cuts ++ [(w.id, cut)])
    else (w :: ws, excess, cuts)

/-- One RESERVATION_CUT event for each cut of more than 0 (R89). -/
def postCuts (s : State) (n : SlotId) (cuts : List (Byte × Nat)) : State :=
  cuts.foldl (fun s c =>
    if c.2 = 0 then s else postEvent s .reservationCut (slotByte n) c.1 (some (BitVec.ofNat 32 c.2))) s

/-- The id a RESERVATION_CUT carries for the purge hold (R89). -/
def purgeCutId : Byte := 255

/-- The holds of a metered account's slot cut to its headroom (R89). -/
def clampHolds (s : State) (n : SlotId) : State :=
  match s.accounts[n] with
  | none => s
  | some a =>
    if a.metered = true ∧ headroom a < holds s n then
      let (table, excess, cuts) := cutSwaths n s.engp.table (holds s n - headroom a)
      let cut := min (purgeHold s n) excess
      let purges := upd s.engp.purges n (Option.map fun p => { p with hold := p.hold - cut })
      postCuts { s with engp := { s.engp with table := table, purges := purges } } n (cuts ++ [(purgeCutId, cut)])
    else s

/-! ### Exhaustion (R90, R15) -/

/-- Whether a slot is listed in an OPEN swath (R90). -/
def inOpenSwath (s : State) (n : SlotId) : Bool :=
  s.engp.table.any fun w => w.state == .opened && lists w n

/-- Exhaustion reported: the gate closes, a READY slot becomes EXHAUSTED, the named alert is raised (R90, R15). -/
def reportExhaustion (s : State) (n : SlotId) : State :=
  let code : AlertCode := if inOpenSwath s n then .starved else .exhausted
  let s := reevalGate s n
  let s := if s.slots[n].state = .ready then changeState s n .exhausted else s
  raiseAlert s n code none

/-! ### After a debit (R88) -/

/-- Steps 2 to 5 of R88 after a debit or rebase that found headroom `before`; an unmetered account takes none. -/
def afterDebit (s : State) (n : SlotId) (before : Nat) : State :=
  match s.accounts[n] with
  | none => s
  | some a =>
    if a.metered then
      let s := clampHolds (refreshLevel s n) n
      let s := if 0 < before ∧ headroom a = 0 then reportExhaustion s n else s
      match s.accounts[n] with
      | some b => if s.settings.limits.threshold ≤ b.pendingInk then requestAddUsed s n else s
      | none => s
    else s

/-- What a drop debit of `d` does to the entry a report names (R110, R112). -/
def countInSwath (w : Swath) (n : SlotId) (d : Nat) : Swath :=
  modListed w n fun l =>
    { l with
      hold := if w.state = .opened then l.hold - d else l.hold
      debited := min 4294967295 (l.debited + d) }

/-- The entry with an id. -/
def swathOf (s : State) (id : Byte) : Option Swath := s.engp.table.find? (·.id == id)

/-- The table with the entry of an id changed. -/
def modSwath (s : State) (id : Byte) (f : Swath → Swath) : State :=
  { s with engp := { s.engp with table := s.engp.table.map fun w => if w.id = id then f w else w } }

/-- A drop debit of `d` whole microlitres for a report naming swath `id` (R77, R88). A debit of 0 changes
nothing (R78). -/
def debitDrops (s : State) (n : SlotId) (id : Byte) (d : Nat) : State :=
  match s.accounts[n] with
  | none => s
  | some a =>
    if d = 0 then s
    else
      let s := setAccount s n (some { a with pendingInk := a.pendingInk + d, dropTotal := a.dropTotal + d })
      afterDebit (modSwath s id fun w => countInSwath w n d) n (headroom a)

/-- A purge debit of `amount` (R80, R88). An ADD_USED that step 5 of R88 requests joins the queue here; that the arbiter
starts it only when the PURGE_END or the timer's expiry has been taken whole is the model's choice (notes/assumptions/34). -/
def debitPurge (s : State) (n : SlotId) (amount : Nat) : State :=
  match s.accounts[n] with
  | none => s
  | some a =>
    afterDebit
      (setAccount s n (some { a with pendingInk := a.pendingInk + amount, purgeTotal := a.purgeTotal + amount }))
      n (headroom a)

/-! ### Opening (R83) -/

/-- The account opened for an identity record (R83). -/
def openingAccount (lim : Limits) (id : IdRecord) (cls : AccountClass) (refill : Option RefillReason)
    (base catchUp : Nat) (spent : Bool) : Account :=
  let metered := decide (cls ≠ .nonGenuine)
  let h := id.capacity.toNat - (base + catchUp)
  { serial := id.serial, capacity := id.capacity.toNat, keyIndex := id.keyIndex, version := id.version, cls := cls
    refill := refill, metered := metered, base := base, catchUp := catchUp, confirmed := 0, inFlight := 0
    pendingInk := catchUp, doubtful := 0, residue := 0, dropTotal := 0, purgeTotal := 0, failures := 0, suspended := false
    spent := if spent then .found else .none
    level := if metered then levelComputed lim id.capacity.toNat h else .unknown }

/-- The account of a slot opened; a catch-up above 0 is a write-back trigger (R83, R92). -/
def openAccount (s : State) (n : SlotId) (a : Account) : State := requestAddUsed (setAccount s n (some a)) n

/-! ### Failures and contact loss (R100, R16) -/

/-- Contact loss reported: an account state becomes REJECTED(CONTACT_LOST), with its alert (R16). -/
def contactLoss (s : State) (n : SlotId) : State :=
  if inAccountState s n then rejectSlot s n .contactLost else s

/-- The failure count one higher, at most 3 (R100). -/
def countFailure (a : Account) : Account := { a with failures := min 3 (a.failures + 1) }

/-- Contact loss reported if a failure brought the count to 3 (R100). -/
def reportIfLost (s : State) (n : SlotId) (failures : Nat) : State := if failures = 3 then contactLoss s n else s

/-- Whether a new request may follow a failure (R91, R98, R99, R100). -/
def mayRequest (s : State) (n : SlotId) (failures : Nat) : Bool := decide (failures < 3) && !contactLost s n

/-! ### Counter fell, rebase and landing -/

/-- A finding that makes a GENUINE account suspect; an earlier finding stands (R86). -/
def suspect (a : Account) (why : RefillReason) : Account :=
  if a.cls = .genuine then { a with cls := .suspectRefill, refill := some why } else a

/-- In-flight ink returned to pending (R84). -/
def returnInFlight (a : Account) : Account := { a with pendingInk := a.pendingInk + a.inFlight, inFlight := 0 }

/-- A counter that fell: write-back suspended, class and alert as R96 gives. -/
def counterFell (s : State) (n : SlotId) (a : Account) : State :=
  raiseAlert (setAccount s n (some { suspect a .counterFell with suspended := true, failures := 0 })) n .counterFell none

/-- An ADD_USED whose counter `k` is at or above `E + A`: rebase if above, then in-flight to confirmed (R95). -/
def landed (s : State) (n : SlotId) (a : Account) (k total : Nat) : State :=
  let s :=
    if total < k then
      afterDebit (setAccount s n (some { a with base := k - a.confirmed - a.inFlight })) n (headroom a)
    else s
  spentCheck
    (modAccount s n fun b => { b with confirmed := b.confirmed + b.inFlight, inFlight := 0, failures := 0 }) n

/-- A REFUSED_SPENT reply (R97). -/
def refusedSpent (s : State) (n : SlotId) (a : Account) (k : Word) : State :=
  let b := { returnInFlight a with suspended := true, failures := 0 }
  let b := if a.spent = .marked then b else { suspect b .spentButFull with spent := .found }
  postEvent (setAccount s n (some b)) .writebackFailed (slotByte n) refusedSpentCode (some k)

/-! ### Results (R91, R95 to R101): the arbiter acts once the transaction has left the line (R59, R64) -/

/-- The result of a transaction (R59); NOTHING_SENT has no result to hand over. -/
inductive TxResult where
  | reply (status : CartStatus) (body : List Byte)
  | failure (error : BusError)
  | noCartridge
deriving DecidableEq, Repr

/-- The counter at the head of a reply body. -/
def counterOf (body : List Byte) : Word := of32 (byteAt body 0) (byteAt body 1) (byteAt body 2) (byteAt body 3)

/-- An ADD_USED that failed three attempts (R98). -/
def addUsedFailed (s : State) (n : SlotId) (a : Account) (e : BusError) : State :=
  let b := countFailure { returnInFlight a with doubtful := a.inFlight }
  let s := postEvent (setAccount s n (some b)) .writebackFailed (slotByte n) e.code (some (BitVec.ofNat 32 b.failures))
  let s := reportIfLost s n b.failures
  if mayRequest s n b.failures then requestAddUsed (enqueueOp s n .readUsage) n else s

/-- The result of an ADD_USED with expected total `expected` and amount `amount` (R95 to R98, R101). -/
def addUsedResult (s : State) (n : SlotId) (expected amount : Nat) (r : TxResult) : State :=
  match s.accounts[n], r with
  | some a, .reply .refusedSpent body => refusedSpent s n a (counterOf body)
  | some a, .reply _ body =>
    let k := (counterOf body).toNat
    if expected + amount ≤ k then landed s n a k (expected + amount) else counterFell s n (returnInFlight a)
  | some a, .failure e => addUsedFailed s n a e
  | _, _ => s

/-- The doubt of an account settled by a READ_USAGE counter `k`; the doubtful amount is above 0 (R99). -/
def settleDoubt (s : State) (n : SlotId) (a : Account) (k : Nat) : State :=
  let e := a.base + a.confirmed
  let landedInk (b : Account) : Account :=
    { b with confirmed := b.confirmed + a.doubtful, pendingInk := b.pendingInk - a.doubtful, doubtful := 0, failures := 0 }
  if k = e then spentCheck (requestAddUsed (setAccount s n (some { a with doubtful := 0, failures := 0 })) n) n
  else if k = e + a.doubtful then spentCheck (requestAddUsed (setAccount s n (some (landedInk a))) n) n
  else if e + a.doubtful < k then
    let s := afterDebit (setAccount s n (some { a with base := k - a.confirmed - a.doubtful })) n (headroom a)
    spentCheck (requestAddUsed (modAccount s n landedInk) n) n
  else counterFell s n { a with doubtful := 0 }

/-- A READ_USAGE that failed (R99). -/
def readUsageFailed (s : State) (n : SlotId) (a : Account) (e : BusError) : State :=
  let b := countFailure a
  let s := postEvent (setAccount s n (some b)) .writebackFailed (slotByte n) e.code (some (BitVec.ofNat 32 b.failures))
  let s := reportIfLost s n b.failures
  if mayRequest s n b.failures then enqueueOp s n .readUsage else s

/-- The result of a READ_USAGE (R99, R101). -/
def readUsageResult (s : State) (n : SlotId) (r : TxResult) : State :=
  match s.accounts[n], r with
  | some a, .reply _ body =>
    if a.doubtful = 0 then setAccount s n (some { a with failures := 0 })
    else settleDoubt s n a (counterOf body).toNat
  | some a, .failure e => readUsageFailed s n a e
  | _, _ => s

/-- A MARK_SPENT that failed (R91). -/
def markSpentFailed (s : State) (n : SlotId) (a : Account) : State :=
  let b := countFailure (if a.spent = .requested then { a with spent := .none } else a)
  let s := reportIfLost (setAccount s n (some b)) n b.failures
  if mayRequest s n b.failures then spentCheck s n else s

/-- The result of a MARK_SPENT (R91, R101). -/
def markSpentResult (s : State) (n : SlotId) (r : TxResult) : State :=
  match s.accounts[n], r with
  | some a, .reply _ _ => setAccount s n (some { a with spent := .marked, failures := 0 })
  | some a, .failure _ => markSpentFailed s n a
  | _, _ => s

end Sys2Proof.Machine
end

