-- ==== Sys2Proof/Machine/Metering.lean ====
section
/-! DEFINITION. Metering arithmetic (04): from the drop counts of a report entry to whole microlitres and residue. -/

namespace Sys2Proof.Machine

/-- U, the fine units of one microlitre (00_scope.md, Units). -/
def unitsPerMicrolitre : Nat := 65536000000

/-- The working temperature of a carried temperature (R72). -/
def workingTemperature (carried : Byte) : Nat := min carried.toNat 95

/-- The TEMP_CLAMPED flag (R72). -/
def temperatureClamped (carried : Byte) : Bool := decide (95 < carried.toNat)

/-- The raw volume P, in sixteenths of a picolitre (R73). -/
def rawVolume (c : Calibration) (e : DropEntry) : Nat :=
  e.small.toNat * c.vS.toNat + e.medium.toNat * c.vM.toNat + e.large.toNat * c.vL.toNat

/-- The factor before its clamp, in 4,096ths (R74). -/
def unclampedFactor (kappa : Byte) (t : Nat) : Int := 4096 + kappa.toInt * ((t : Int) - 30)

/-- The temperature factor F (R74). -/
def temperatureFactor (kappa : Byte) (t : Nat) : Nat := (max 2048 (min 6144 (unclampedFactor kappa t))).toNat

/-- The fine volume Q (R75). -/
def fineVolume (c : Calibration) (e : DropEntry) (t : Nat) : Nat := rawVolume c e * temperatureFactor c.kappa t

/-- Whole microlitres to debit and the new residue (R76). -/
def carry (residue q : Nat) : Nat × Nat :=
  ((residue + q) / unitsPerMicrolitre, (residue + q) % unitsPerMicrolitre)

/-- An entry for a slot with an open account converted and debited, for a report naming swath `id`; also the
microlitres debited (R71 to R78, R88). -/
def meterEntry (s : State) (n : SlotId) (a : Account) (id : Byte) (e : DropEntry) (t : Nat) : State × Nat :=
  let (d, residue) := carry a.residue (fineVolume s.cal[n] e t)
  (debitDrops (setAccount s n (some { a with residue := residue })) n id d, d)

end Sys2Proof.Machine
end

