-- ==== Sys2Proof/Machine/Proving.lean ====
section
/-! DEFINITION. Proving a cartridge (02) and what the slot does with the outcomes (R7, R8, R9): identity blocks (R25), the
identity checks (R27), the results of READ_ID and CHALLENGE (R26, R34 to R38), reconciliation and opening. -/

namespace Sys2Proof.Machine

/-! ### Identity blocks (R25, R187) -/

/-- The bytes of a block that version 2 moves stand four further up. -/
def layoutShift (version : Byte) : Nat := if version = 2 then 4 else 0

def half (raw : List Byte) (i : Nat) : Half := of16 (byteAt raw i) (byteAt raw (i + 1))

def word (raw : List Byte) (i : Nat) : Word :=
  of32 (byteAt raw i) (byteAt raw (i + 1)) (byteAt raw (i + 2)) (byteAt raw (i + 3))

/-- A block read by the layout its version names (R25, R187). -/
def readBlock (raw : List Byte) : IdRecord :=
  let version := byteAt raw 0
  let k := layoutShift version
  { raw := raw, version := version, colour := byteAt raw 1, model := half raw 2
    serial := word raw 4 ++ word raw 8
    lot := if version = 2 then some (word raw 12) else none
    capacity := word raw (12 + k), week := half raw (16 + k), region := byteAt raw (18 + k)
    keyIndex := byteAt raw (19 + k), vendor := (raw.take 62).drop (20 + k) }

/-- The serial a slot claims (R28): its account's, or in PROVING and RECONCILING its identity record's. -/
def claimed (s : State) (n : SlotId) : Option Serial :=
  match s.accounts[n] with
  | some a => some a.serial
  | none =>
    if s.slots[n].state = .proving ∨ s.slots[n].state = .reconciling then s.prf.identity[n].map (·.serial) else none

/-- Whether a key index names a LOADED key slot (R27 check 6). -/
def keyLoaded (s : State) (index : Byte) : Bool :=
  if h : index.toNat < 4 then (s.prf.keys[index.toNat]).isSome else false

/-- The first identity check that fails, or none (R27). -/
def identityFailure (s : State) (n : SlotId) (raw : List Byte) : Option Reason :=
  let id := readBlock raw
  if crc16 (raw.take 62) ≠ half raw 62 then some .malformed
  else if id.version ≠ 1 ∧ id.version ≠ 2 then some .malformed
  else if id.capacity.toNat < 1 ∨ 2000000 < id.capacity.toNat then some .malformed
  else if id.colour ≠ s.settings.colours[n] then some .wrongColour
  else if s.settings.region ≠ 0 ∧ id.region ≠ s.settings.region then some .wrongRegion
  else if keyLoaded s id.keyIndex = false then some .keyMissing
  else if allSlots.any (fun m => m != n && claimed s m == some id.serial) then some .duplicateSerial
  else if s.cal[n].valid = false then some .noCalibration
  else none

/-- The identity record of a slot replaced. -/
def setIdentity (s : State) (n : SlotId) (id : Option IdRecord) : State :=
  { s with prf := { s.prf with identity := put s.prf.identity n id } }

/-! ### Admission (R7) -/

/-- A slot goes to READING, with READ_ID as its admission step (R7). -/
def startReading (s : State) (n : SlotId) : State := placeAdmission (changeState s n .reading) n .readId

/-- A block that came back for a slot in READING is judged (R26, R27, R7). -/
def judgeBlock (s : State) (n : SlotId) (raw : List Byte) : State :=
  match identityFailure s n raw with
  | some why => rejectSlot s n why
  | none =>
    placeAdmission (changeState (setIdentity s n (some (readBlock raw))) n .proving) n .challenge

/-- The result of a READ_ID step (R26). -/
def readIdResult (s : State) (n : SlotId) (r : TxResult) : State :=
  if s.slots[n].state ≠ .reading then s
  else
    match r with
    | .reply .done body => judgeBlock s n body
    | .reply _ _ => rejectSlot s n .malformed
    | .failure _ => rejectSlot s n .noResponse
    | .noCartridge => s

/-! ### Proof outcomes (R8) and reconciliation outcomes (R9) -/

/-- The account state an admitted slot takes, by its target (R8, R9). -/
def admittedState (s : State) (n : SlotId) (onlineState : SlotState) : SlotState :=
  if s.slots[n].target = .online then onlineState else .parked

/-- The slot acts on an OPEN or OPEN_EMPTY outcome (R9, R83, R137). The identity record is discarded as the
slot leaves RECONCILING (R29). -/
def openOutcome (s : State) (n : SlotId) (id : IdRecord) (c : Nat) (spent empty : Bool) (cls : AccountClass)
    (refill : Option RefillReason) (catchUp : Nat) : State :=
  let s := openAccount s n (openingAccount s.settings.limits id cls refill c catchUp spent)
  let s := setIdentity (changeState s n (admittedState s n (if empty then .exhausted else .ready))) n none
  let s := if empty then raiseAlert s n .exhausted none else s
  match refill with
  | some r => raiseAlert s n .refillSuspect (some (r.code.setWidth 32))
  | none => s

/-- A slot in RECONCILING acts on its reconciliation outcome (R9, R133). -/
def reconcileSlot (s : State) (n : SlotId) (id : IdRecord) (c : Nat) (spent : Bool) : State :=
  match reconcile s id c spent with
  | .reject why => rejectSlot (setIdentity s n none) n why
  | .opens empty cls refill catchUp => openOutcome s n id c spent empty cls refill catchUp

/-- The spent flag of a flags byte (R187). -/
def spentFlag (flags : Byte) : Bool := flags.getLsbD 0

/-- PROVEN: the slot goes to RECONCILING and is reconciled (R8, R133). -/
def provenOutcome (s : State) (n : SlotId) (id : IdRecord) (c : Word) (flags : Byte) : State :=
  reconcileSlot (changeState s n .reconciling) n id c.toNat (spentFlag flags)

/-- MISMATCH, by the non-genuine policy in force (R8, R37). -/
def mismatchOutcome (s : State) (n : SlotId) (id : IdRecord) (c : Option Word) (flags : Option Byte) : State :=
  if s.settings.nonGenuine = .block then rejectSlot (setIdentity s n none) n .authFailed
  else
    let base := (c.map BitVec.toNat).getD 0
    let spent := (flags.map spentFlag).getD false
    let s := openAccount s n (openingAccount s.settings.limits id .nonGenuine none base 0 spent)
    let s := setIdentity (changeState s n (admittedState s n .ready)) n none
    raiseAlert s n .authFailed none

/-- NO_RESPONSE (R8, R38). -/
def noResponseOutcome (s : State) (n : SlotId) : State := rejectSlot (setIdentity s n none) n .noResponse

/-- The proof context freed with the digest engine (R34, R40). -/
def freePrf (s : State) : State := { s with prf := { s.prf with ctx := freeContext, digest := none } }

/-! ### The result of a CHALLENGE (R34, R36, R37, R38) -/

/-- The response digest: KD of the derived key over the challenge, serial, counter and flags (R36). -/
def responseDigest (key : BitVec 64) (challenge : BitVec 96) (serial : Serial) (counter : Word) (flags : Byte) : Digest :=
  .response (key ++ key) (challengeBytes challenge ++ be64 serial ++ be32 counter ++ [flags])

/-- The response digest starts when the reply has been taken and the derived key is ready (R36). -/
def startResponseDigest (s : State) : State :=
  let ctx := s.prf.ctx
  match ctx.slot, ctx.derivedKey, ctx.challenge, ctx.counter, ctx.flags with
  | some n, .value key, some ch, some c, some f =>
    match s.prf.identity[n] with
    | some id =>
      { s with prf := { s.prf with
        digest := some (responseDigest key ch id.serial c f), ctx := { ctx with expected := .computing } } }
    | none => s
  | _, _, _, _, _ => s

/-- The 8-byte response at the head of a CHALLENGE reply body (R187). -/
def responseOf (body : List Byte) : BitVec 64 := word body 0 ++ word body 4

/-- The proof context takes a whole CHALLENGE reply (R34, R36). -/
def takeChallengeReply (s : State) (body : List Byte) : State :=
  let ctx := { s.prf.ctx with
    phase := .checking, response := some (responseOf body), counter := some (word body 8), flags := some (byteAt body 12) }
  startResponseDigest { s with prf := { s.prf with ctx := ctx } }

/-- The result of a CHALLENGE step but for an accepted DONE reply, which waits for the response check
(R34, R37, R38). -/
def challengeResult (s : State) (n : SlotId) (r : TxResult) : State :=
  if s.prf.ctx.slot ≠ some n then s
  else
    match r, s.prf.identity[n] with
    | .reply _ _, some id => mismatchOutcome (freePrf s) n id none none
    | .failure _, _ => noResponseOutcome (freePrf s) n
    | .noCartridge, _ => freePrf s
    | _, _ => freePrf s

/-- The response digest `d` has ended: the context is freed and PROVEN or MISMATCH delivered (R36). -/
def responseChecked (s : State) (d : BitVec 64) : State :=
  let ctx := s.prf.ctx
  match ctx.slot, ctx.counter, ctx.flags with
  | some n, some c, some f =>
    match s.prf.identity[n] with
    | some id =>
      if ctx.response = some d then provenOutcome (freePrf s) n id c f
      else mismatchOutcome (freePrf s) n id (some c) (some f)
    | none => freePrf s
  | _, _, _ => freePrf s

end Sys2Proof.Machine
end

