-- ==== Sys2Proof/Machine/Cbus.lean ====
section
/-! DEFINITION. The cartridge bus (03): attempts and their ends (R50 to R59), the judgement of a reply (R54), cancelled
work (R66), the drained bus of a power-fail flush (R183), and the commands of the bus and of the digest engine. -/

namespace Sys2Proof.Machine

/-! ### The pass-through result (R154) -/

/-- Status and body of the CART_READ reply for a result (R154). Offset and length in one byte each, as in the request, are the
model's choice (notes/assumptions/21). -/
def readReply (n : SlotId) (offset length : Byte) : TxResult → Status × List Byte
  | .reply .done bytes => (.ok, [slotByte n, offset, length] ++ bytes)
  | .reply _ _ => (.badCommand, [slotByte n, offset, length])
  | .failure e => (.busError, [slotByte n, offset, length, e.code])
  | .noCartridge => (.noCartridge, [slotByte n, offset, length])

/-- SYSP takes a pass-through result: placed if the holder awaits that read, else dropped (R154). -/
def passThroughResult (s : State) (n : SlotId) (offset length : Byte) (tag : Nat) (r : TxResult) : State :=
  match s.sysp.holder with
  | .waiting t lost =>
    if t = tag then
      let (status, body) := readReply n offset length r
      let reply : Reply := ⟨replyKind 0x0B, status, replyFlags lost (attn s) false false, body⟩
      { s with sysp := { s.sysp with holder := .ready reply } }
    else s
  | _ => s

/-! ### Results handed to their origin (R59) -/

/-- The result of a transaction handed to its origin. -/
def handOver (s : State) (tx : Transaction) (r : TxResult) : State :=
  match tx.command with
  | .admission .readId => readIdResult s tx.slot r
  | .admission .challenge => challengeResult s tx.slot r
  | .writeBack .addUsed => addUsedResult s tx.slot tx.expected tx.amount r
  | .writeBack .readUsage => readUsageResult s tx.slot r
  | .writeBack .markSpent => markSpentResult s tx.slot r
  | .readArea offset length tag => passThroughResult s tx.slot offset length tag r

/-! ### The drained bus (R183) -/

/-- FLUSH_DONE is posted and the power state becomes FLUSHED (R183). -/
def storeFlushed (s : State) : State :=
  let s := postEvent s .flushDone noSlot 0 none
  { s with sto := { s.sto with power := .flushed } }

/-- FLUSHING_STORE ends when the writer is idle and no record is dirty (R183). -/
def storeFlushCheck (s : State) : State :=
  if s.sto.power = .flushingStore ∧ s.sto.writer.isNone = true ∧ anyDirty s = false then storeFlushed s else s

/-- FLUSHING_BUS ends when no ADD_USED is on the line or waiting: the provisional entries are written, and the
store phase starts, or ends at once (R183). -/
def drainCheck (s : State) : State :=
  if s.sto.power = .flushingBus ∧ addUsedOutstanding s = false then
    let s := provisionalEntries s
    storeFlushCheck { s with sto := { s.sto with power := .flushingStore } }
  else s

/-! ### The end of a transaction and of an attempt -/

/-- The transaction leaves the line: the arbiter acts, and a drained bus is reported (R59, R64, R65). -/
def leaveLine (s : State) : State := drainCheck (arbitrate { s with cbc := { s.cbc with line := none } })

/-- The errors in the order of R57. -/
def errorOrder : List BusError := [.collision, .framing, .check, .length, .timeout]

/-- The reported error of the errors noted (R57). -/
def reportedError (noted : List BusError) : BusError := (errorOrder.find? noted.contains).getD .timeout

/-- The next attempt of a transaction, with its body as R49 gives (R58). -/
def nextAttempt (s : State) (tx : Transaction) : State :=
  match tx.command with
  | .admission .challenge =>
    match startChallenge s tx.slot false with
    | none => leaveLine (unbuiltChallenge s tx.slot)
    | some (body, s') => beginAttempt s' { tx with body := body }
  | _ => beginAttempt s tx

/-- An attempt ends in failure: a break becomes owed and the next attempt starts, or after attempt 3 the
transaction ends in failure (R46, R58). -/
def failAttempt (s : State) (tx : Transaction) (noted : List BusError) : State :=
  let s := { s with cbc := { s.cbc with breakOwed := true } }
  if tx.attempt < 3 then
    nextAttempt s { tx with attempt := tx.attempt + 1, noted := [], deadline := none, limit := none }
  else leaveLine (handOver s tx (.failure (reportedError noted)))

/-! ### The judgement of a reply (R54) -/

/-- The data bytes before the check character that an accepted form has (R54). -/
def acceptedCount (c : TxCommand) (status : CartStatus) : Option Nat :=
  match c, status with
  | .admission .readId, .done => some 64
  | .admission .readId, _ => some 0
  | .admission .challenge, .done => some 13
  | .admission .challenge, _ => some 0
  | .writeBack .readUsage, .done => some 5
  | .writeBack .addUsed, .badCommand => none
  | .writeBack .addUsed, _ => some 4
  | .writeBack .markSpent, .done => some 0
  | .readArea _ length _, .done => some length.toNat
  | .readArea _ _ _, .badCommand => some 0
  | _, _ => none

/-- The data characters before the last character taken. -/
def replyData (rest : List CbusChar) : List Byte := (rest.dropLast.filter (!·.mark)).map (·.data)

/-- CHECK: the last character taken differs from the CRC-8 over the address character and the data before it. -/
def checkFails (address : Byte) (rest : List CbusChar) : Bool :=
  crc8 (address :: replyData rest) != ((rest.getLast?.map (·.data)).getD address)

/-- The reply's status, by the low nibble of its address character (R187). -/
def replyStatus (address : Byte) : Option CartStatus := CartStatus.ofNibble (address &&& 0x0F)

/-- LENGTH: the form is not among the accepted forms. -/
def lengthFails (tx : Transaction) (address : Byte) (rest : List CbusChar) : Bool :=
  address >>> 4 != slotByte tx.slot || rest.isEmpty || rest.any (·.mark) ||
    match replyStatus address with
    | none => true
    | some st => acceptedCount tx.command st != some (replyData rest).length

/-- The errors a whole reply notes (R54). -/
def replyErrors (tx : Transaction) (address : Byte) (rest : List CbusChar) : List BusError :=
  (if checkFails address rest then [.check] else []) ++ (if lengthFails tx address rest then [.length] else [])

/-- An accepted reply: a CHALLENGE reply of status DONE stays on the line until PRF has judged it, any other is
handed over (R34, R59). -/
def acceptReply (s : State) (tx : Transaction) (status : CartStatus) (body : List Byte) : State :=
  if tx.command = .admission .challenge ∧ status = .done ∧ s.prf.ctx.slot = some tx.slot then
    takeChallengeReply { s with cbc := { s.cbc with line := some { tx with action := .held, limit := none } } } body
  else leaveLine (handOver s tx (.reply status body))

/-! ### Cancelled work (R66) -/

/-- NO_CARTRIDGE for a waiting entry: only a pass-through read's origin acts on it (R34, R66, R101). -/
def cancelEntry (s : State) : QEntry → State
  | .passThrough n offset length tag => passThroughResult s n offset length tag .noCartridge
  | _ => s

/-- The transaction on the line aborted if it is the slot's: a break becomes owed (R66). A break cut off left the line low
until now (R45, R46). -/
def abortLine (s : State) (n : SlotId) : State :=
  match s.cbc.line with
  | none => s
  | some tx =>
    if tx.slot = n then
      handOver
        { s with cbc := { s.cbc with
          line := none, breakOwed := true, idle := if tx.action = .breaking then 0 else s.cbc.idle } }
        tx .noCartridge
    else s

/-- A slot's waiting entries leave the queue, its transaction is aborted, and the arbiter acts (R66). -/
def cancelSlotWork (s : State) (n : SlotId) : State :=
  let gone := s.cbc.queue.filter (·.slot == n)
  let s := { s with cbc := { s.cbc with queue := s.cbc.queue.filter (·.slot != n) } }
  drainCheck (arbitrate (abortLine (gone.foldl cancelEntry s) n))

/-! ### Commands -/

/-- The transaction on the line while the part runs, changed by `f` if there is one. -/
def onLine (s : State) (f : Transaction → State) : State :=
  match s.cbc.line with
  | some tx => if s.phase = .running then f tx else s
  | none => s

/-- The state with another transaction on the line and another idle count. -/
def setLine (s : State) (tx : Transaction) (idle : Nat) : State :=
  { s with cbc := { s.cbc with line := some tx, idle := idle } }

/-- BREAK_END (R46, R50, R58). -/
def execBreakEnd (s : State) : Outcome :=
  .next <| onLine s fun tx =>
    if tx.action = .breaking then
      let s := { s with cbc := { s.cbc with breakOwed := false, idle := 0, backoff := 0 } }
      if 1 < tx.attempt then
        setLine s { tx with action := .backoff, limit := some (startTimer s 500) } 0
      else messageReady s tx
    else s

/-- BACKOFF_COMPLETE, with the run of high bit-times the line then shows. The run began after the break, at which the
counter began, so it is not longer than the counter (R45, R46, R58). -/
def execBackoffComplete (idleRun : Nat) (s : State) : Outcome :=
  .next <| onLine s fun tx =>
    if tx.action = .backoff then
      messageReady { s with cbc := { s.cbc with idle := min (8 * tx.attempt) idleRun, backoff := 8 * tx.attempt } } tx
    else s

/-- PREAMBLE_COMPLETE (R45). -/
def execPreambleComplete (s : State) : Outcome :=
  .next <| onLine s fun tx =>
    if tx.action = .preamble then setLine s { tx with action := .sending 0, limit := none } 11 else s

/-- A bit-time that another driver holds low: the idle count returns to 0 (R45). -/
def lowSeen (s : State) : State := { s with cbc := { s.cbc with idle := 0 } }

/-- A bit of the message read back low that was sent as 1: COLLISION ends the attempt (R51). -/
def collided (s : State) (tx : Transaction) : State := failAttempt (lowSeen s) tx (.collision :: tx.noted)

/-- COLLISION (R51). -/
def execCollision (s : State) : Outcome :=
  .next <| onLine s fun tx =>
    match tx.action with
    | .sending _ => collided s tx
    | _ => s

/-- The reply deadline of a command in bit-times (R48). -/
def deadlineOf : TxCommand → Nat
  | .admission .readId => ms 3
  | .admission .challenge => ms 10
  | .writeBack .readUsage => ms 3
  | .writeBack .addUsed => ms 25
  | .writeBack .markSpent => ms 25
  | .readArea _ _ _ => ms 3

/-- MESSAGE_SENT: the deadline starts; the idle count is what the message's bits leave (R43, R45, R48). -/
def execMessageSent (s : State) : Outcome :=
  .next <| onLine s fun tx =>
    match tx.action with
    | .sending _ =>
      setLine s { tx with action := .awaiting, deadline := some (startTimer s (deadlineOf tx.command)) }
        (idleOver s.cbc.idle (messageBits tx))
    | _ => s

/-- What a character on CBUS does: with a transaction on the line of a running part what `f` says; else it only counts as any
low bit-time, which a part with power sees at all times (R45). -/
def onCharacter (s : State) (f : Transaction → State) : State :=
  match s.phase, s.cbc.line with
  | .off, _ => s
  | .running, some tx => f tx
  | _, _ => lowSeen s

/-- REPLY_ADDRESS_CHARACTER: awaited, it begins the reply (R52, R53); one that comes while no attempt is waiting for or
taking a reply is discarded, and its start bit counts as any low bit-time, in reset and while the store is loaded too (R45).
While a reply is being taken it is a low bit-time and no more: the reply's further characters, address characters among them,
come with CBUS_REPLY_END, where R53 and R54 judge them. That is the model's convention (DESIGN CHOICE, notes/assumptions/10). -/
def execReplyAddressCharacter (data : Byte) (s : State) : Outcome :=
  .next <| onCharacter s fun tx =>
    match tx.action with
    | .awaiting =>
      setLine s { tx with action := .taking data, deadline := none, limit := some (startTimer s (ms 8)) } 0
    | .breaking | .sending _ => s
    | _ => lowSeen s

/-- REPLY_DEADLINE_EXPIRY: TIMEOUT ends a wait, and is only noted during a discard (R52, R55). -/
def execReplyDeadlineExpiry (s : State) : Outcome :=
  .next <| onLine s fun tx =>
    if tx.action = .awaiting then failAttempt s tx (.timeout :: tx.noted)
    else if tx.action = .discarding false ∧ tx.deadline.isSome = true then
      setLine s { tx with noted := .timeout :: tx.noted, deadline := none } s.cbc.idle
    else s

/-- CBUS_FRAMING_ERROR: between the end of the message and the end of the reply it notes FRAMING and starts the
discard; in the read-back of the part's own message it is a collision; elsewhere it is only a low bit-time
(R45, R51, R55). -/
def execCbusFramingError (s : State) : Outcome :=
  .next <| onCharacter s fun tx =>
    let discard (taken : Bool) : State :=
      setLine s { tx with action := .discarding taken, noted := .framing :: tx.noted, limit := some (startTimer s 500) } 0
    match tx.action with
    | .awaiting => discard false
    | .taking _ => discard true
    | .sending _ => collided s tx
    | .breaking => s
    | _ => lowSeen s

/-- FRAMING_DISCARD_END (R55). -/
def execFramingDiscardEnd (s : State) : Outcome :=
  .next <| onLine s fun tx =>
    match tx.action with
    | .discarding _ => failAttempt { s with cbc := { s.cbc with idle := 11 } } tx tx.noted
    | _ => s

/-- The line idle count at the end of a reply: the high bit-times that end its last character, and the 11 idle bit-times of
the end-of-reply gap after it (R45, R53). -/
def replyIdle (address : Byte) (rest : List CbusChar) : Nat :=
  idleOver 0 (charBits (rest.getLast?.getD ⟨true, address⟩) ++ List.replicate 11 true)

/-- CBUS_REPLY_END, with the characters taken after the address character (R53, R54). -/
def execCbusReplyEnd (rest : List CbusChar) (s : State) : Outcome :=
  .next <| onLine s fun tx =>
    match tx.action with
    | .taking address =>
      let s := { s with cbc := { s.cbc with idle := replyIdle address rest } }
      match replyErrors tx address rest, replyStatus address with
      | [], some status => acceptReply s tx status (replyData rest)
      | errors, _ => failAttempt s tx (errors ++ tx.noted)
    | _ => s

/-- REPLY_LENGTH_LIMIT_EXPIRY (R53). -/
def execReplyLengthLimitExpiry (s : State) : Outcome :=
  .next <| onLine s fun tx =>
    match tx.action with
    | .taking _ => failAttempt s tx (.length :: tx.noted)
    | _ => s

/-- IDLE_WAIT_LIMIT_EXPIRY (R56). -/
def execIdleWaitLimitExpiry (s : State) : Outcome :=
  .next <| onLine s fun tx =>
    match tx.action with
    | .backoff | .preamble | .discarding _ => failAttempt s tx (.collision :: tx.noted)
    | _ => s

/-- DERIVED_KEY_DIGEST_COMPLETE: the key is ready, and the response digest starts if the reply has been taken
(R35, R36). -/
def execDerivedKeyDigestComplete (s : State) : Outcome :=
  .next <|
    match s.prf.digest with
    | some (.derivedKey key message) =>
      if s.phase = .running then
        let s := { s with prf := { s.prf with
          digest := none, ctx := { s.prf.ctx with derivedKey := .value (Config.kd key message) } } }
        if s.prf.ctx.phase = .checking then startResponseDigest s else s
      else s
    | _ => s

/-- A transaction held for PRF leaves the line (R59). -/
def leaveHeld (s : State) : State :=
  match s.cbc.line with
  | some tx => if tx.action = .held then leaveLine s else s
  | none => s

/-- RESPONSE_DIGEST_COMPLETE: the response is compared and the outcome delivered (R36, R37). -/
def execResponseDigestComplete (s : State) : Outcome :=
  .next <|
    match s.prf.digest with
    | some (.response key message) =>
      if s.phase = .running then leaveHeld (responseChecked s (Config.kd key message)) else s
    | _ => s

end Sys2Proof.Machine
end

