-- ==== Sys2Proof/Machine/Slots.lean ====
section
/-! DEFINITION. Slots (01): presence filtering (R3), insertion (R4), removal (R11), dropped engine holds (R122), and the
commands of the presence lines and lamps. -/

namespace Sys2Proof.Machine

/-- A slot enters SEATED and acts on its mode (R4). -/
def insertion (s : State) (n : SlotId) : State :=
  let s := changeState s n .seated
  if s.settings.modes[n] = .auto then startReading s n else s

/-- ENGP drops a slot's holds: 0 in every swath that lists it, its purge record cleared, nothing debited (R122). -/
def dropEngineHolds (s : State) (n : SlotId) : State :=
  { s with engp := { s.engp with
    table := s.engp.table.map fun w => modListed w n fun l => { l with hold := 0 }
    purges := put s.engp.purges n none } }

/-- The open account closes into history, the slot's bus work is cancelled and its engine holds are dropped
(R11 steps 2 to 4, R17). -/
def endSlotWork (s : State) (n : SlotId) : State := dropEngineHolds (cancelSlotWork (closeAccount s n) n) n

/-- Whether a removal raises REMOVED_IN_USE (R11 step 1). -/
def removedInUse (s : State) (n : SlotId) : Bool :=
  inAccountState s n &&
    match s.accounts[n] with
    | some a => a.metered && decide (0 < a.pendingInk + a.inFlight)
    | none => false

/-- A removal (R11, R12). -/
def removal (s : State) (n : SlotId) : State :=
  let due := removedInUse s n
  let s := setIdentity (endSlotWork s n) n none
  let s := changeState (modSlot s n fun r => { r with target := .online }) n .vacant
  if due then raiseAlert s n .removedInUse none else s

/-- PRESENCE_LINE_CHANGE (R3). Before the presence lines have been sampled only the level counts (R23). -/
def execPresenceLineChange (n : SlotId) (high : Bool) (s : State) : Outcome :=
  .next <|
    if s.lines.presence[n] = high then s
    else
      let t := startTimer s (if high then ms 50 else ms 5)
      let s' := { s with lines := { s.lines with presence := put s.lines.presence n high } }
      if s.phase = .running then
        modSlot s' n fun r => { r with presenceTimer := if r.present = high then none else some t }
      else s'

/-- PRESENCE_TIMER_EXPIRY: an insertion or a removal (R3, R4, R11). -/
def execPresenceTimerExpiry (n : SlotId) (s : State) : Outcome :=
  .next <|
    if s.phase = .running ∧ s.slots[n].presenceTimer.isSome = true then
      let high := s.lines.presence[n]
      let s := modSlot s n fun r => { r with present := high, presenceTimer := none }
      if high = true ∧ s.slots[n].state = .vacant then insertion s n
      else if high = false ∧ s.slots[n].state ≠ .vacant then removal s n
      else s
    else s

/-- LAMP_PHASE_EXPIRY: the next interval of the pattern's cycle (R21). -/
def execLampPhaseExpiry (n : SlotId) (s : State) : Outcome :=
  .next <|
    if s.phase = .running then
      modSlot s n fun r => { r with lampPhase := (r.lampPhase + 1) % r.shown.cycle.length }
    else s

end Sys2Proof.Machine
end

