-- ==== Sys2Proof/Machine/SysPort.lean ====
section
/-! DEFINITION. The system port (08): selections and the reply holder (R148 to R152), the sixteen system requests, failed
frames, partial and collect selections. -/

namespace Sys2Proof.Machine

/-! ### Selections and replies -/

/-- The reply a selection sends: the one READY when it began, else the NONE reply (R148, R150). -/
def sentReply (h : Holder) (ready : Bool) : Reply :=
  match h with
  | .ready r => if ready then r else noneReply
  | _ => noneReply

/-- The holder after a selection that clocked `n` bytes: a reply that was READY at its beginning and was
clocked whole is collected (R150). -/
def afterSelection (h : Holder) (ready : Bool) (n : Nat) : Holder :=
  match h with
  | .ready r => if ready = true ∧ r.frame.length ≤ n then .empty else h
  | _ => h

/-- The end of a selection of the system port in which `n` bytes were clocked. -/
def endSysSelection (s : State) (ready : Bool) (n : Nat) : State :=
  { s with sysp := { s.sysp with
    sent := clockedOut (sentReply s.sysp.holder ready) n, holder := afterSelection s.sysp.holder ready n } }

/-- A request taken while the holder is READY or WAITING loses the earlier reply (R151). -/
def sysLost (s : State) : Bool := s.sysp.holder != .empty

/-- The earlier reply, or the awaited result, dropped (R151). -/
def clearHolder (s : State) : State := { s with sysp := { s.sysp with holder := .empty } }

/-- A reply placed in the holder (R150, R152). -/
def placeReply (s : State) (kind : Byte) (lost : Bool) (status : Status) (body : List Byte) : State :=
  let flags := replyFlags lost (attn s) (status == .clamped) false
  { s with sysp := { s.sysp with holder := .ready ⟨replyKind kind, status, flags, body⟩ } }

/-- What a request that completes at once gives: the state after it has acted, its status and its body. -/
abbrev Answer := State × Status × List Byte

/-- A system request of `kind` with `len` body bytes, taken as its selection ends (R148, R150). While the part
is in reset or loading, the selection is ignored whole (R179). -/
def sysRequest (s : State) (sel : Selection) (kind : Byte) (len : Nat) (act : State → Answer) : State :=
  if s.phase = .running then
    let s := endSysSelection s sel.ready (len + 3 + sel.filler)
    let (s', status, body) := act (clearHolder s)
    placeReply s' kind (sysLost s) status body
  else s

/-- A request for one slot: a slot outside 0..9 is refused with RANGE before any other check (8.3). -/
def forSlot (slot : Byte) (act : SlotId → State → Answer) (s : State) : Answer :=
  match slotOf slot with
  | none => (s, .range, [])
  | some n => act n s

/-! ### Reports -/

/-- The fields of SLOT_STATUS (R24). -/
def slotFields (s : State) (n : SlotId) : List Byte :=
  let r := s.slots[n]
  [r.state.code, (r.state.reason.map Reason.code).getD 0, s.settings.modes[n].code, r.target.code,
    alertCodeOrNone r.alert, BitVec.ofNat 8 r.alertCount, r.shown.code, yesNo r.override.isSome,
    (s.accounts[n].map (·.cls.code)).getD Config.noClassCode, (s.accounts[n].map (·.level.code)).getD noLevel]

/-- The figure of a metered account, UNKNOWN for an unmetered one (R85). R186 gives 0xFFFFFFFF for a headroom that is UNKNOWN;
that an available that is UNKNOWN is sent so too is the model's choice (notes/assumptions/21). -/
def meteredFigure (a : Account) (n : Nat) : List Byte := if a.metered then u32 n else noFigure

/-- The fields of ACCOUNT_STATS (R104). -/
def accountFields (s : State) (n : SlotId) (a : Account) : List Byte :=
  [a.cls.code, refillCodeOrNone a.refill, yesNo a.metered, a.level.code] ++ u32 a.capacity ++ [a.keyIndex, a.version] ++
    u32 a.base ++ u32 a.catchUp ++ u32 a.confirmed ++ u32 a.inFlight ++ u32 a.pendingInk ++ u32 (consumedView a) ++
    meteredFigure a (headroom a) ++ u32 (if a.metered then holds s n else 0) ++ meteredFigure a (available s n a) ++
    u32 a.dropTotal ++ u32 a.purgeTotal ++ u8 a.failures ++ [yesNo a.suspended, a.spent.code]

/-- Headroom and level of a slot, as LEVELS gives them (R104). -/
def levelFields (s : State) (n : SlotId) : List Byte :=
  match s.accounts[n] with
  | some a => meteredFigure a (headroom a) ++ [a.level.code]
  | none => noFigure ++ [noLevel]

/-- The six limits as a reply gives them: the threshold is a figure in µL, four bytes (R156, R186). -/
def limitFields (l : Limits) : List Byte :=
  u8 l.low ++ u8 l.reserve ++ u32 l.threshold ++ u8 l.window ++ u8 l.swath ++ u8 l.purge

/-- The eight bytes of an event record (R188). -/
def eventBytes (e : Event) : List Byte :=
  [e.seq, if e.value.isSome then e.kind.code ||| 0x80 else e.kind.code, e.slot, e.code] ++ be32 (e.value.getD 0)

/-- A seen position as HISTORY_READ gives it (R146). -/
def seenFields : Option SeenEntry → List Byte
  | some e => be64 e.serial ++ u32 e.consumed ++ u32 e.unwritten ++ [slotByte e.lastSlot, e.lastClass.code] ++ u32 e.stamp
  | none => Config.emptyEntry .seen

/-- A place of the retired list's order as HISTORY_READ gives it (R146). -/
def retiredFields : Option RetiredEntry → List Byte
  | some e => be64 e.serial ++ [e.reason.code] ++ u32 e.number
  | none => Config.emptyEntry .retired

/-! ### What each request does -/

/-- SLOT_STATUS (R24). -/
def actSlotStatus (n : SlotId) (s : State) : Answer := (s, .ok, slotFields s n)

/-- LEVELS (R104). -/
def actLevels (s : State) : Answer := (s, .ok, allSlots.flatMap (levelFields s))

/-- The mode of a slot stored; the settings record is dirty if it differs (R5). -/
def storeMode (s : State) (n : SlotId) (m : Mode) : State :=
  if s.settings.modes[n] = m then s
  else markDirty { s with settings := { s.settings with modes := put s.settings.modes n m } } recSettings

/-- SET_SLOT_MODE (R5). -/
def actSetSlotMode (mode : Byte) (n : SlotId) (s : State) : Answer :=
  match Mode.ofCode mode with
  | none => (s, .range, [])
  | some m =>
    let start := s.slots[n].state == .seated && m == .auto && s.settings.modes[n] != .auto
    let s := storeMode s n m
    (if start then startReading s n else s, .ok, [])

/-- ADMIT (R6). -/
def actAdmit (n : SlotId) (s : State) : Answer :=
  if s.slots[n].state ≠ .seated ∨ s.settings.modes[n] ≠ .confirm then (s, .wrongState, [])
  else if s.slots[n].alert ≠ none then (s, .alertPending, [])
  else (startReading s n, .ok, [])

/-- PARK (R13). -/
def actPark (n : SlotId) (s : State) : Answer :=
  if s.slots[n].state = .ready then
    (changeState (modSlot s n fun r => { r with target := .parked }) n .parked, .ok, [])
  else (s, .wrongState, [])

/-- Where UNPARK takes the slot: READY if the account is unmetered or has headroom, else EXHAUSTED (R14). -/
def unparkedState (s : State) (n : SlotId) : SlotState :=
  if (s.accounts[n].map feeds).getD false then .ready else .exhausted

/-- UNPARK (R14). -/
def actUnpark (n : SlotId) (s : State) : Answer :=
  if s.slots[n].state ≠ .parked then (s, .wrongState, [])
  else if s.slots[n].alert ≠ none then (s, .alertPending, [])
  else
    (arbitrateIfJoined s (changeState (modSlot s n fun r => { r with target := .online }) n (unparkedState s n)), .ok, [])

/-- RETRY (R17). -/
def actRetry (n : SlotId) (s : State) : Answer :=
  match s.slots[n].state with
  | .rejected why =>
    if s.slots[n].alert ≠ none then (s, .alertPending, [])
    else (startReading (if why = .contactLost then endSlotWork s n else s) n, .ok, [])
  | _ => (s, .wrongState, [])

/-- ACK_ALERT (R19). -/
def actAckAlert (n : SlotId) (s : State) : Answer :=
  (modSlot s n fun r => { r with alert := none, alertCount := 0 }, .ok, [])

/-- SET_LAMP (R22). -/
def actSetLamp (pattern : Byte) (n : SlotId) (s : State) : Answer :=
  match LampPattern.ofCode pattern with
  | none => (s, .range, [])
  | some p => (modSlot s n fun r => { r with override := some p, shown := p, lampPhase := 0 }, .ok, [])

/-- TAKE_EVENTS (R161). -/
def actTakeEvents (n : Byte) (s : State) : Answer :=
  if 8 < n.toNat then (s, .range, [])
  else
    let q := s.sysp.events
    let out := q.take n.toNat
    let left := q.drop n.toNat
    ({ s with sysp := { s.sysp with events := left } }, .ok, u8 out.length ++ out.flatMap eventBytes ++ u8 left.length)

/-- Whether CART_READ is served in a slot's state (R153). -/
def readable : SlotState → Bool
  | .ready | .parked | .exhausted | .rejected _ => true
  | _ => false

/-- The refusal of a CART_READ, if any (R153, R63). -/
def readRefusal (s : State) (slot offset length : Byte) : Option Status :=
  match slotOf slot with
  | none => some .range
  | some n =>
    if readable s.slots[n].state = false then some .wrongState
    else if 63 < offset.toNat ∨ length.toNat < 1 ∨ 32 < length.toNat then some .range
    else if 4 ≤ (s.cbc.queue.filter QEntry.isPassThrough).length then some .busy
    else none

/-- A CART_READ accepted: the holder awaits its result and the entry joins the queue (R63, R150, R153). -/
def acceptRead (s : State) (n : SlotId) (offset length : Byte) (lost : Bool) : State :=
  let tag := s.sysp.readTag
  joinQueue { s with sysp := { s.sysp with holder := .waiting tag lost, readTag := tag + 1 } }
    (.passThrough n offset length tag)

/-- CART_READ taken as its selection ends (R153). -/
def takeCartRead (s : State) (slot offset length : Byte) : State :=
  match readRefusal s slot offset length, slotOf slot with
  | none, some n => acceptRead s n offset length (sysLost s)
  | some status, _ => placeReply s 0x0B (sysLost s) status []
  | none, none => s

/-- SET_POLICY (R155). -/
def actSetPolicy (nonGenuine suspect : Byte) (s : State) : Answer :=
  match NonGenuinePolicy.ofCode nonGenuine, SuspectPolicy.ofCode suspect with
  | some g, some p =>
    let same := s.settings.nonGenuine = g ∧ s.settings.suspect = p
    let s' := { s with settings := { s.settings with nonGenuine := g, suspect := p } }
    (if same then s else markDirty s' recSettings, .ok, [g.code, p.code])
  | _, _ => (s, .range, [])

/-- A value held to a range (R156). -/
def clampTo (lo hi v : Nat) : Nat := max lo (min hi v)

/-- The six limits as clamped, the reserve percentage against the clamped low percentage (R156). -/
def clampLimits (l : Limits) : Limits :=
  let low := clampTo 1 50 l.low
  { low := low, reserve := clampTo 0 low l.reserve, threshold := clampTo 16 4000 l.threshold
    window := clampTo 5 255 l.window, swath := clampTo 1 60 l.swath, purge := clampTo 1 60 l.purge }

/-- Levels computed afresh for every open metered account, slot 0 first (R87, R157). -/
def refreshLevels (s : State) : State := forSlots refreshLevel s

/-- SET_LIMITS (R156, R157). -/
def actSetLimits (asked : Limits) (s : State) : Answer :=
  let l := clampLimits asked
  let old := s.settings.limits
  let status : Status := if l = asked then .ok else .clamped
  let s' := markDirty { s with settings := { s.settings with limits := l } } recSettings
  let s' := if l = old then s else if l.low ≠ old.low ∨ l.reserve ≠ old.reserve then refreshLevels s' else s'
  (s', status, limitFields l)

/-- FLUSH: the trigger applied to every open account, slot 0 first (R158). -/
def actFlush (s : State) : Answer :=
  (forSlots trigger s, .ok,
    u8 (allSlots.filter (triggerDue s)).length ++ be16 (slotMask (triggerDue s)))

/-- HISTORY_READ (R146). -/
def actHistoryRead (table index : Byte) (s : State) : Answer :=
  match HistTable.ofCode table with
  | some .seen =>
    if h : index.toNat < 32 then (s, .ok, seenFields (s.his.seen[index.toNat])) else (s, .range, [])
  | some .retired =>
    if index.toNat < 64 then (s, .ok, retiredFields ((retiredInOrder s.his.retired)[index.toNat]?))
    else (s, .range, [])
  | none => (s, .range, [])

/-- ACCOUNT_STATS (R104). -/
def actAccountStats (n : SlotId) (s : State) : Answer :=
  match s.accounts[n] with
  | some a => (s, .ok, accountFields s n a)
  | none => (s, .noAccount, [])

/-! ### Commands -/

def execSlotStatus (slot : Byte) (sel : Selection) (s : State) : Outcome :=
  .next (sysRequest s sel 0x01 1 (forSlot slot actSlotStatus))

def execLevels (sel : Selection) (s : State) : Outcome := .next (sysRequest s sel 0x02 0 actLevels)

def execSetSlotMode (slot mode : Byte) (sel : Selection) (s : State) : Outcome :=
  .next (sysRequest s sel 0x03 2 (forSlot slot (actSetSlotMode mode)))

def execAdmit (slot : Byte) (sel : Selection) (s : State) : Outcome :=
  .next (sysRequest s sel 0x04 1 (forSlot slot actAdmit))

def execPark (slot : Byte) (sel : Selection) (s : State) : Outcome :=
  .next (sysRequest s sel 0x05 1 (forSlot slot actPark))

def execUnpark (slot : Byte) (sel : Selection) (s : State) : Outcome :=
  .next (sysRequest s sel 0x06 1 (forSlot slot actUnpark))

def execRetry (slot : Byte) (sel : Selection) (s : State) : Outcome :=
  .next (sysRequest s sel 0x07 1 (forSlot slot actRetry))

def execAckAlert (slot : Byte) (sel : Selection) (s : State) : Outcome :=
  .next (sysRequest s sel 0x08 1 (forSlot slot actAckAlert))

def execSetLamp (slot pattern : Byte) (sel : Selection) (s : State) : Outcome :=
  .next (sysRequest s sel 0x09 2 (forSlot slot (actSetLamp pattern)))

def execTakeEvents (n : Byte) (sel : Selection) (s : State) : Outcome :=
  .next (sysRequest s sel 0x0A 1 (actTakeEvents n))

/-- CART_READ is the one request whose reply may wait (R150, R153). -/
def execCartRead (slot offset length : Byte) (sel : Selection) (s : State) : Outcome :=
  .next <|
    if s.phase = .running then takeCartRead (endSysSelection s sel.ready (6 + sel.filler)) slot offset length else s

def execSetPolicy (nonGenuine suspect : Byte) (sel : Selection) (s : State) : Outcome :=
  .next (sysRequest s sel 0x0C 2 (actSetPolicy nonGenuine suspect))

def execSetLimits (low reserve : Byte) (threshold : Half) (window swath purge : Byte) (sel : Selection) (s : State) :
    Outcome :=
  .next (sysRequest s sel 0x0D 7
    (actSetLimits ⟨low.toNat, reserve.toNat, threshold.toNat, window.toNat, swath.toNat, purge.toNat⟩))

def execFlush (sel : Selection) (s : State) : Outcome := .next (sysRequest s sel 0x0E 0 actFlush)

def execHistoryRead (table index : Byte) (sel : Selection) (s : State) : Outcome :=
  .next (sysRequest s sel 0x0F 2 (actHistoryRead table index))

def execAccountStats (slot : Byte) (sel : Selection) (s : State) : Outcome :=
  .next (sysRequest s sel 0x10 1 (forSlot slot actAccountStats))

/-- SYS_FRAME_REJECTED: the reply of the first check that fails (R149). A run of bytes that is no whole failed
frame is not this event. -/
def execSysFrameRejected (frame : List Byte) (sel : Selection) (s : State) : Outcome :=
  .next <|
    match judgeSystem sel frame with
    | .failed status =>
      if byteAt frame 0 = 0 then s
      else sysRequest s sel (byteAt frame 0) (byteAt frame 1).toNat fun s => (s, status, [])
    | _ => s

/-- SYS_PARTIAL_SELECTION: no request is taken and a held reply stays held (R148, R149). -/
def execSysPartialSelection (received : List Byte) (ready : Bool) (s : State) : Outcome :=
  .next <|
    if s.phase = .running ∧ judgeSystem ⟨ready, 0⟩ received = .notWhole ∧ received.head? ≠ some 0 then
      { s with sysp := { s.sysp with sent := clockedOut (sentReply s.sysp.holder ready) received.length } }
    else s

/-- SYS_COLLECT_SELECTION (R148, R150). -/
def execSysCollectSelection (clocked : Nat) (ready : Bool) (s : State) : Outcome :=
  .next <| if s.phase = .running ∧ 0 < clocked then endSysSelection s ready clocked else s

end Sys2Proof.Machine
end

