-- ==== Sys2Proof/Machine/Engine.lean ====
section
/-! DEFINITION. The engine port (06): its link (R106), the swath table (R108 to R114), the report watchdog (R115, R116), swath
timers (R117), purges (R118 to R120), GATE_STATUS (R125) and ENGINE_RESTART (R126). -/

namespace Sys2Proof.Machine

/-! ### The link (R106) -/

/-- The engine's held reply as a holder, so that R150's rules serve both ports (R106). -/
def engHolder (s : State) : Holder := (s.engp.reply.map Holder.ready).getD .empty

/-- The reply a holder holds. -/
def holderReply : Holder → Option Reply
  | .ready r => some r
  | _ => none

/-- The end of a selection of the engine port in which `n` bytes were clocked. -/
def endEngSelection (s : State) (ready : Bool) (n : Nat) : State :=
  { s with engp := { s.engp with
    sent := clockedOut (sentReply (engHolder s) ready) n, reply := holderReply (afterSelection (engHolder s) ready n) } }

/-- A reply placed for the engine, replacing any held; engine replies carry no EVENTS_PENDING (R106). -/
def placeEngReply (s : State) (kind : Byte) (lost : Bool) (status : Status) (clamped temp : Bool) (body : List Byte) : State :=
  { s with engp := { s.engp with reply := some ⟨replyKind kind, status, replyFlags lost false clamped temp, body⟩ } }

/-- What an engine request gives: the state after it has acted, its status, its CLAMPED and TEMP_CLAMPED flags and
its body. -/
structure EngAnswer where
  state : State
  status : Status
  clamped : Bool := false
  temp : Bool := false
  body : List Byte := []

/-- An engine request of `kind` with `len` body bytes, taken as its selection ends (R106, R148). -/
def engRequest (s : State) (sel : Selection) (kind : Byte) (len : Nat) (act : State → EngAnswer) : State :=
  if s.phase = .running then
    let s := endEngSelection s sel.ready (len + 3 + sel.filler)
    let a := act s
    placeEngReply a.state kind s.engp.reply.isSome a.status a.clamped a.temp a.body
  else s

/-! ### Swath table -/

/-- Whether an entry is OPEN. -/
def anyOpen (s : State) : Bool := s.engp.table.any (·.state == .opened)

/-- The watchdog stops when no entry is OPEN (R115). -/
def stopIfNoneOpen (s : State) : State :=
  if anyOpen s then s else { s with engp := { s.engp with watchdog := none } }

/-- The report watchdog started with its full window (R115, R121). -/
def startWatchdog (s : State) : State :=
  { s with engp := { s.engp with watchdog := some (startTimer s (ms s.settings.limits.window)) } }

/-- An entry become EXPIRED: its timer stops and every hold is released (R108, R116, R117). -/
def expireSwath (w : Swath) : Swath :=
  { w with state := .expired, timer := none, slots := w.slots.map fun l => { l with hold := 0 } }

/-- The slots and estimates a list asks for, if each is in range (R109 condition 1). -/
def readEstimates : List SwathAsk → Option (List (SlotId × Nat))
  | [] => some []
  | a :: rest =>
    match slotOf a.slot, readEstimates rest with
    | some n, some l => if 1 ≤ a.estimate.toNat then some ((n, a.estimate.toNat) :: l) else none
    | _, _ => none

/-- Condition 1 of R109. -/
def swathAsks (id : Byte) (asks : List SwathAsk) : Option (List (SlotId × Nat)) :=
  match readEstimates asks with
  | some l =>
    if id.toNat ≤ 254 ∧ 1 ≤ l.length ∧ l.length ≤ 10 ∧ (l.map (·.1)).Nodup then some l else none
  | none => none

/-- The per-slot status of a listed slot (R109 condition 6). -/
def askStatus (s : State) (ask : SlotId × Nat) : Status :=
  if s.slots[ask.1].state ≠ .ready then .notReady
  else
    match s.accounts[ask.1] with
    | some a => if a.metered = true ∧ available s ask.1 a < ask.2 then .short else .ok
    | none => .ok

/-- A slot's available as a reply carries it: UNKNOWN unmetered, none without an account (R109, R118, notes/assumptions/21). -/
def availableField (s : State) (n : SlotId) : List Byte :=
  match s.accounts[n] with
  | some a => meteredFigure a (available s n a)
  | none => noFigure

/-- Whether a slot's account is metered. -/
def meteredSlot (s : State) (n : SlotId) : Bool := (s.accounts[n].map (·.metered)).getD false

/-- The first condition 2 to 5 of R109 that fails. -/
def swathRefusal (s : State) (id : Byte) : Option Status :=
  if (swathOf s id).isSome then some .duplicateSwath
  else if 2 ≤ s.engp.table.length then some .tableFull
  else if pfailAsserted s then some .powerFail
  else if s.engp.expired then some .engineSilent
  else none

/-- A granted OPEN_SWATH: the entry made, its timer and, if no other is OPEN, the watchdog started (R109). -/
def grantSwath (s : State) (id : Byte) (l : List (SlotId × Nat)) : State :=
  let w : Swath :=
    ⟨id, .opened, l.map fun x => ⟨x.1, if meteredSlot s x.1 then x.2 else 0, 0⟩,
      some (startTimer s (ms (1000 * s.settings.limits.swath)))⟩
  let s' := if anyOpen s then s else startWatchdog s
  { s' with engp := { s'.engp with table := s.engp.table ++ [w] } }

/-- OPEN_SWATH (R109). -/
def actOpenSwath (id : Byte) (asks : List SwathAsk) (s : State) : EngAnswer :=
  match swathAsks id asks with
  | none => { state := s, status := .range }
  | some l =>
    match swathRefusal s id with
    | some st => { state := s, status := st }
    | none =>
      if l.all fun x => askStatus s x == .ok then
        let s' := grantSwath s id l
        { state := s', status := .ok, body := l.flatMap fun x => availableField s' x.1 }
      else
        { state := s, status := .slotsRefused
          body := l.flatMap fun x => (askStatus s x).code :: availableField s x.1 }

/-! ### Drop reports (R111 to R113) -/

/-- The status a report gets from the swath it names (R112). -/
def reportStatus (s : State) (id : Byte) : Status :=
  match swathOf s id with
  | some w => if w.state = .opened then .ok else .late
  | none => if id = 255 then .ok else .unknownSwath

/-- The OFF_SWATH flag of an entry: the named swath is in the table and does not list the slot (R112). -/
def offSwath (s : State) (id slot : Byte) : Bool :=
  match swathOf s id with
  | some w => match slotOf slot with
    | some n => !lists w n
    | none => true
  | none => false

/-- The open account an entry's slot byte reaches (R111). -/
def entryAccount (s : State) (slot : Byte) : Option (SlotId × Account) :=
  match slotOf slot with
  | some n => s.accounts[n].map fun a => (n, a)
  | none => none

/-- One entry taken: the state after it, and its result bytes (R111, R113). -/
def takeEntry (s : State) (id : Byte) (t : Nat) (e : DropEntry) : State × List Byte :=
  let off := yesNo (offSwath s id e.slot)
  match entryAccount s e.slot with
  | some (n, a) =>
    let (s', d) := meterEntry s n a id e t
    (s', [e.slot, 0x00, off] ++ u16 d)
  | none => (s, [e.slot, 0x06, off] ++ u16 0)

/-- The entries of a report taken in order (R71, R111). -/
def takeEntries (id : Byte) (t : Nat) : State → List DropEntry → State × List Byte
  | s, [] => (s, [])
  | s, e :: rest =>
    let (s, b) := takeEntry s id t e
    let (s, bs) := takeEntries id t s rest
    (s, b ++ bs)

/-- A running watchdog restarted (R115). -/
def restartWatchdog (s : State) : State := if s.engp.watchdog.isSome then startWatchdog s else s

/-- DROP_REPORT: the arbiter acts once every entry has been taken (R64, R111, R112, R113). -/
def actDropReport (id temperature : Byte) (entries : List DropEntry) (s : State) : EngAnswer :=
  if entries.length < 1 ∨ 10 < entries.length then { state := s, status := .malformed }
  else
    let (taken, results) := takeEntries id (workingTemperature temperature) (restartWatchdog s) entries
    let s' := arbitrateIfJoined s taken
    { state := s', status := reportStatus s id, temp := temperatureClamped temperature
      body := results ++ be16 (gateMask s') }

/-! ### Closing a swath (R114) -/

/-- The expired flag cleared when the table is empty, and the gates re-evaluated (R114, R116). -/
def clearIfEmpty (s : State) : State :=
  if s.engp.table.isEmpty = true ∧ s.engp.expired = true then
    reevalGates { s with engp := { s.engp with expired := false } }
  else s

/-- A swath closed: removed with its holds and timer, its slots handed to ACC as triggers (R114). -/
def closeSwath (s : State) (w : Swath) : State :=
  let s := { s with engp := { s.engp with table := s.engp.table.filter (·.id != w.id) } }
  clearIfEmpty (stopIfNoneOpen (w.slots.foldl (fun s l => trigger s l.slot) s))

/-- CLOSE_SWATH (R114). -/
def actCloseSwath (id : Byte) (s : State) : EngAnswer :=
  match swathOf s id with
  | some w =>
    { state := closeSwath s w, status := .ok
      body := w.state.code :: w.slots.flatMap fun l => slotByte l.slot :: u32 l.debited }
  | none => { state := s, status := .unknownSwath }

/-! ### Purges (R118 to R120) -/

/-- The most one purge draws, in µL (R80, R119). -/
def purgeMax : Nat := 4000

/-- The first condition 2 to 5 of R118 that fails for a slot. -/
def purgeRefusal (s : State) (n : SlotId) (amount : Nat) : Option Status :=
  if pfailAsserted s then some .powerFail
  else if s.slots[n].state ≠ .ready ∧ s.slots[n].state ≠ .parked then some .notReady
  else if s.engp.purges[n].isSome then some .purgeBusy
  else
    match s.accounts[n] with
    | some a => if a.metered = true ∧ available s n a < amount then some .short else none
    | none => none

/-- A purge record held (R118). -/
def grantPurge (s : State) (n : SlotId) (amount : Nat) : State :=
  let p : Purge :=
    ⟨amount, if meteredSlot s n then amount else 0, startTimer s (ms (1000 * s.settings.limits.purge))⟩
  { s with engp := { s.engp with purges := put s.engp.purges n (some p) } }

/-- PURGE_START (R118). -/
def actPurgeStart (slot : Byte) (amount : Half) (s : State) : EngAnswer :=
  match slotOf slot with
  | none => { state := s, status := .range }
  | some n =>
    if amount.toNat < 1 ∨ purgeMax < amount.toNat then { state := s, status := .range }
    else
      match purgeRefusal s n amount.toNat with
      | some .short => { state := s, status := .short, body := availableField s n }
      | some st => { state := s, status := st }
      | none =>
        let s' := grantPurge s n amount.toNat
        { state := s', status := .ok, body := availableField s' n }

/-- A slot's purge record cleared, its timer stopped and its hold released. -/
def clearPurge (s : State) (n : SlotId) : State :=
  { s with engp := { s.engp with purges := put s.engp.purges n none } }

/-- PURGE_END (R119). The arbiter acts after step 3, so that the purge end trigger is absorbed into an ADD_USED that the
debit of step 2 requests, as in the worked sequence of 6.14, on a free line too; R64 would let that ADD_USED start before
step 3, and the order is the model's choice (notes/assumptions/34). -/
def actPurgeEnd (slot : Byte) (actual : Half) (s : State) : EngAnswer :=
  match slotOf slot with
  | none => { state := s, status := .range }
  | some n =>
    if s.engp.purges[n].isSome then
      let amount := min actual.toNat purgeMax
      { state := arbitrateIfJoined s (requestAddUsed (debitPurge (clearPurge s n) n amount) n), status := .ok
        clamped := decide (purgeMax < actual.toNat), body := u16 amount }
    else { state := s, status := .unknownPurge }

/-! ### GATE_STATUS and ENGINE_RESTART -/

/-- Time left on a timer in ms, whole milliseconds begun counting down from its window; 0 when run out. -/
def timeLeft (s : State) (t : Timer) : Nat := (t.start + t.window - s.clock) / 100

/-- An entry of the swath table as GATE_STATUS gives it (R125). The id in one byte, as in the requests, is the model's choice
(R186, notes/assumptions/21). -/
def swathFields (s : State) (w : Swath) : List Byte :=
  [w.id, w.state.code] ++ u16 ((w.timer.map (timeLeft s)).getD 0) ++
    w.slots.flatMap fun l => slotByte l.slot :: (u16 l.hold ++ u32 l.debited)

/-- A purge record as GATE_STATUS gives it (R125): the requested amount is a purge amount, the hold another figure in µL
(R118, R186, notes/assumptions/21). -/
def purgeFields (s : State) (n : SlotId) : List Byte :=
  match s.engp.purges[n] with
  | some p => [yesNo true] ++ u16 p.requested ++ u32 p.hold ++ u16 (timeLeft s p.timer)
  | none => [yesNo false]

/-- GATE_STATUS (R125). -/
def actGateStatus (s : State) : EngAnswer :=
  { state := s, status := .ok
    body := be16 (gateMask s) ++ [yesNo s.engp.expired, yesNo (pfailAsserted s)] ++
      s.engp.table.flatMap (swathFields s) ++ allSlots.flatMap (purgeFields s) }

/-- The engine side returned to its empty state (R126). -/
def restartEngine (s : State) : State :=
  reevalGates { s with engp := { s.engp with
    table := [], expired := false, watchdog := none, purges := Vector.replicate 10 none } }

/-- ENGINE_RESTART (R126). -/
def actEngineRestart (s : State) : EngAnswer := { state := restartEngine s, status := .ok }

/-! ### Commands -/

def execOpenSwath (id : Byte) (asks : List SwathAsk) (sel : Selection) (s : State) : Outcome :=
  .next (engRequest s sel 0x21 (2 + 3 * asks.length) (actOpenSwath id asks))

def execDropReport (id temperature : Byte) (entries : List DropEntry) (sel : Selection) (s : State) : Outcome :=
  .next (engRequest s sel 0x22 (2 + 7 * entries.length) (actDropReport id temperature entries))

def execCloseSwath (id : Byte) (sel : Selection) (s : State) : Outcome :=
  .next (engRequest s sel 0x23 1 (actCloseSwath id))

def execPurgeStart (slot : Byte) (amount : Half) (sel : Selection) (s : State) : Outcome :=
  .next (engRequest s sel 0x24 3 (actPurgeStart slot amount))

def execPurgeEnd (slot : Byte) (actual : Half) (sel : Selection) (s : State) : Outcome :=
  .next (engRequest s sel 0x25 3 (actPurgeEnd slot actual))

def execGateStatus (sel : Selection) (s : State) : Outcome := .next (engRequest s sel 0x26 0 actGateStatus)

def execEngineRestart (sel : Selection) (s : State) : Outcome := .next (engRequest s sel 0x27 0 actEngineRestart)

/-- ENG_FRAME_REJECTED: the reply of the first check that fails (R106, R149). A run of bytes that is no whole
failed frame is not this event. -/
def execEngFrameRejected (frame : List Byte) (sel : Selection) (s : State) : Outcome :=
  .next <|
    match judgeEngine sel frame with
    | .failed status =>
      if byteAt frame 0 = 0 then s
      else engRequest s sel (byteAt frame 0) (byteAt frame 1).toNat fun s => { state := s, status := status }
    | _ => s

/-- ENG_PARTIAL_SELECTION: the frame is discarded and any reply held is kept (R106). -/
def execEngPartialSelection (received : List Byte) (ready : Bool) (s : State) : Outcome :=
  .next <|
    if s.phase = .running ∧ judgeEngine ⟨ready, 0⟩ received = .notWhole ∧ received.head? ≠ some 0 then
      { s with engp := { s.engp with sent := clockedOut (sentReply (engHolder s) ready) received.length } }
    else s

/-- ENG_COLLECT_SELECTION (R106, R150). -/
def execEngCollectSelection (clocked : Nat) (ready : Bool) (s : State) : Outcome :=
  .next <| if s.phase = .running ∧ 0 < clocked then endEngSelection s ready clocked else s

/-- REPORT_WATCHDOG_EXPIRY (R116). -/
def execReportWatchdogExpiry (s : State) : Outcome :=
  .next <|
    if s.phase = .running ∧ s.engp.watchdog.isSome = true then
      let k := (s.engp.table.filter (·.state == .opened)).length
      let table := s.engp.table.map fun w => if w.state = .opened then expireSwath w else w
      let s := reevalGates { s with engp := { s.engp with table := table, watchdog := none, expired := true } }
      postEvent s .engineSilent noSlot 0 (some (BitVec.ofNat 32 k))
    else s

/-- SWATH_TIMER_EXPIRY of the entry with an id (R117). -/
def execSwathTimerExpiry (id : Byte) (s : State) : Outcome :=
  .next <|
    match swathOf s id with
    | some w =>
      if s.phase = .running ∧ w.timer.isSome = true then
        postEvent (stopIfNoneOpen (modSwath s id expireSwath)) .swathOverrun noSlot id none
      else s
    | none => s

/-- PURGE_TIMER_EXPIRY (R120). The arbiter acts at the end of it (notes/assumptions/34). -/
def execPurgeTimerExpiry (n : SlotId) (s : State) : Outcome :=
  .next <|
    match s.engp.purges[n] with
    | some p =>
      if s.phase = .running then
        arbitrateIfJoined s <|
          postEvent (debitPurge (clearPurge s n) n p.requested) .purgeAssumed (slotByte n) 0
            (some (BitVec.ofNat 32 p.requested))
      else s
    | none => s

end Sys2Proof.Machine
end

