-- ==== Sys2Proof/Machine/Store.lean ====
section
/-! DEFINITION. The settings store (10): what a record holds (R174), how a stored record is judged (R175), the start-up load
(R176, R177, R147), the writer (R180, R181) and the state after a full reset (R179, R185). -/

namespace Sys2Proof.Machine

/-! ### RAM copies and stored contents (R174) -/

def settingsImage (x : Settings) : SettingsImage where
  nonGenuine := x.nonGenuine.code
  suspect := x.suspect.code
  low := BitVec.ofNat 8 x.limits.low
  reserve := BitVec.ofNat 8 x.limits.reserve
  threshold := BitVec.ofNat 16 x.limits.threshold
  window := BitVec.ofNat 8 x.limits.window
  swath := BitVec.ofNat 8 x.limits.swath
  purge := BitVec.ofNat 8 x.limits.purge
  modes := x.modes.map Mode.code
  colours := x.colours
  region := x.region

def filterImage (f : Filter) : FilterImage :=
  ⟨yesNo f.enabled, f.offset, f.mask, f.expected, yesNo f.chain, yesNo f.invert, f.action.code⟩

def seenImage (e : SeenEntry) : SeenImage :=
  ⟨e.serial, BitVec.ofNat 32 e.consumed, BitVec.ofNat 32 e.unwritten, slotByte e.lastSlot, e.lastClass.code,
    BitVec.ofNat 32 e.stamp⟩

def retiredImage (e : RetiredEntry) : RetiredImage := ⟨e.serial, e.reason.code, BitVec.ofNat 32 e.number⟩

/-- The RAM copy of record `r` as the writer takes it (R174, R180). -/
def ramContents (s : State) (r : Fin 118) : Contents :=
  if h : r.val < 1 then .settings (settingsImage s.settings)
  else if h : r.val < 11 then
    let c := s.cal[r.val - 1]
    .calibration c.vS c.vM c.vL c.kappa
  else if h : r.val < 12 then .locks s.locks
  else if h : r.val < 18 then .filter (filterImage s.his.filters[r.val - 12])
  else if h : r.val < 22 then .key ((s.prf.keys[r.val - 18]).getD 0)
  else if h : r.val < 54 then .seen ((s.his.seen[r.val - 22]).map seenImage)
  else .retired ((s.his.retired[r.val - 54]).map retiredImage)

/-! ### Reading stored contents: none when a value lies outside its field's range (R175) -/

/-- A number in a range, both ends included. -/
def within (lo hi v : Nat) : Bool := decide (lo ≤ v) && decide (v ≤ hi)

/-- The limits of a settings image are in range, the reserve not above the low percentage (R156, R175). -/
def limitsInRange (x : SettingsImage) : Bool :=
  within 1 50 x.low.toNat && within 0 x.low.toNat x.reserve.toNat && within 16 4000 x.threshold.toNat &&
    within 5 255 x.window.toNat && within 1 60 x.swath.toNat && within 1 60 x.purge.toNat

/-- A settings record as loaded. -/
def readSettings (x : SettingsImage) : Option Settings :=
  match NonGenuinePolicy.ofCode x.nonGenuine, SuspectPolicy.ofCode x.suspect with
  | some g, some p =>
    if limitsInRange x && x.modes.toList.all (fun m => (Mode.ofCode m).isSome) &&
        x.colours.toList.all (fun c => within 1 15 c.toNat) then
      some
        { nonGenuine := g, suspect := p
          limits := ⟨x.low.toNat, x.reserve.toNat, x.threshold.toNat, x.window.toNat, x.swath.toNat, x.purge.toNat⟩
          modes := x.modes.map fun m => (Mode.ofCode m).getD .auto
          colours := x.colours, region := x.region }
    else none
  | _, _ => none

/-- The drop volumes and the coefficient lie in the ranges of R68. -/
def calibrationInRange (vS vM vL : Half) (kappa : Byte) : Bool :=
  within 16 1023 vS.toNat && within 16 1023 vM.toNat && within 16 1023 vL.toNat &&
    decide (-64 ≤ kappa.toInt) && decide (kappa.toInt ≤ 64)

/-- A filter record as loaded (R139). -/
def readFilter (x : FilterImage) : Option Filter :=
  match yesNoOfCode x.enabled, yesNoOfCode x.chain, yesNoOfCode x.invert, FilterAction.ofCode x.action with
  | some e, some c, some i, some a =>
    if x.offset.toNat ≤ 63 then some ⟨e, x.offset, x.mask, x.expected, c, i, a⟩ else none
  | _, _, _, _ => none

/-- A seen record as loaded (R128). -/
def readSeen (x : SeenImage) : Option SeenEntry :=
  match slotOf x.lastSlot, seenClassOfCode x.lastClass with
  | some n, some c =>
    if x.unwritten.toNat ≤ x.consumed.toNat ∧ 1 ≤ x.stamp.toNat then
      some ⟨x.serial, x.consumed.toNat, x.unwritten.toNat, n, c, x.stamp.toNat⟩
    else none
  | _, _ => none

/-- A retired record as loaded (R130). -/
def readRetired (x : RetiredImage) : Option RetiredEntry :=
  match RetiredReason.ofCode x.reason with
  | some w => if 1 ≤ x.number.toNat then some ⟨x.serial, w, x.number.toNat⟩ else none
  | none => none

/-! ### The check of a record (R174) -/

/-- The bytes over which a record's CRC-16 is formed. R174 gives the contents and no layout: the fields in R174's order,
in R186's widths, with a byte that says whether a history entry stands there, are the model's choice
(notes/assumptions/14). -/
def recordBytes : Contents → List Byte
  | .settings x =>
    [x.nonGenuine, x.suspect, x.low, x.reserve] ++ be16 x.threshold ++ [x.window, x.swath, x.purge] ++ x.modes.toList ++
      x.colours.toList ++ [x.region]
  | .calibration vS vM vL kappa => be16 vS ++ be16 vM ++ be16 vL ++ [kappa]
  | .locks l => be16 (slotMask fun n => l[n])
  | .filter x => [x.enabled, x.offset] ++ be24 x.mask ++ be16 x.expected ++ [x.chain, x.invert, x.action]
  | .key k => be128 k
  | .seen none => [yesNo false]
  | .seen (some x) =>
    [yesNo true] ++ be64 x.serial ++ be32 x.consumed ++ be32 x.unwritten ++ [x.lastSlot, x.lastClass] ++ be32 x.stamp
  | .retired none => [yesNo false]
  | .retired (some x) => [yesNo true] ++ be64 x.serial ++ [x.reason] ++ be32 x.number

/-- The CRC-16 of a record (R174). -/
def recordCheck (c : Contents) : Half := crc16 (recordBytes c)

/-- Contents as a whole write stores them, with their check (R174, R180). -/
def withCheck (c : Contents) : Stored := .written c (recordCheck c)

/-! ### Judging a stored record (R175) -/

/-- Whether contents are of the kind record `r` holds, with every value in its range; a record marked empty has
no values. -/
def contentsFit (r : Fin 118) : Contents → Bool
  | .settings x => decide (r = recSettings) && (readSettings x).isSome
  | .calibration vS vM vL kappa => within 1 10 r.val && calibrationInRange vS vM vL kappa
  | .locks _ => decide (r = recLocks)
  | .filter x => within 12 17 r.val && (readFilter x).isSome
  | .key _ => within 18 21 r.val
  | .seen none => within 22 53 r.val
  | .seen (some x) => within 22 53 r.val && (readSeen x).isSome
  | .retired none => within 54 117 r.val
  | .retired (some x) => within 54 117 r.val && (readRetired x).isSome

/-- The judgement of a stored record (R175). -/
def judgeRecord (r : Fin 118) : Stored → Judgement
  | .blank => .blank
  | .broken => .bad
  | .written c check => if check = recordCheck c ∧ contentsFit r c = true then .good else .bad

/-- The judgement of record `r`'s stored copy. -/
def judged (s : State) (r : Fin 118) : Judgement := judgeRecord r s.sto.stored[r]

/-- The contents of record `r` if its stored copy is good. -/
def goodContents (s : State) (r : Fin 118) : Option Contents :=
  match s.sto.stored[r] with
  | .written c check => if check = recordCheck c ∧ contentsFit r c = true then some c else none
  | _ => none

/-- The records `l` that a judgement `j` says are of kind `k`. -/
def recordsJudged (j : Fin 118 → Judgement) (k : Judgement) : List (Fin 118) :=
  (List.finRange 118).filter fun r => j r == k

/-! ### The start-up load (R176, R177, R147) -/

def loadedSettings (s : State) : Option Settings :=
  match goodContents s recSettings with
  | some (.settings x) => readSettings x
  | _ => none

def loadedCalibration (s : State) (n : SlotId) : Calibration :=
  match goodContents s (recCalibration n) with
  | some (.calibration vS vM vL kappa) => ⟨vS, vM, vL, kappa, true⟩
  | _ => invalidCalibration

def loadedFilter (s : State) (e : Fin 6) : Filter :=
  match goodContents s (recFilter e) with
  | some (.filter x) => (readFilter x).getD clearedFilter
  | _ => clearedFilter

def loadedKey (s : State) (k : Fin 4) : Option (BitVec 128) :=
  match goodContents s (recKey k) with
  | some (.key v) => some v
  | _ => none

def loadedSeen (s : State) (p : Fin 32) : Option SeenEntry :=
  match goodContents s (recSeen p) with
  | some (.seen (some x)) => readSeen x
  | _ => none

def loadedRetired (s : State) (p : Fin 64) : Option RetiredEntry :=
  match goodContents s (recRetired p) with
  | some (.retired (some x)) => readRetired x
  | _ => none

/-- The settings loaded, or the defaults with the settings record marked dirty (R176, R177). -/
def loadSettings (s : State) : State :=
  match loadedSettings s with
  | some x => { s with settings := x }
  | none => markDirty { s with settings := defaultSettings } recSettings

/-- Calibration, filters, keys and the history positions loaded (R176, R30, R69, R139, R147). -/
def loadTables (s : State) : State :=
  { s with
    cal := tab 10 (loadedCalibration s)
    prf := { s.prf with keys := tab 4 (loadedKey s) }
    his := { s.his with
      seen := tab 32 (loadedSeen s), retired := tab 64 (loadedRetired s), filters := tab 6 (loadedFilter s) } }

/-- The locks of a good record, less those over a calibration that is not good (R177). -/
def usableLocks (s : State) (l : Vector Bool 10) : Vector Bool 10 := tab 10 fun n => l[n] && s.cal[n].valid

/-- The calibration locks loaded; calibration is loaded first (R176, R177). -/
def loadLocks (s : State) : State :=
  match judged s recLocks, goodContents s recLocks with
  | .blank, _ => { s with locks := Vector.replicate 10 false }
  | _, some (.locks l) =>
    let s' := { s with locks := usableLocks s l }
    if usableLocks s l = l then s' else markDirty s' recLocks
  | _, _ => markDirty { s with locks := tab 10 fun n => s.cal[n].valid } recLocks

/-- Whether the entry at `p` yields to another of the same serial: the lower number loses (R147); of equal
numbers a free value decides. -/
def yields {α : Type} {k : Nat} (serial : α → Serial) (num : α → Nat) (t : Vector (Option α) k) (p : Fin k) : Bool :=
  (List.finRange k).any fun q =>
    match t[p], t[q] with
    | some x, some y =>
      decide (q ≠ p) && serial x == serial y &&
        (decide (num x < num y) ||
          (decide (num x = num y) && (if Config.tieKeepsLower then decide (q.val < p.val) else decide (p.val < q.val))))
    | _, _ => false

/-- The positions of a table that the duplicate rule empties. -/
def duplicates {α : Type} {k : Nat} (serial : α → Serial) (num : α → Nat) (t : Vector (Option α) k) : List (Fin k) :=
  (List.finRange k).filter (yields serial num t)

/-- The table with every duplicate emptied. -/
def withoutDuplicates {α : Type} {k : Nat} (serial : α → Serial) (num : α → Nat) (t : Vector (Option α) k) :
    Vector (Option α) k :=
  tab k fun p => if yields serial num t p then none else t[p]

/-- One more than the highest number among the entries loaded, 1 if none (R147). -/
def nextNumber {α : Type} {k : Nat} (num : α → Nat) (t : Vector (Option α) k) : Nat :=
  t.toList.foldl (fun m e => max m ((e.map num).getD 0)) 0 + 1

/-- HIS sets its counters and applies its duplicate rule (R147, R176). -/
def loadHistory (s : State) : State :=
  let seen := s.his.seen
  let retired := s.his.retired
  let s' := { s with his := { s.his with
    seen := withoutDuplicates SeenEntry.serial SeenEntry.stamp seen
    retired := withoutDuplicates RetiredEntry.serial RetiredEntry.number retired
    stamp := nextNumber SeenEntry.stamp seen, retire := nextNumber RetiredEntry.number retired } }
  let s' := (duplicates SeenEntry.serial SeenEntry.stamp seen).foldl (fun s p => markDirty s (recSeen p)) s'
  (duplicates RetiredEntry.serial RetiredEntry.number retired).foldl (fun s p => markDirty s (recRetired p)) s'

/-- The events at the end of the load (R178). -/
def postLoadEvents (s : State) (defaulted : Bool) (bad : Nat) : State :=
  let s := if defaulted then postEvent s .settingsDefaulted noSlot 0 none else s
  if 0 < bad then postEvent s .storeFault noSlot 0 (some (BitVec.ofNat 32 bad)) else s

/-- The start-up load: every record judged and read, the dirty marks of R177 and R147 set, the events posted
(R176 to R178). -/
def startUpLoad (s : State) : State :=
  let bad := (recordsJudged (judged s) .bad).length
  let s' := { s with sto := { s.sto with dirty := Vector.replicate 118 false } }
  postLoadEvents (loadHistory (loadLocks (loadTables (loadSettings s')))) (loadedSettings s).isNone bad

/-! ### Full reset (R179 step 1, R185) -/

/-- The write that runs to its end before the load reads its record (R179). -/
def carriedWrite (s : State) : Option (Fin 118 × Contents) :=
  match s.sto.writer with
  | some w => some w
  | none => s.sto.carried

/-- A full reset taken: every block at its value after full reset, a fresh seed drawn, the stored records and the
input lines kept (R23, R42, R67, R105, R127, R147, R163, R173, R185). Until the sample of R179 step 3 restarts it, the
PFAIL filter holds a timer of window 0 at the reset's clock, which nothing reads: the model's choice
(notes/assumptions/5). -/
def fullReset (s : State) (phase : Phase) : State :=
  let z := State.reset
  { z with
    phase := phase, lines := s.lines, clock := s.clock, draws := s.draws + 1
    prf := { z.prf with seqNo := Config.randomSeed s.draws }
    sto := { z.sto with stored := s.sto.stored, carried := carriedWrite s, filter := ⟨s.clock, 0⟩ }
    pending := s.pending }

/-! ### The writer (R180, R181) -/

/-- The scan order (R180). -/
def scanOrder : List (Fin 118) :=
  (List.finRange 64).map recRetired ++ (List.finRange 32).map recSeen ++ [recSettings] ++
    (List.finRange 10).map recCalibration ++ [recLocks] ++ (List.finRange 6).map recFilter ++ (List.finRange 4).map recKey

/-- The scan order from the record after `last`, wrapping. -/
def scanAfter (last : Fin 118) : List (Fin 118) :=
  (scanOrder.dropWhile (· != last)).drop 1 ++ scanOrder.takeWhile (· != last) ++ [last]

/-- The first dirty record that follows the last record written (R180). -/
def nextDirty (s : State) : Option (Fin 118) := (scanAfter s.sto.last).find? fun r => s.sto.dirty[r]

/-- The judgements of a STORE_CHECK that has read the records below `k`, in record order: those made before stand, and
the others are of the stored copies as they are now (R169). -/
def checkedTo (s : State) (seen : List Judgement) (k : Nat) : List Judgement :=
  seen ++ (((List.finRange 118).take k).drop seen.length).map (judged s)

/-- A STORE_CHECK under way has come some way when a write starts, and what it has read by then stands; how far is a free
value. A check that reaches a record being written waits for the new copy (R169). -/
def noteCheck (s : State) : State :=
  match s.svl.check with
  | none => s
  | some seen =>
    { s with svl := { s.svl with check := some (checkedTo s seen (Config.checkProgress s.draws)) }, draws := s.draws + 1 }

/-- The writer starts on record `r`: the RAM copy taken, the dirty mark cleared (R180). -/
def startWrite (s : State) (r : Fin 118) : State :=
  { s with sto := { s.sto with writer := some (r, ramContents s r), dirty := put s.sto.dirty r false } }

/-- A record's stored copy replaced by contents with their check. -/
def commit (s : State) (w : Fin 118 × Contents) : State :=
  { s with sto := { s.sto with stored := put s.sto.stored w.1 (withCheck w.2) } }

/-- The write in progress ends (R180). -/
def endWrite (s : State) (w : Fin 118 × Contents) : State :=
  let s := commit s w
  { s with sto := { s.sto with writer := none, last := w.1 } }

/-- The write a full reset met under way ends. -/
def endCarried (s : State) : State :=
  match s.sto.carried with
  | some w =>
    let s := commit s w
    { s with sto := { s.sto with carried := none } }
  | none => s

/-- A loss of power in the middle of a write: that record's check no longer fits (R181). -/
def breakRecord (s : State) : State :=
  match carriedWrite s with
  | some w => { s with sto := { s.sto with stored := put s.sto.stored w.1 .broken, writer := none, carried := none } }
  | none => s

/-! ### Commands -/

/-- WRITER_START (R169, R180). -/
def execWriterStart (s : State) : Outcome :=
  .next <|
    if s.phase = .running ∧ s.sto.writer.isNone = true then
      match nextDirty s with
      | some r => startWrite (noteCheck s) r
      | none => s
    else s

/-- WRITE_COMPLETE (R180, R179). -/
def execWriteComplete (s : State) : Outcome :=
  .next <|
    match s.sto.writer with
    | some w => if s.phase = .running then endWrite s w else endCarried s
    | none => if s.phase = .running then s else endCarried s

/-- BUS_FLUSH_DRAINED (R183). -/
def execBusFlushDrained (s : State) : Outcome := .next <| if s.phase = .running then drainCheck s else s

/-- STORE_FLUSH_COMPLETE (R183). -/
def execStoreFlushComplete (s : State) : Outcome := .next <| if s.phase = .running then storeFlushCheck s else s

end Sys2Proof.Machine
end

