-- ==== Sys2Proof/Machine/Power.lean ====
section
/-! DEFINITION. Power (10): the power-fail warning (R182 to R184), full reset by power-on and by the reset line (R179), the
end of the start-up load with the start-up sample (R178, R179, R23), and the loss of power (R181). -/

namespace Sys2Proof.Machine

/-! ### The power-fail warning -/

/-- The window of the PFAIL filter for a level: 10 ms high, 50 µs low (R182). -/
def pfailWindow (high : Bool) : Nat := if high then ms 10 else 5

/-- STO takes the assertion in NORMAL (R182). The gates read the power state, so it is written with step 1. -/
def assertPfail (s : State) : State :=
  let s := reevalGates { s with sto := { s.sto with power := .flushingBus } }
  let s := { s with cbc := { s.cbc with flush := true } }
  drainCheck (forSlots trigger s)

/-- STO takes the withdrawal in a power state other than NORMAL (R184, R65). -/
def withdrawPfail (s : State) : State :=
  let s := reevalGates { s with sto := { s.sto with power := .normal } }
  arbitrate { s with cbc := { s.cbc with flush := false } }

/-! ### The end of the load (R179 steps 2 to 5) -/

/-- The start-up sample of a slot's presence line (R23). -/
def sampleSlot (s : State) (n : SlotId) : State :=
  if s.lines.presence[n] then insertion (modSlot s n fun r => { r with present := true }) n else s

/-- PFAIL_N sampled once (R179 step 3, R185). -/
def samplePfail (s : State) : State :=
  let s := { s with sto := { s.sto with filter := startTimer s (pfailWindow s.lines.pfailN) } }
  if s.lines.pfailN then s else assertPfail s

/-- The load ends, its events are posted, PFAIL_N and the presence lines are sampled, and service begins (R179). -/
def finishLoad (s : State) : State :=
  forSlots sampleSlot (samplePfail { startUpLoad (endCarried s) with phase := .running })

/-! ### Power -/

/-- The supply is lost: a record being written is broken, everything volatile is gone (R181). -/
def losePower (s : State) : State := fullReset (breakRecord s) .off

/-- The phase a full reset starts in: the part stays in reset while RESET_N is asserted (R179). -/
def resetPhase (s : State) : Phase := if s.lines.resetN then .loading else .resetHeld

/-- A full reset at once, as power-on and RESTART cause it (R173, R179). -/
def resetNow (s : State) : State := fullReset s (resetPhase s)

/-! ### Commands -/

/-- PFAIL_N_CHANGE: the filter starts anew (R182). -/
def execPfailNChange (high : Bool) (s : State) : Outcome :=
  .next <|
    if s.lines.pfailN = high then s
    else
      { s with
        lines := { s.lines with pfailN := high }
        sto := { s.sto with filter := startTimer s (pfailWindow high) } }

/-- PFAIL_ASSERTED (R182). -/
def execPfailAsserted (s : State) : Outcome :=
  .next <|
    if s.phase = .running ∧ s.lines.pfailN = false ∧ s.sto.power = .normal then assertPfail s else s

/-- PFAIL_WITHDRAWN (R184). -/
def execPfailWithdrawn (s : State) : Outcome :=
  .next <|
    if s.phase = .running ∧ s.lines.pfailN = true ∧ s.sto.power ≠ .normal then withdrawPfail s else s

/-- POWER_ON (R179). A part still powered loses its power first. -/
def execPowerOn (s : State) : Outcome :=
  .next (resetNow (if s.phase = .off then s else losePower s))

/-- RESET_LINE_ASSERTED: a full reset, in which the part then stays (R179). -/
def execResetLineAsserted (s : State) : Outcome :=
  .next <|
    if s.lines.resetN = false then s
    else
      let s := { s with lines := { s.lines with resetN := false } }
      if s.phase = .off then s else fullReset s .resetHeld

/-- RESET_LINE_WITHDRAWN: the part goes on to its load (R179). -/
def execResetLineWithdrawn (s : State) : Outcome :=
  let s := { s with lines := { s.lines with resetN := true } }
  .next (if s.phase = .resetHeld then { s with phase := .loading } else s)

/-- START_UP_LOAD_COMPLETE (R178, R179). -/
def execStartUpLoadComplete (s : State) : Outcome :=
  .next <| if s.phase = .loading then finishLoad s else s

/-- POWER_LOSS (R181). -/
def execPowerLoss (s : State) : Outcome := .next <| if s.phase = .off then s else losePower s

end Sys2Proof.Machine
end

