-- ==== Sys2Proof/Machine/Service.lean ====
section
/-! DEFINITION. The service line (09): sync (R164), frames and replies (R165), line errors (R166), the unlock (R167), the
open commands (R168, R169), the privileged commands (R31, R144, R145, R170 to R172) and RESTART (R173). -/

namespace Sys2Proof.Machine

/-! ### Frames, replies and the unlock -/

/-- The service line with a reply ready: the line is BUSY until it is sent (R165). -/
def svcReply (s : State) (command : Byte) (status : Status) (body : List Byte) : State :=
  { s with svl := { s.svl with line := .busy, frame := [], reply := some ⟨replyKind command, status, body⟩ } }

/-- The unlock state replaced (R167). -/
def setUnlock (s : State) (u : Unlock) : State := { s with svl := { s.svl with unlock := u } }

/-- Whether the line can receive a command frame: in READY, or in RECEIVING with the frame then whole (R165). -/
def listening (s : State) : Bool :=
  s.phase == .running && s.svl.error == .none && (s.svl.line == .ready || s.svl.line == .receiving)

/-- An open command: it executes in any unlock state and leaves NONE (R167). -/
def openCommand (s : State) (command : Byte) (act : State → Answer) : State :=
  if listening s then
    let (s', status, body) := act s
    svcReply (setUnlock s' .none) command status body
  else s

/-- A privileged command: executed in OPEN, else refused LOCKED; NONE afterwards (R165 check 4, R167). -/
def privileged (s : State) (command : Byte) (act : State → Answer) : State :=
  if listening s then
    if s.svl.unlock = .opened then
      let (s', status, body) := act (setUnlock s .none)
      svcReply s' command status body
    else svcReply (setUnlock s .none) command .locked []
  else s

/-- The unlock code of UNLOCK_A (R167). -/
def codeA : Byte := 0xA7
/-- The unlock code of UNLOCK_B (R167). -/
def codeB : Byte := 0x3C

/-- UNLOCK_A: the unlock state after it, and its status (R167). -/
def unlockAResult (code : Byte) : Unlock × Status := if code = codeA then (.half, .ok) else (.none, .wrongCode)

/-- UNLOCK_B: the unlock state after it, and its status (R167). -/
def unlockBResult (u : Unlock) (code : Byte) : Unlock × Status :=
  if u = .half then if code = codeB then (.opened, .ok) else (.none, .wrongCode) else (.none, .wrongState)

/-- An unlock frame taken; its reply's body is the unlock state after it (R167). -/
def unlockFrame (s : State) (command : Byte) (result : Unlock × Status) : State :=
  if listening s then svcReply (setUnlock s result.1) command result.2 [Config.unlockCode result.1] else s

/-! ### Sync (R164) -/

/-- A low run of `ns` nanoseconds is accepted: a seventh of it lies between 1/230,400 s and 1/9,600 s (R164). -/
def syncAccepted (ns : Nat) : Bool := decide (7000000000 ≤ 230400 * ns) && decide (9600 * ns ≤ 7000000000)

/-- The bit rate of a low run of 7 bit-times, in bit/s, rounded down (R164, R168). -/
def bitRate (ns : Nat) : Nat := 7000000000 / ns

/-! ### What the open commands report (R168, R169) -/

/-- IDENT (R168). The silicon revision in one byte is the model's choice (notes/assumptions/21). -/
def identBody (s : State) : List Byte :=
  partNumber ++ [Config.siliconRevision, Config.unlockCode s.svl.unlock] ++
    bitRateField ((s.svl.rate.map bitRate).getD 0)

/-- A slot's calibration record as SLOT_DUMP gives it: the fields of an INVALID record are zero (R168). V_S, V_M and V_L in
two bytes and κ in one, as in WRITE_CAL, are the model's choice (notes/assumptions/21). -/
def calibrationFields (s : State) (n : SlotId) : List Byte :=
  let c := s.cal[n]
  (if c.valid then be16 c.vS ++ be16 c.vM ++ be16 c.vL ++ [c.kappa] else List.replicate 7 0) ++
    [Config.validityCode c.valid, yesNo s.locks[n]]

/-- An open account as SLOT_DUMP gives it (R168). -/
def dumpAccount (s : State) (n : SlotId) : List Byte :=
  match s.accounts[n] with
  | some a => accountFields s n a ++ residueField a.residue ++ u32 a.doubtful
  | none => []

/-- One slot of SLOT_DUMP (R168). The colour map entry in one byte, as in WRITE_COLOUR_MAP, is the model's choice
(notes/assumptions/21). -/
def dumpSlot (s : State) (n : SlotId) : List Byte :=
  slotFields s n ++ [s.settings.colours[n]] ++ calibrationFields s n ++ dumpAccount s n

/-- Each key slot's state, never its value (R30, R168). -/
def keyStates (s : State) : List Byte := s.prf.keys.toList.map fun k => Config.keyStateCode k.isSome

/-- SLOT_DUMP (R168). The region in one byte, as in SET_REGION, is the model's choice (notes/assumptions/21). -/
def slotDumpBody (s : State) : List Byte :=
  allSlots.flatMap (dumpSlot s) ++ keyStates s ++
    [s.settings.region, s.settings.nonGenuine.code, s.settings.suspect.code] ++ limitFields s.settings.limits

/-- A filter entry with all its fields (R168). The offset in one byte, the mask in three and the expected value in two, as in
WRITE_FILTER, are the model's choice (notes/assumptions/21). -/
def filterFields (f : Filter) : List Byte :=
  [yesNo f.enabled, f.offset] ++ be24 f.mask ++ be16 f.expected ++ [yesNo f.chain, yesNo f.invert, f.action.code]

/-- HISTORY_DUMP (R168). The retired list as the entries held alone, with neither a count of them nor marks for empty places,
is the model's choice (R146, R168, R186, notes/assumptions/33), and so are the four bytes of the stamp counter and of the
retire counter, the width of the stamps and insertion numbers they give out (notes/assumptions/21). -/
def historyDumpBody (s : State) : List Byte :=
  s.his.seen.toList.flatMap seenFields ++ u32 s.his.stamp ++
    (retiredInOrder s.his.retired).flatMap (fun e => retiredFields (some e)) ++ u32 s.his.retire ++
    s.his.filters.toList.flatMap filterFields

/-- The judgement STORE_CHECK makes of a record that it reads now: of the stored copy, or of the new copy of a record being
written, for which the check waits (R169). -/
def judgedWhole (s : State) (r : Fin 118) : Judgement :=
  match s.sto.writer with
  | some w => if w.1 = r then judgeRecord r (withCheck w.2) else judged s r
  | none => judged s r

/-- The judgement STORE_CHECK made of record `r`: the one made before, if it had read it, else the one it makes now (R169). -/
def checkJudgement (s : State) (seen : List Judgement) (r : Fin 118) : Judgement := (seen[r.val]?).getD (judgedWhole s r)

/-- STORE_CHECK's reply body (R169). -/
def storeCheckBody (s : State) (seen : List Judgement) : List Byte :=
  let bad := recordsJudged (checkJudgement s seen) .bad
  let blank := recordsJudged (checkJudgement s seen) .blank
  u8 bad.length ++ bad.map (fun r => BitVec.ofNat 8 r.val) ++ u8 blank.length ++
    u8 (s.sto.dirty.toList.filter id).length ++ keyStates s

/-! ### What the privileged commands do -/

/-- A calibration record written (R70). -/
def storeCalibration (s : State) (n : SlotId) (c : Calibration) : State :=
  markDirty { s with cal := put s.cal n c } (recCalibration n)

/-- WRITE_CAL (R170). -/
def actWriteCal (slot : Byte) (vS vM vL : Half) (kappa : Byte) (s : State) : Answer :=
  match slotOf slot with
  | none => (s, .range, [])
  | some n =>
    if calibrationInRange vS vM vL kappa = false then (s, .range, [])
    else if anyOpen s then (s, .busy, [])
    else if s.locks[n] then (s, .calLocked, [])
    else (storeCalibration s n ⟨vS, vM, vL, kappa, true⟩, .ok, [])

/-- The locks with those a mask names set (R171). -/
def locksWith (s : State) (mask : Half) : Vector Bool 10 := tab 10 fun n => s.locks[n] || mask.getLsbD n.val

/-- LOCK_CAL (R171). -/
def actLockCal (mask : Half) (s : State) : Answer :=
  if mask >>> 10 ≠ 0 then (s, .range, [])
  else if allSlots.any fun n => mask.getLsbD n.val && !s.cal[n].valid then (s, .calInvalid, [])
  else
    let l := locksWith s mask
    let s' := if l = s.locks then s else markDirty { s with locks := l } recLocks
    (s', .ok, be16 (slotMask fun n => l[n]))

/-- WRITE_COLOUR_MAP (R172). -/
def actWriteColourMap (colours : Vector Byte 10) (s : State) : Answer :=
  if colours.toList.all fun c => within 1 15 c.toNat then
    (markDirty { s with settings := { s.settings with colours := colours } } recSettings, .ok, [])
  else (s, .range, [])

/-- SET_REGION (R172). -/
def actSetRegion (region : Byte) (s : State) : Answer :=
  (markDirty { s with settings := { s.settings with region := region } } recSettings, .ok, [])

/-- WRITE_FILTER (R172, R144); the checks are those of a filter record. -/
def actWriteFilter (entry : Byte) (x : FilterImage) (s : State) : Answer :=
  if h : entry.toNat < 6 then
    match readFilter x with
    | some f =>
      let e : Fin 6 := ⟨entry.toNat, h⟩
      (markDirty { s with his := { s.his with filters := put s.his.filters e f } } (recFilter e), .ok, [])
    | none => (s, .range, [])
  else (s, .range, [])

/-- The entries CLEAR_HISTORY names in a table (R145). -/
def clearTable (table : HistTable) (scope : Scope) (serial : Serial) (s : State) : State × Nat :=
  let named (x : Serial) : Bool := scope == .all || x == serial
  match table with
  | .seen => clearSeen s fun e => named e.serial
  | .retired => clearRetired s fun e => named e.serial

/-- CLEAR_HISTORY (R172, R145). -/
def actClearHistory (table scope : Byte) (serial : Serial) (s : State) : Answer :=
  match HistTable.ofCode table, Scope.ofCode scope with
  | some t, some c =>
    let (s', k) := clearTable t c serial s
    (s', .ok, u8 k)
  | _, _ => (s, .range, [])

/-- LOAD_KEY (R31, R172). -/
def actLoadKey (index : Byte) (key : BitVec 128) (s : State) : Answer :=
  if h : index.toNat < 4 then
    let k : Fin 4 := ⟨index.toNat, h⟩
    if s.prf.keys[k].isSome then (s, .keyLocked, [])
    else
      let s' := markDirty { s with prf := { s.prf with keys := put s.prf.keys k (some key) } } (recKey k)
      (s', .ok, keyStates s')
  else (s, .range, [])

/-- RESTART accepted: the reset waits for the reply (R173). -/
def actRestart (s : State) : Answer := ({ s with svl := { s.svl with restart := true } }, .ok, [])

/-! ### Line errors (R166) -/

/-- A line error while a rate is held: the line's own work is aborted, the unlock is NONE, and the part's break is
due (R166). An accepted RESTART stands, also when its reply had not started: R173 speaks of an error that cuts the reply
off, so this is the model's reading (notes/assumptions/35). -/
def lineError (s : State) : State :=
  if s.phase = .running ∧ s.svl.error = .none ∧ s.svl.line ≠ .waitSync then
    { s with svl := { s.svl with frame := [], reply := none, check := none, unlock := .none, error := .breakDue } }
  else s

/-- The reset of an accepted RESTART, if one is due: at the end of its reply, or of the error handling of a line error that
came before that end (R173, notes/assumptions/35). -/
def resetIfDue (s : State) : State := if s.svl.restart then resetNow s else s

/-! ### Commands -/

/-- SYNC_LOW_RUN_END (R164). -/
def execSyncLowRunEnd (lowNs : Nat) (s : State) : Outcome :=
  .next <|
    if s.phase = .running ∧ s.svl.line = .waitSync then
      { s with svl := { s.svl with candidate := if syncAccepted lowNs then some lowNs else none } }
    else s

/-- SYNC_SAMPLES_COMPLETE (R164). -/
def execSyncSamplesComplete (first second third : Bool) (s : State) : Outcome :=
  .next <|
    match s.svl.candidate with
    | some l =>
      if s.phase = .running ∧ s.svl.line = .waitSync then
        if first && second && third then
          { s with svl := { s.svl with rate := some l, candidate := none, unlock := .none, line := .ready } }
        else { s with svl := { s.svl with candidate := none } }
      else s
    | none => s

def execIdent (s : State) : Outcome := .next (openCommand s 0x41 fun s => (s, .ok, identBody s))

def execSlotDump (s : State) : Outcome := .next (openCommand s 0x42 fun s => (s, .ok, slotDumpBody s))

def execHistoryDump (s : State) : Outcome := .next (openCommand s 0x43 fun s => (s, .ok, historyDumpBody s))

/-- STORE_CHECK: the line stays BUSY with no reply ready while the check runs (R169). -/
def execStoreCheck (s : State) : Outcome :=
  .next <|
    if listening s then
      { s with svl := { s.svl with line := .busy, frame := [], reply := none, unlock := .none, check := some [] } }
    else s

/-- STORE_CHECK_COMPLETE (R169). -/
def execStoreCheckComplete (s : State) : Outcome :=
  .next <|
    match s.svl.check with
    | some seen =>
      if s.phase = .running ∧ s.svl.error = .none ∧ s.svl.line = .busy then
        svcReply { s with svl := { s.svl with check := none } } 0x44 .ok (storeCheckBody s seen)
      else s
    | none => s

def execUnlockA (code : Byte) (s : State) : Outcome := .next (unlockFrame s 0x46 (unlockAResult code))

def execUnlockB (code : Byte) (s : State) : Outcome := .next (unlockFrame s 0x47 (unlockBResult s.svl.unlock code))

def execWriteCal (slot : Byte) (vS vM vL : Half) (kappa : Byte) (s : State) : Outcome :=
  .next (privileged s 0x48 (actWriteCal slot vS vM vL kappa))

def execLockCal (mask : Half) (s : State) : Outcome := .next (privileged s 0x49 (actLockCal mask))

def execWriteColourMap (colours : Vector Byte 10) (s : State) : Outcome :=
  .next (privileged s 0x4A (actWriteColourMap colours))

def execSetRegion (region : Byte) (s : State) : Outcome := .next (privileged s 0x4B (actSetRegion region))

def execWriteFilter (entry enabled offset : Byte) (mask : BitVec 24) (expected : Half) (chain invert action : Byte)
    (s : State) : Outcome :=
  .next (privileged s 0x4C (actWriteFilter entry ⟨enabled, offset, mask, expected, chain, invert, action⟩))

def execClearHistory (table scope : Byte) (serial : Serial) (s : State) : Outcome :=
  .next (privileged s 0x4D (actClearHistory table scope serial))

def execLoadKey (index : Byte) (key : BitVec 128) (s : State) : Outcome := .next (privileged s 0x4E (actLoadKey index key))

def execRestart (s : State) : Outcome := .next (privileged s 0x45 actRestart)

/-- Characters of a frame that is not yet whole: the line is RECEIVING and holds them (R165). -/
def receive (s : State) (frame : List Byte) : State :=
  if listening s = true ∧ frame ≠ [] then { s with svl := { s.svl with line := .receiving, frame := frame } } else s

/-- SVC_FRAME_REJECTED: the reply of the first check that fails. With bytes that are not a whole frame it is the arrival of
those characters alone (R165, R167, notes/assumptions/23). -/
def execSvcFrameRejected (frame : List Byte) (s : State) : Outcome :=
  .next <|
    match judgeService frame with
    | .failed status => openCommand s (byteAt frame 0) fun s => (s, status, [])
    | .notWhole => receive s frame
    | .taken _ => s

/-- SVC_GAP_TIMEOUT: in RECEIVING the partial frame is discarded and the line is READY; the unlock state stays
(R165, R167). -/
def execSvcGapTimeout (s : State) : Outcome :=
  .next <|
    if listening s = true ∧ s.svl.line = .receiving then { s with svl := { s.svl with line := .ready, frame := [] } } else s

/-- SVC_REPLY_START: the first start bit begins (R165). -/
def execSvcReplyStart (s : State) : Outcome :=
  .next <|
    if s.phase = .running ∧ s.svl.error = .none ∧ s.svl.line = .busy ∧ s.svl.reply.isSome = true then
      { s with svl := { s.svl with line := .sending, sent := [], begun := s.clock } }
    else s

/-- The bits of the reply ready or being sent, if there is one (R165). -/
def replyBits (v : Svl) : List Bool := (v.reply.map SvcReply.bits).getD v.sent

/-- SVC_REPLY_SENT: every bit of the reply is over, the line is READY again, and an accepted RESTART's reset is taken (R165, R173). -/
def execSvcReplySent (s : State) : Outcome :=
  .next <|
    if s.phase = .running ∧ s.svl.error = .none ∧ s.svl.line = .sending then
      resetIfDue { s with svl := { s.svl with line := .ready, reply := none, sent := replyBits s.svl } }
    else s

/-- SVC_FRAMING_ERROR (R166). -/
def execSvcFramingError (s : State) : Outcome := .next (lineError s)

/-- SVC_COLLISION: the part reads back what it sends in SENDING alone (R166). -/
def execSvcCollision (s : State) : Outcome := .next <| if s.svl.line = .sending then lineError s else s

/-- TOOL_BREAK (R166). -/
def execToolBreak (s : State) : Outcome := .next (lineError s)

/-- SVC_BREAK_START (R166 step 3). -/
def execSvcBreakStart (s : State) : Outcome :=
  .next <|
    if s.phase = .running ∧ s.svl.error = .breakDue then { s with svl := { s.svl with error := .breaking } } else s

/-- SVC_BREAK_END: the rate is cleared, the line waits for a sync, and an accepted RESTART's reset is taken
(R166 step 4, R173). -/
def execSvcBreakEnd (s : State) : Outcome :=
  .next <|
    if s.phase = .running ∧ s.svl.error = .breaking then
      resetIfDue { s with svl := { s.svl with rate := none, line := .waitSync, error := .none } }
    else s

end Sys2Proof.Machine
end

