-- ==== Sys2Proof/Machine/Time.lean ====
section
/-! DEFINITION. What one bit-time of 10 µs with no command does: the clock, the bits of a message (R43), the line idle count
(R45), the backoff counter (R58) and the bits of a service reply (R165) advance (notes/assumptions/2, 10). -/

namespace Sys2Proof.Machine

/-- The transaction on the line after a bit-time: a message's next bit has been driven (R43). -/
def sentOn (tx : Transaction) : Transaction :=
  match tx.action with
  | .sending sent => { tx with action := .sending (min (messageBits tx).length (sent + 1)) }
  | _ => tx

/-- The line idle count after a bit-time in which nothing but the part drives CBUS (R45). -/
def idleAfter (c : Cbc) : Nat := idleOver c.idle [cbusLevel c]

/-- The backoff counter after a bit-time at the high level (R58). -/
def backoffAfter (c : Cbc) : Nat :=
  match c.line with
  | some tx => if tx.action = .backoff then min (8 * tx.attempt) (c.backoff + 1) else c.backoff
  | none => c.backoff

/-- The bus controller after a bit-time. -/
def busAfter (c : Cbc) : Cbc := { c with line := c.line.map sentOn, idle := idleAfter c, backoff := backoffAfter c }

/-- How many whole bit-times of a service rate, seven of which take `low` ns, are over in `ticks` bit-times of 10 µs
(R164, R165). -/
def svcBitsOver (low ticks : Nat) : Nat := 70000 * ticks / low

/-- The bits of a service reply that are over when the clock stands at `now`, in SENDING (R165). -/
def svcSent (v : Svl) (now : Nat) : List Bool :=
  match v.line, v.error, v.reply, v.rate with
  | .sending, .none, some r, some low => r.bits.take (svcBitsOver low (now - v.begun))
  | _, _, _, _ => v.sent

/-- The service line when the clock stands at `now`. -/
def svcAfter (v : Svl) (now : Nat) : Svl := { v with sent := svcSent v now }

/-- One bit-time passes. A part without power keeps its state. -/
def tick (s : State) : State :=
  if s.phase = .off then s
  else { s with clock := s.clock + 1, cbc := busAfter s.cbc, svl := svcAfter s.svl (s.clock + 1) }

end Sys2Proof.Machine
end

