-- ==== Sys2Proof/Machine/Dispatch.lean ====
section
/-! DEFINITION. One arm per command: the meaning it calls. -/

namespace Sys2Proof.Machine

def exec (i : Instr) (s : State) : Host.Outcome State Fault Refusal :=
  match i with
  | .presenceLineChange slot high => Sys2Proof.Machine.execPresenceLineChange slot high s
  | .presenceTimerExpiry slot => Sys2Proof.Machine.execPresenceTimerExpiry slot s
  | .lampPhaseExpiry slot => Sys2Proof.Machine.execLampPhaseExpiry slot s
  | .derivedKeyDigestComplete => Sys2Proof.Machine.execDerivedKeyDigestComplete s
  | .responseDigestComplete => Sys2Proof.Machine.execResponseDigestComplete s
  | .breakEnd => Sys2Proof.Machine.execBreakEnd s
  | .backoffComplete idleRun => Sys2Proof.Machine.execBackoffComplete idleRun s
  | .preambleComplete => Sys2Proof.Machine.execPreambleComplete s
  | .collision => Sys2Proof.Machine.execCollision s
  | .messageSent => Sys2Proof.Machine.execMessageSent s
  | .replyAddressCharacter data => Sys2Proof.Machine.execReplyAddressCharacter data s
  | .replyDeadlineExpiry => Sys2Proof.Machine.execReplyDeadlineExpiry s
  | .cbusFramingError => Sys2Proof.Machine.execCbusFramingError s
  | .framingDiscardEnd => Sys2Proof.Machine.execFramingDiscardEnd s
  | .cbusReplyEnd rest => Sys2Proof.Machine.execCbusReplyEnd rest s
  | .replyLengthLimitExpiry => Sys2Proof.Machine.execReplyLengthLimitExpiry s
  | .idleWaitLimitExpiry => Sys2Proof.Machine.execIdleWaitLimitExpiry s
  | .slotStatus slot sel => Sys2Proof.Machine.execSlotStatus slot sel s
  | .levels sel => Sys2Proof.Machine.execLevels sel s
  | .setSlotMode slot mode sel => Sys2Proof.Machine.execSetSlotMode slot mode sel s
  | .admitSlot slot sel => Sys2Proof.Machine.execAdmit slot sel s
  | .park slot sel => Sys2Proof.Machine.execPark slot sel s
  | .unpark slot sel => Sys2Proof.Machine.execUnpark slot sel s
  | .retry slot sel => Sys2Proof.Machine.execRetry slot sel s
  | .ackAlert slot sel => Sys2Proof.Machine.execAckAlert slot sel s
  | .setLamp slot pattern sel => Sys2Proof.Machine.execSetLamp slot pattern sel s
  | .takeEvents n sel => Sys2Proof.Machine.execTakeEvents n sel s
  | .cartRead slot offset length sel => Sys2Proof.Machine.execCartRead slot offset length sel s
  | .setPolicy nonGenuine suspect sel => Sys2Proof.Machine.execSetPolicy nonGenuine suspect sel s
  | .setLimits low reserve threshold window swath purge sel => Sys2Proof.Machine.execSetLimits low reserve threshold window swath purge sel s
  | .flush sel => Sys2Proof.Machine.execFlush sel s
  | .historyRead table index sel => Sys2Proof.Machine.execHistoryRead table index sel s
  | .accountStats slot sel => Sys2Proof.Machine.execAccountStats slot sel s
  | .sysFrameRejected frame sel => Sys2Proof.Machine.execSysFrameRejected frame sel s
  | .sysPartialSelection received ready => Sys2Proof.Machine.execSysPartialSelection received ready s
  | .sysCollectSelection clocked ready => Sys2Proof.Machine.execSysCollectSelection clocked ready s
  | .openSwath id asks sel => Sys2Proof.Machine.execOpenSwath id asks sel s
  | .dropReport id temperature entries sel => Sys2Proof.Machine.execDropReport id temperature entries sel s
  | .closeSwath id sel => Sys2Proof.Machine.execCloseSwath id sel s
  | .purgeStart slot amount sel => Sys2Proof.Machine.execPurgeStart slot amount sel s
  | .purgeEnd slot actual sel => Sys2Proof.Machine.execPurgeEnd slot actual sel s
  | .gateStatus sel => Sys2Proof.Machine.execGateStatus sel s
  | .engineRestart sel => Sys2Proof.Machine.execEngineRestart sel s
  | .engFrameRejected frame sel => Sys2Proof.Machine.execEngFrameRejected frame sel s
  | .engPartialSelection received ready => Sys2Proof.Machine.execEngPartialSelection received ready s
  | .engCollectSelection clocked ready => Sys2Proof.Machine.execEngCollectSelection clocked ready s
  | .reportWatchdogExpiry => Sys2Proof.Machine.execReportWatchdogExpiry s
  | .swathTimerExpiry id => Sys2Proof.Machine.execSwathTimerExpiry id s
  | .purgeTimerExpiry slot => Sys2Proof.Machine.execPurgeTimerExpiry slot s
  | .syncLowRunEnd lowNs => Sys2Proof.Machine.execSyncLowRunEnd lowNs s
  | .syncSamplesComplete first second third => Sys2Proof.Machine.execSyncSamplesComplete first second third s
  | .ident => Sys2Proof.Machine.execIdent s
  | .slotDump => Sys2Proof.Machine.execSlotDump s
  | .historyDump => Sys2Proof.Machine.execHistoryDump s
  | .storeCheck => Sys2Proof.Machine.execStoreCheck s
  | .storeCheckComplete => Sys2Proof.Machine.execStoreCheckComplete s
  | .unlockA code => Sys2Proof.Machine.execUnlockA code s
  | .unlockB code => Sys2Proof.Machine.execUnlockB code s
  | .writeCal slot vS vM vL kappa => Sys2Proof.Machine.execWriteCal slot vS vM vL kappa s
  | .lockCal mask => Sys2Proof.Machine.execLockCal mask s
  | .writeColourMap colours => Sys2Proof.Machine.execWriteColourMap colours s
  | .setRegion region => Sys2Proof.Machine.execSetRegion region s
  | .writeFilter entry enabled offset mask expected chain invert action => Sys2Proof.Machine.execWriteFilter entry enabled offset mask expected chain invert action s
  | .clearHistory table scope serial => Sys2Proof.Machine.execClearHistory table scope serial s
  | .loadKey index key => Sys2Proof.Machine.execLoadKey index key s
  | .restart => Sys2Proof.Machine.execRestart s
  | .svcFrameRejected frame => Sys2Proof.Machine.execSvcFrameRejected frame s
  | .svcGapTimeout => Sys2Proof.Machine.execSvcGapTimeout s
  | .svcReplyStart => Sys2Proof.Machine.execSvcReplyStart s
  | .svcReplySent => Sys2Proof.Machine.execSvcReplySent s
  | .svcFramingError => Sys2Proof.Machine.execSvcFramingError s
  | .svcCollision => Sys2Proof.Machine.execSvcCollision s
  | .toolBreak => Sys2Proof.Machine.execToolBreak s
  | .svcBreakStart => Sys2Proof.Machine.execSvcBreakStart s
  | .svcBreakEnd => Sys2Proof.Machine.execSvcBreakEnd s
  | .pfailNChange high => Sys2Proof.Machine.execPfailNChange high s
  | .pfailAsserted => Sys2Proof.Machine.execPfailAsserted s
  | .pfailWithdrawn => Sys2Proof.Machine.execPfailWithdrawn s
  | .busFlushDrained => Sys2Proof.Machine.execBusFlushDrained s
  | .storeFlushComplete => Sys2Proof.Machine.execStoreFlushComplete s
  | .writerStart => Sys2Proof.Machine.execWriterStart s
  | .writeComplete => Sys2Proof.Machine.execWriteComplete s
  | .powerOn => Sys2Proof.Machine.execPowerOn s
  | .resetLineAsserted => Sys2Proof.Machine.execResetLineAsserted s
  | .resetLineWithdrawn => Sys2Proof.Machine.execResetLineWithdrawn s
  | .startUpLoadComplete => Sys2Proof.Machine.execStartUpLoadComplete s
  | .powerLoss => Sys2Proof.Machine.execPowerLoss s

end Sys2Proof.Machine
end

