-- ==== Sys2Proof/Safety.lean ====
section
/-! DEFINITION. The terms in which claims are made: the parts of State and what it is to leave them alone, which parts each
command may change, and the properties that a safe run keeps. -/

namespace Sys2Proof.Machine

/-! ### Frames -/

/-- The parts of State, one for each of its fields. -/
inductive Part where
  | phase | lines | clock | draws | slots | prf | cbc | accounts | engp | his | sysp | svl | settings | cal | locks
  | sto | pending
deriving DecidableEq, Repr

/-- A part is the same in two states. -/
def Part.same : Part → State → State → Prop
  | .phase, s, t => t.phase = s.phase
  | .lines, s, t => t.lines = s.lines
  | .clock, s, t => t.clock = s.clock
  | .draws, s, t => t.draws = s.draws
  | .slots, s, t => t.slots = s.slots
  | .prf, s, t => t.prf = s.prf
  | .cbc, s, t => t.cbc = s.cbc
  | .accounts, s, t => t.accounts = s.accounts
  | .engp, s, t => t.engp = s.engp
  | .his, s, t => t.his = s.his
  | .sysp, s, t => t.sysp = s.sysp
  | .svl, s, t => t.svl = s.svl
  | .settings, s, t => t.settings = s.settings
  | .cal, s, t => t.cal = s.cal
  | .locks, s, t => t.locks = s.locks
  | .sto, s, t => t.sto = s.sto
  | .pending, s, t => t.pending = s.pending

/-- From `s` to `t` nothing changes but the parts listed. -/
def OnlyChanges (ps : List Part) (s t : State) : Prop := ∀ p, p ∉ ps → p.same s t

/-- What the start of transactions can change (R33, R34, R64, R94). -/
def arbiterParts : List Part := [.cbc, .prf, .accounts, .draws]

/-- What a debit and its consequences can change (R88, R90, R15). -/
def debitParts : List Part := arbiterParts ++ [.slots, .sysp, .engp]

/-- What the result of a transaction can change (R59, R183). -/
def resultParts : List Part := debitParts ++ [.his, .sto]

/-- What a full reset changes: all but the queue, the clock and the input lines (R179). -/
def resetParts : List Part :=
  [.phase, .draws, .slots, .prf, .cbc, .accounts, .engp, .his, .sysp, .svl, .settings, .cal, .locks, .sto]

/-- The parts each command may change. -/
def footprint : Instr → List Part
  | .presenceLineChange _ _ => [.lines, .slots]
  | .presenceTimerExpiry _ => resultParts
  | .lampPhaseExpiry _ => [.slots]
  | .derivedKeyDigestComplete => [.prf]
  | .responseDigestComplete => resultParts
  | .breakEnd => [.cbc]
  | .backoffComplete _ => [.cbc]
  | .preambleComplete => [.cbc]
  | .collision => resultParts
  | .messageSent => [.cbc]
  | .replyAddressCharacter _ => [.cbc]
  | .replyDeadlineExpiry => resultParts
  | .cbusFramingError => resultParts
  | .framingDiscardEnd => resultParts
  | .cbusReplyEnd _ => resultParts
  | .replyLengthLimitExpiry => resultParts
  | .idleWaitLimitExpiry => resultParts
  | .slotStatus _ _ => [.sysp]
  | .levels _ => [.sysp]
  | .setSlotMode _ _ _ => debitParts ++ [.settings, .sto]
  | .admitSlot _ _ => debitParts
  | .park _ _ => [.slots, .sysp, .engp]
  | .unpark _ _ => debitParts
  | .retry _ _ => resultParts
  | .ackAlert _ _ => [.slots, .sysp]
  | .setLamp _ _ _ => [.slots, .sysp]
  | .takeEvents _ _ => [.sysp]
  | .cartRead _ _ _ _ => arbiterParts ++ [.sysp]
  | .setPolicy _ _ _ => [.settings, .sto, .sysp]
  | .setLimits _ _ _ _ _ _ _ => [.settings, .sto, .sysp, .accounts, .slots]
  | .flush _ => arbiterParts ++ [.sysp]
  | .historyRead _ _ _ => [.sysp]
  | .accountStats _ _ => [.sysp]
  | .sysFrameRejected _ _ => [.sysp]
  | .sysPartialSelection _ _ => [.sysp]
  | .sysCollectSelection _ _ => [.sysp]
  | .openSwath _ _ _ => [.engp]
  | .dropReport _ _ _ _ => debitParts
  | .closeSwath _ _ => arbiterParts ++ [.engp]
  | .purgeStart _ _ _ => [.engp]
  | .purgeEnd _ _ _ => debitParts
  | .gateStatus _ => [.engp]
  | .engineRestart _ => [.engp]
  | .engFrameRejected _ _ => [.engp]
  | .engPartialSelection _ _ => [.engp]
  | .engCollectSelection _ _ => [.engp]
  | .reportWatchdogExpiry => [.engp, .sysp]
  | .swathTimerExpiry _ => [.engp, .sysp]
  | .purgeTimerExpiry _ => debitParts
  | .syncLowRunEnd _ => [.svl]
  | .syncSamplesComplete _ _ _ => [.svl]
  | .ident => [.svl]
  | .slotDump => [.svl]
  | .historyDump => [.svl]
  | .storeCheck => [.svl]
  | .storeCheckComplete => [.svl]
  | .unlockA _ => [.svl]
  | .unlockB _ => [.svl]
  | .writeCal _ _ _ _ _ => [.svl, .cal, .sto]
  | .lockCal _ => [.svl, .locks, .sto]
  | .writeColourMap _ => [.svl, .settings, .sto]
  | .setRegion _ => [.svl, .settings, .sto]
  | .writeFilter _ _ _ _ _ _ _ _ => [.svl, .his, .sto]
  | .clearHistory _ _ _ => [.svl, .his, .sto]
  | .loadKey _ _ => [.svl, .prf, .sto]
  | .restart => [.svl]
  | .svcFrameRejected _ => [.svl]
  | .svcGapTimeout => [.svl]
  | .svcReplyStart => [.svl]
  | .svcReplySent => resetParts
  | .svcFramingError => [.svl]
  | .svcCollision => [.svl]
  | .toolBreak => [.svl]
  | .svcBreakStart => [.svl]
  | .svcBreakEnd => resetParts
  | .pfailNChange _ => [.lines, .sto]
  | .pfailAsserted => arbiterParts ++ [.sto, .engp, .his, .sysp]
  | .pfailWithdrawn => arbiterParts ++ [.sto, .engp]
  | .busFlushDrained => [.his, .sto, .sysp]
  | .storeFlushComplete => [.sto, .sysp]
  | .writerStart => [.sto, .svl, .draws]
  | .writeComplete => [.sto]
  | .powerOn => resetParts
  | .resetLineAsserted => .lines :: resetParts
  | .resetLineWithdrawn => [.phase, .lines]
  | .startUpLoadComplete => resetParts
  | .powerLoss => resetParts

/-! ### Properties that a safe run keeps -/

/-- A gate line is high only while its slot may fire (R107). -/
def GateSafe (s : State) : Prop := ∀ n : SlotId, s.engp.gates[n] = true → gateCondition s n = true

/-- What holds of every open account: the residue is below one microlitre (R76), the failure count at most 3 (R100),
the doubtful amount part of pending (R98), and metered but for NON_GENUINE (R83). -/
def AccountSafe (a : Account) : Prop :=
  a.residue < unitsPerMicrolitre ∧ a.failures ≤ 3 ∧ a.doubtful ≤ a.pendingInk ∧
    (a.metered = true ↔ a.cls ≠ .nonGenuine)

def AccountsSafe (s : State) : Prop := ∀ (n : SlotId) (a : Account), s.accounts[n] = some a → AccountSafe a

/-- At most 24 records, of which at most one is an OVERFLOW record; it is the newest, and its value is 2..255
(R159, R160). -/
def EventsSafe (s : State) : Prop :=
  s.sysp.events.length ≤ 24 ∧ (∀ e ∈ s.sysp.events.dropLast, e.kind ≠ .overflow) ∧
    ∀ e ∈ s.sysp.events, e.kind = .overflow → ∃ v : Word, e.value = some v ∧ 2 ≤ v.toNat ∧ v.toNat ≤ 255

/-- No two entries of a table have the same serial (R128, R130). -/
def NoTwins {α : Type} {k : Nat} (serial : α → Serial) (t : Vector (Option α) k) : Prop :=
  ∀ (p q : Fin k) (x y : α), t[p] = some x → t[q] = some y → serial x = serial y → p = q

def HistorySafe (s : State) : Prop :=
  NoTwins SeenEntry.serial s.his.seen ∧ NoTwins RetiredEntry.serial s.his.retired ∧
    ∀ (p : Fin 32) (e : SeenEntry), s.his.seen[p] = some e → e.unwritten ≤ e.consumed ∧ e.consumed ≤ 4294967295

/-- The swath table (R108), the watchdog (R115) and the expired flag (R116) agree: at most two entries with distinct
ids; an EXPIRED entry holds nothing and its timer is stopped; the watchdog runs exactly while an entry is OPEN; the
expired flag stands only while entries remain, none of them OPEN. -/
def SwathsSafe (s : State) : Prop :=
  s.engp.table.length ≤ 2 ∧ (s.engp.table.map (·.id)).Nodup ∧
    (∀ w ∈ s.engp.table, w.state = .expired → w.timer = none ∧ ∀ l ∈ w.slots, l.hold = 0) ∧
    s.engp.watchdog.isSome = anyOpen s ∧
    (s.engp.expired = true → anyOpen s = false ∧ s.engp.table ≠ [])

/-- The six limits lie in their ranges (R156). -/
def LimitsSafe (l : Limits) : Prop :=
  (1 ≤ l.low ∧ l.low ≤ 50) ∧ l.reserve ≤ l.low ∧ (16 ≤ l.threshold ∧ l.threshold ≤ 4000) ∧
    (5 ≤ l.window ∧ l.window ≤ 255) ∧ (1 ≤ l.swath ∧ l.swath ≤ 60) ∧ (1 ≤ l.purge ∧ l.purge ≤ 60)

/-- Settings, calibration and filters lie in their ranges (R68, R139, R156, R172). -/
def SettingsSafe (s : State) : Prop :=
  LimitsSafe s.settings.limits ∧
    (∀ n : SlotId, 1 ≤ s.settings.colours[n].toNat ∧ s.settings.colours[n].toNat ≤ 15) ∧
    (∀ n : SlotId, s.cal[n].valid = true →
      calibrationInRange s.cal[n].vS s.cal[n].vM s.cal[n].vL s.cal[n].kappa = true) ∧
    ∀ e : Fin 6, s.his.filters[e].offset.toNat ≤ 63

/-- A transaction makes at most three attempts (R58), and at most four pass-through reads wait (R60, R63). -/
def BusSafe (s : State) : Prop :=
  (∀ tx, s.cbc.line = some tx → 1 ≤ tx.attempt ∧ tx.attempt ≤ 3) ∧
    (s.cbc.queue.filter QEntry.isPassThrough).length ≤ 4

/-- Alert records (R18, R19) and lamps (R21, R22): the count is at most 15, and 0 with no alert; with no override
the lamp shows the state pattern, with one the override; it stands in an interval of the pattern's cycle. -/
def SlotsSafe (s : State) : Prop :=
  ∀ n : SlotId,
    s.slots[n].alertCount ≤ 15 ∧ (s.slots[n].alert = none → s.slots[n].alertCount = 0) ∧
      s.slots[n].shown = s.slots[n].override.getD (patternOf s n) ∧
      s.slots[n].lampPhase < s.slots[n].shown.cycle.length

/-- Every open account's ledger balances: ink confirmed, in flight and pending is ink caught up, dropped and purged (R84). -/
def LedgersBalance (s : State) : Prop :=
  ∀ (n : SlotId) (a : Account), s.accounts[n] = some a →
    a.confirmed + a.inFlight + a.pendingInk = a.catchUp + a.dropTotal + a.purgeTotal

/-- What a slot's holds may come to: the headroom of its metered account, else nothing (R89, R109, R118, R122). -/
def holdLimit (s : State) (n : SlotId) : Nat :=
  match s.accounts[n] with
  | some a => if a.metered then headroom a else 0
  | none => 0

def HoldsSafe (s : State) : Prop := ∀ n : SlotId, holds s n ≤ holdLimit s n

/-- Whether an entry is an admission step of a slot. -/
def QEntry.isAdmissionOf (n : SlotId) : QEntry → Bool
  | .admission m _ => m == n
  | _ => false

/-- The places of the transaction queue (R60, R62): at most one admission step and one write-back entry for each slot, no
operation listed twice, at most 24 entries. -/
def PlacesSafe (s : State) : Prop :=
  (∀ n : SlotId, (s.cbc.queue.filter (QEntry.isAdmissionOf n)).length ≤ 1) ∧
    (∀ n : SlotId, (s.cbc.queue.filter (QEntry.isWriteBackOf n)).length ≤ 1) ∧
    (∀ (n : SlotId) (ops : List WbOp), QEntry.writeBack n ops ∈ s.cbc.queue → ops.Nodup) ∧
    s.cbc.queue.length ≤ 24

/-- Flush mode and the power state agree (R65, R182 to R184): the cartridge bus is in flush mode exactly outside NORMAL; on a
free line no entry may be served (R64); and FLUSHING_BUS lasts only while an ADD_USED is on the line or waiting (R183, notes/assumptions/11). -/
def FlushSafe (s : State) : Prop :=
  (s.cbc.flush = true ↔ s.sto.power ≠ .normal) ∧
    (s.cbc.line = none → nextEntry s.cbc.flush s.cbc.queue = none) ∧
    (s.sto.power = .flushingBus → addUsedOutstanding s = true)

/-- The states in which a slot's account is open (1.1). -/
def holdsAccount (st : SlotState) : Bool :=
  st == .ready || st == .parked || st == .exhausted || st == .rejected .contactLost

/-- The admission steps waiting or on the line, with their slots. -/
def admissionWork (s : State) : List (SlotId × AdmissionStep) :=
  (match s.cbc.line with
    | some tx => match tx.command with
      | .admission step => [(tx.slot, step)]
      | _ => []
    | none => []) ++
  s.cbc.queue.filterMap fun e => match e with
    | .admission n step => some (n, step)
    | _ => none

/-- The state a slot stands in while an admission step of it waits or runs (R7, R8). -/
def stepState : AdmissionStep → SlotState
  | .readId => .reading
  | .challenge => .proving

/-- The proof context is free with no digest under way, or bound to the slot whose CHALLENGE is on the line, and checking
exactly while that transaction is held for its outcome; and a CHALLENGE on the line has bound it to its slot
(R34, R40, R59). -/
def ProofSafe (s : State) : Prop :=
  (s.prf.ctx.slot = none → s.prf.ctx = freeContext ∧ s.prf.digest = none ∧
    ∀ tx, s.cbc.line = some tx → tx.action ≠ .held) ∧
  (∀ n : SlotId, s.prf.ctx.slot = some n →
    ∃ tx, s.cbc.line = some tx ∧ tx.slot = n ∧ tx.command = .admission .challenge ∧
      (s.prf.ctx.phase = .checking ↔ tx.action = .held) ∧
      ∀ key message, s.prf.digest = some (.response key message) → s.prf.ctx.phase = .checking) ∧
  ∀ tx, s.cbc.line = some tx → tx.command = .admission .challenge → s.prf.ctx.slot = some tx.slot

/-- Admission agrees with the slot states: out of service every slot is VACANT, which is the model's choice
(notes/assumptions/5); an account is open exactly in the account
states and REJECTED(CONTACT_LOST) (1.1); an identity record is held exactly in PROVING and RECONCILING (R29); claimed serials
are distinct (R28); each admission step waiting or running is the one its slot's state awaits, one to a slot (R7, R8, R61);
and the proof context serves the CHALLENGE on the line (R34). -/
def AdmissionsSafe (s : State) : Prop :=
  (s.phase ≠ .running → ∀ n : SlotId, s.slots[n].state = .vacant) ∧
    (∀ n : SlotId, s.accounts[n].isSome = holdsAccount s.slots[n].state) ∧
    (∀ n : SlotId, s.prf.identity[n].isSome = (s.slots[n].state == .proving || s.slots[n].state == .reconciling)) ∧
    (∀ (m n : SlotId) (x : Serial), claimed s m = some x → claimed s n = some x → m = n) ∧
    ((admissionWork s).map (·.1)).Nodup ∧
    (∀ x ∈ admissionWork s, s.slots[x.1].state = stepState x.2) ∧
    ProofSafe s

/-! ### Terms of statements -/

/-- A write-back operation of a slot waits or is on the line (R62). -/
def opPlaced (s : State) (n : SlotId) (op : WbOp) : Prop :=
  (∃ ops, QEntry.writeBack n ops ∈ s.cbc.queue ∧ op ∈ ops) ∨
    ∃ tx, s.cbc.line = some tx ∧ tx.slot = n ∧ tx.command = .writeBack op

/-- An account has an ADD_USED to send (R94). -/
def canSend (s : State) (n : SlotId) (a : Account) : Prop :=
  s.accounts[n] = some a ∧ 0 < a.pendingInk ∧ a.suspended = false ∧ a.doubtful = 0 ∧ contactLost s n = false ∧
    a.base + a.confirmed < 4294967295

/-- A seen entry written now outlives the provisional entries of the other slots (R129, R132): the stamps stand below
the counter, the counter has room, and no other open metered account has the serial. -/
def SeenEntryLasts (s : State) (n : SlotId) (serial : Serial) : Prop :=
  (∀ (m : SlotId) (b : Account), m ≠ n → s.accounts[m] = some b → b.metered = true → b.serial ≠ serial) ∧
    (∀ (q : Fin 32) (x : SeenEntry), s.his.seen[q] = some x → x.stamp < s.his.stamp) ∧ s.his.stamp + 10 ≤ 4294967295

/-- The fine volume of a report's entries for a slot (R75). -/
def fineSum (s : State) (n : SlotId) (t : Nat) (entries : List DropEntry) : Nat :=
  ((entries.filter fun e => slotOf e.slot == some n).map fun e => fineVolume s.cal[n] e t).sum

/-- The figure debited that a swath lists for a slot (R108). -/
def debitedOf (w : Swath) (n : SlotId) : Nat := ((w.slots.find? (·.slot == n)).map (·.debited)).getD 0

/-- The state in which the start-up load reads the store: a write carried over the reset has ended (R179). -/
def loadState (s : State) : State :=
  match s.sto.carried with
  | some (r, c) => { s with sto := { s.sto with stored := put s.sto.stored r (withCheck c), carried := none } }
  | none => s

/-- From `s` a full reset has been taken: every block stands as R23, R42, R67, R105, R127, R163, R173 and R185 give, and
the challenge sequence number is a fresh draw; SYS_DO and ENG_DO are at high impedance (R163, R179). What is loaded afterwards
is left open (R176). Of what these rules do not give,
the slots' state VACANT and filtered presence ABSENT until they are sampled, the read tag, the records of bytes and bits sent,
the start of the last service reply and the lamps' intervals, the values are the model's choice (notes/assumptions/5). -/
def BlocksReset (s t : State) : Prop :=
  t.slots = State.reset.slots ∧ t.accounts = State.reset.accounts ∧ t.engp = State.reset.engp ∧
    t.cbc = State.reset.cbc ∧ t.sysp = State.reset.sysp ∧ t.svl = State.reset.svl ∧
    (∀ n : SlotId, t.prf.identity[n] = none) ∧ t.prf.ctx = freeContext ∧ t.prf.digest = none ∧
    t.prf.seqNo = Config.randomSeed s.draws ∧ t.draws = s.draws + 1 ∧
    (∀ r : Fin 118, t.sto.dirty[r] = false) ∧ t.sto.writer = none ∧ t.sto.last = 21 ∧ t.sto.power = .normal ∧
    ∀ p : PortMoment, sysDo t p = none ∧ engDo t p = none

/-- A transaction begun for an entry: attempt 1 of the command with its body (R49, R50). -/
def Begun (s : State) (n : SlotId) (c : TxCommand) (body : List Byte) : Prop :=
  ∃ tx, s.cbc.line = some tx ∧ tx.slot = n ∧ tx.command = c ∧ tx.attempt = 1 ∧ tx.body = body ∧ tx.noted = [] ∧
    tx.deadline = none

/-- An ADD_USED begun for an account that could send in `s`: expected total and amount go out, and the amount moves from
pending to in-flight (R94). -/
def AddUsedBegun (s t : State) (n : SlotId) (a : Account) : Prop :=
  let e := a.base + a.confirmed
  let m := min a.pendingInk (4294967295 - e)
  Begun t n (.writeBack .addUsed) (be32 (BitVec.ofNat 32 e) ++ be32 (BitVec.ofNat 32 m)) ∧
    (∀ tx, t.cbc.line = some tx → tx.expected = e ∧ tx.amount = m) ∧
    t.accounts = put s.accounts n (some { a with inFlight := a.inFlight + m, pendingInk := a.pendingInk - m })

/-- A system reply placed by a request that met the holder `h`, with ATTN as in `t` (R150 to R152). -/
def SysReplied (h : Holder) (kind : Byte) (status : Status) (body : List Byte) (t : State) : Prop :=
  t.sysp.holder = .ready ⟨replyKind kind, status, replyFlags (h != .empty) (attn t) (status == .clamped) false, body⟩

/-- The holder a request with `len` body bytes meets: what is left of the earlier reply when its selection
ends (R150, R151). -/
def holderMet (s : State) (sel : Selection) (len : Nat) : Holder :=
  afterSelection s.sysp.holder sel.ready (len + 3 + sel.filler)

/-- A system request with `len` body bytes is refused with a status: nothing but the reply changes, and no event is posted or
taken (R149, 8.3). -/
def SysRefused (s : State) (sel : Selection) (len : Nat) (kind : Byte) (status : Status) (t : State) : Prop :=
  OnlyChanges [.sysp] s t ∧ t.sysp = { s.sysp with holder := t.sysp.holder, sent := t.sysp.sent } ∧
    SysReplied (holderMet s sel len) kind status [] t

/-- An engine reply placed by a request that met the reply `r`; no clamp flag but those given (R106). -/
def EngReplied (r : Option Reply) (kind : Byte) (status : Status) (clamped temp : Bool) (body : List Byte)
    (t : State) : Prop :=
  t.engp.reply = some ⟨replyKind kind, status, replyFlags r.isSome false clamped temp, body⟩

/-- The reply an engine request with `len` body bytes meets. -/
def replyMet (s : State) (sel : Selection) (len : Nat) : Option Reply :=
  holderReply (afterSelection (engHolder s) sel.ready (len + 3 + sel.filler))

/-- Gate line `n` stands as its gate condition says, and every other gate line as before (R107). -/
def GateFollows (n : SlotId) (s t : State) : Prop :=
  t.engp.gates[n] = gateCondition t n ∧ ∀ m : SlotId, m ≠ n → t.engp.gates[m] = s.engp.gates[m]

/-- Every slot record but `n`'s is the same. -/
def OtherSlotsKept (n : SlotId) (s t : State) : Prop := ∀ m : SlotId, m ≠ n → t.slots[m] = s.slots[m]

/-- Every account but slot `n`'s is the same. -/
def OtherAccountsKept (n : SlotId) (s t : State) : Prop := ∀ m : SlotId, m ≠ n → t.accounts[m] = s.accounts[m]

/-- The errors noted by an attempt that a command ends in failure, none if it ends none so (R51 to R57). -/
def attemptErrors (i : Instr) (tx : Transaction) : Option (List BusError) :=
  match i, tx.action with
  | .collision, .sending _ => some (.collision :: tx.noted)
  | .cbusFramingError, .sending _ => some (.collision :: tx.noted)
  | .replyDeadlineExpiry, .awaiting => some (.timeout :: tx.noted)
  | .framingDiscardEnd, .discarding _ => some tx.noted
  | .replyLengthLimitExpiry, .taking _ => some (.length :: tx.noted)
  | .idleWaitLimitExpiry, .backoff => some (.collision :: tx.noted)
  | .idleWaitLimitExpiry, .preamble => some (.collision :: tx.noted)
  | .idleWaitLimitExpiry, .discarding _ => some (.collision :: tx.noted)
  | .cbusReplyEnd rest, .taking address =>
    if replyErrors tx address rest = [] then none else some (replyErrors tx address rest ++ tx.noted)
  | _, _ => none

/-- The privileged commands and their command bytes (R167, R186). -/
def privilegedCode : Instr → Option Byte
  | .restart => some 0x45
  | .writeCal _ _ _ _ _ => some 0x48
  | .lockCal _ => some 0x49
  | .writeColourMap _ => some 0x4A
  | .setRegion _ => some 0x4B
  | .writeFilter _ _ _ _ _ _ _ _ => some 0x4C
  | .clearHistory _ _ _ => some 0x4D
  | .loadKey _ _ => some 0x4E
  | _ => none

/-- The commands that can take a full reset, load the RAM copies or lose them (R173, R179, R181). -/
def reloads : Instr → Bool
  | .svcReplySent | .svcBreakEnd | .powerOn | .resetLineAsserted | .startUpLoadComplete | .powerLoss => true
  | _ => false

/-- The state with a service reply ready and the unlock used up (R165, R167). -/
def svcAnswered (s : State) (command : Byte) (status : Status) (body : List Byte) : State :=
  svcReply (setUnlock s .none) command status body

end Sys2Proof.Machine
end

