-- ==== Sys2Proof/WellFormed.lean ====
section
/-! DEFINITION. Which commands can reach the part: operands that the world can bring (R43, R45, R71, R148, R149, R165,
R186). -/

namespace Sys2Proof

open Sys2Proof.Machine

/-- A port frame is whole and nothing more: its length byte gives its length (R148). -/
def exactPortFrame (frame : List Byte) : Bool :=
  decide (3 ≤ frame.length) && decide (frame.length = portFrameLength frame)

/-- A judgement of failure. -/
def Machine.FrameJudgement.isFailed : FrameJudgement → Bool
  | .failed _ => true
  | _ => false

/-- A frame rejected on a port: whole, its first byte not 0x00, and failing check 1, 2 or 3 of R149. -/
def rejectedPortFrame (judge : List Byte → FrameJudgement) (frame : List Byte) : Bool :=
  exactPortFrame frame && frame.head? != some 0 && (judge frame).isFailed

/-- A partial frame: at least one byte, the first not 0x00, and not whole (R148, R149). -/
def partialPortFrame (judge : List Byte → FrameJudgement) (received : List Byte) : Bool :=
  !received.isEmpty && received.head? != some 0 && judge received == .notWhole

/-- The bytes of a service frame are exactly those its length field gives (R165). -/
def exactServiceFrame (frame : List Byte) : Bool :=
  decide (4 ≤ frame.length) && decide (frame.length = (of16 (byteAt frame 1) (byteAt frame 2)).toNat + 4)

/-- The selection that brought a request of a port. -/
def Instr.selection : Instr → Option Selection
  | .slotStatus _ sel | .levels sel | .setSlotMode _ _ sel | .admitSlot _ sel | .park _ sel | .unpark _ sel
  | .retry _ sel | .ackAlert _ sel | .setLamp _ _ sel | .takeEvents _ sel | .cartRead _ _ _ sel
  | .setPolicy _ _ sel | .setLimits _ _ _ _ _ _ sel | .flush sel | .historyRead _ _ sel | .accountStats _ sel
  | .sysFrameRejected _ sel | .openSwath _ _ sel | .dropReport _ _ _ sel | .closeSwath _ sel
  | .purgeStart _ _ sel | .purgeEnd _ _ sel | .gateStatus sel | .engineRestart sel | .engFrameRejected _ sel => some sel
  | _ => none

/-- Well-formed commands. -/
def Instr.wf : Instr → Bool
  | .backoffComplete idleRun => decide (1 ≤ idleRun) && decide (idleRun ≤ 24)
  | .sysFrameRejected frame sel => rejectedPortFrame (judgeSystem sel) frame
  | .sysPartialSelection received ready => partialPortFrame (judgeSystem ⟨ready, 0⟩) received
  | .sysCollectSelection clocked _ => decide (1 ≤ clocked)
  | .openSwath _ asks _ => decide (asks.length ≤ 84)
  | .dropReport _ _ entries _ => decide (1 ≤ entries.length) && decide (entries.length ≤ 10)
  | .engFrameRejected frame sel => rejectedPortFrame (judgeEngine sel) frame
  | .engPartialSelection received ready => partialPortFrame (judgeEngine ⟨ready, 0⟩) received
  | .engCollectSelection clocked _ => decide (1 ≤ clocked)
  | .syncLowRunEnd lowNs => decide (1 ≤ lowNs)
  | .svcFrameRejected frame =>
    (exactServiceFrame frame && (judgeService frame).isFailed) || (!frame.isEmpty && judgeService frame == .notWhole)
  | _ => true

end Sys2Proof
end

