-- ==== Sys2Proof/Certificates/Slice0/Obligations.lean ====
section
/-! DEFINITION. The statements for the provers. OBLIGATIONS.json says for each which rules it rests on. -/

open Sys2Proof Sys2Proof.Machine

/-! ### The step, the frames of the links, reset -/

/-- A step runs the command at the front of the queue on the state with the queue's rest. -/
def Obligations.StepRunsTheFrontCommand : Prop :=
  ∀ (c : Instr) (s : State), step { s with pending := c :: s.pending } = exec c s

/-- An empty queue lets one bit-time of 10 µs pass (the model's choice, notes/assumptions/2, 10). The part drives the next
bit of a message under way, or a break's low level, else it releases the line (R43, R46); the idle count rises at the high
level, holds at 255 and returns to 0 at the low level (R45); a backoff counter rises to its figure (R58). A message's
characters are 11 bit-times each: a low start bit, the data bits least significant first, the mark bit, set in the address
character alone, and a high stop bit (R43, R44). In SENDING the bits of the service reply whose bit-times at the rate in
force are over have gone out, and the part puts the next on SVC; its characters are 10 bit-times each, 8N1 (R164, R165). -/
def Obligations.AnEmptyQueueLetsABitTimePass : Prop :=
  (∀ s : State, s.pending = [] → ∃ t : State, step s = .next t ∧ OnlyChanges [.clock, .cbc, .svl] s t ∧
    (s.phase = .off → t = s) ∧
    (s.phase ≠ .off → t.clock = s.clock + 1 ∧ t.svl = { s.svl with sent := t.svl.sent } ∧
      (∀ (r : SvcReply) (low : Nat), s.svl.line = .sending → s.svl.error = .none → s.svl.reply = some r →
        s.svl.rate = some low → t.svl.sent = r.bits.take (70000 * (s.clock + 1 - s.svl.begun) / low) ∧
        ∀ high : Bool, r.bits[t.svl.sent.length]? = some high → svcLevel t = high) ∧
      (s.svl.line ≠ .sending ∨ s.svl.error ≠ .none ∨ s.svl.reply = none ∨ s.svl.rate = none →
        t.svl.sent = s.svl.sent) ∧
      t.cbc = { s.cbc with line := t.cbc.line, idle := t.cbc.idle, backoff := t.cbc.backoff } ∧
      (s.cbc.line = none → t.cbc.line = none ∧ t.cbc.idle = min 255 (s.cbc.idle + 1) ∧ t.cbc.backoff = s.cbc.backoff) ∧
      ∀ tx, s.cbc.line = some tx →
        (tx.action = .backoff →
          t.cbc.idle = min 255 (s.cbc.idle + 1) ∧ t.cbc.backoff = min (8 * tx.attempt) (s.cbc.backoff + 1)) ∧
        (tx.action ≠ .backoff → t.cbc.backoff = s.cbc.backoff) ∧
        (tx.action = .breaking → t.cbc.line = some tx ∧ t.cbc.idle = 0) ∧
        (∀ (k : Nat) (high : Bool), tx.action = .sending k → (messageBits tx)[k]? = some high →
          t.cbc.line = some { tx with action := .sending (k + 1) } ∧
          t.cbc.idle = if high then min 255 (s.cbc.idle + 1) else 0) ∧
        (tx.action ≠ .breaking → (∀ k, tx.action ≠ .sending k) →
          t.cbc.line = some tx ∧ t.cbc.idle = min 255 (s.cbc.idle + 1)))) ∧
  (∀ r : SvcReply, r.bits.length = 10 * r.frame.length ∧
    ∀ (i : Nat) (b : Byte), r.frame[i]? = some b →
      r.bits[10 * i]? = some false ∧ (∀ j : Nat, j < 8 → r.bits[10 * i + 1 + j]? = some (b.getLsbD j)) ∧
      r.bits[10 * i + 9]? = some true) ∧
  ∀ tx : Transaction, (messageBits tx).length = 11 * (messageBytes tx).length ∧
    ∀ (i : Nat) (b : Byte), (messageBytes tx)[i]? = some b →
      (messageBits tx)[11 * i]? = some false ∧
      (∀ j : Nat, j < 8 → (messageBits tx)[11 * i + 1 + j]? = some (b.getLsbD j)) ∧
      (messageBits tx)[11 * i + 9]? = some (decide (i = 0)) ∧ (messageBits tx)[11 * i + 10]? = some true

/-- The frame of every system request, with any filler after it, is taken as that request, from its bytes and from its bits
clocked in most significant first (R148, R149, R186). -/
def Obligations.SystemFramesRoundTrip : Prop :=
  ∀ (i : Instr) (kind : Byte) (body filler : List Byte) (ready : Bool),
    systemBody i = some (kind, body) → i.selection = some ⟨ready, filler.length⟩ →
      Decode.systemSelection (portFrame kind body ++ filler) ready = some i ∧
      ∃ bits : List Bool, bits.length = 8 * (portFrame kind body ++ filler).length ∧
        (∀ (k j : Nat) (b : Byte), (portFrame kind body ++ filler)[k]? = some b → j < 8 →
          bits[8 * k + j]? = some (b.getMsbD j)) ∧
        Decode.systemClocked bits ready = some i

/-- The frame of every well-formed engine request, with any filler after it, is taken as that request, from its bytes and
from its bits clocked in most significant first (R106, R148, R186). -/
def Obligations.EngineFramesRoundTrip : Prop :=
  ∀ (i : Instr) (kind : Byte) (body filler : List Byte) (ready : Bool),
    i.wf = true → engineBody i = some (kind, body) → i.selection = some ⟨ready, filler.length⟩ →
      Decode.engineSelection (portFrame kind body ++ filler) ready = some i ∧
      ∃ bits : List Bool, bits.length = 8 * (portFrame kind body ++ filler).length ∧
        (∀ (k j : Nat) (b : Byte), (portFrame kind body ++ filler)[k]? = some b → j < 8 →
          bits[8 * k + j]? = some (b.getMsbD j)) ∧
        Decode.engineClocked bits ready = some i

/-- The frame of every service command is taken as that command (R165, R186). -/
def Obligations.ServiceFramesRoundTrip : Prop :=
  ∀ (i : Instr) (command : Byte) (body : List Byte),
    serviceBody i = some (command, body) → Decode.serviceFrameTaken (serviceFrame command body) = some i

/-- Checks 1 to 3 of R149 and R165, in their order, on every link: a wrong check byte gives BAD_CHECK whatever the kind; a
right one with a kind of no request of the link gives UNKNOWN_KIND; and a request's kind with a body of another length
than its own gives MALFORMED. On the two ports a selection whose first byte is 0x00 is a collect selection, whatever
follows, and no frame: it is judged by no check and rejected for none (R148). One changed byte before the check byte makes
the check wrong. -/
def Obligations.FailedChecksAreReportedInOrder : Prop :=
  (∀ (sel : Selection) (kind check : Byte) (body filler : List Byte), kind ≠ 0 → body.length ≤ 255 →
    check ≠ crc8 (kind :: BitVec.ofNat 8 body.length :: body) →
      judgeSystem sel (kind :: BitVec.ofNat 8 body.length :: (body ++ check :: filler)) = .failed .badCheck ∧
      judgeEngine sel (kind :: BitVec.ofNat 8 body.length :: (body ++ check :: filler)) = .failed .badCheck) ∧
  (∀ (command check : Byte) (body : List Byte), body.length ≤ 65535 →
    check ≠ crc8 (command :: (be16 (BitVec.ofNat 16 body.length) ++ body)) →
      judgeService (command :: (be16 (BitVec.ofNat 16 body.length) ++ body) ++ [check]) = .failed .badCheck) ∧
  (∀ (sel : Selection) (kind : Byte) (body filler : List Byte), kind ≠ 0 → body.length ≤ 255 →
    (0x10 < kind.toNat → judgeSystem sel (portFrame kind body ++ filler) = .failed .unknownKind) ∧
    (kind.toNat < 0x21 ∨ 0x27 < kind.toNat →
      judgeEngine sel (portFrame kind body ++ filler) = .failed .unknownKind)) ∧
  (∀ (command : Byte) (body : List Byte), body.length ≤ 65535 →
    command.toNat < 0x41 ∨ 0x4E < command.toNat →
      judgeService (serviceFrame command body) = .failed .unknownKind) ∧
  (∀ (sel : Selection) (kind : Byte) (len : Nat) (body filler : List Byte), kind ≠ 0 → body.length ≤ 255 →
    ([1, 0, 2, 1, 1, 1, 1, 1, 2, 1, 3, 2, 7, 0, 2, 1] : List Nat)[kind.toNat - 1]? = some len → body.length ≠ len →
      judgeSystem sel (portFrame kind body ++ filler) = .failed .malformed) ∧
  (∀ (sel : Selection) (body filler : List Byte), body.length ≤ 255 →
    (body.length ≠ 2 + 3 * (byteAt body 1).toNat →
      judgeEngine sel (portFrame 0x21 body ++ filler) = .failed .malformed) ∧
    ((∀ n : Nat, 1 ≤ n → n ≤ 10 → body.length ≠ 2 + 7 * n) →
      judgeEngine sel (portFrame 0x22 body ++ filler) = .failed .malformed) ∧
    ∀ (kind : Byte) (len : Nat), 0x23 ≤ kind.toNat →
      ([1, 3, 3, 0, 0] : List Nat)[kind.toNat - 0x23]? = some len → body.length ≠ len →
      judgeEngine sel (portFrame kind body ++ filler) = .failed .malformed) ∧
  (∀ (command : Byte) (len : Nat) (body : List Byte), 0x41 ≤ command.toNat → body.length ≤ 65535 →
    ([0, 0, 0, 0, 0, 1, 1, 8, 2, 10, 1, 11, 10, 17] : List Nat)[command.toNat - 0x41]? = some len → body.length ≠ len →
      judgeService (serviceFrame command body) = .failed .malformed) ∧
  (∀ (rest : List Byte) (ready : Bool),
    Decode.systemSelection (0 :: rest) ready = some (.sysCollectSelection (rest.length + 1) ready) ∧
    Decode.engineSelection (0 :: rest) ready = some (.engCollectSelection (rest.length + 1) ready) ∧
    ∀ (sel : Selection) (s : State), exec (.sysFrameRejected (0 :: rest) sel) s = .next s ∧
      exec (.engFrameRejected (0 :: rest) sel) s = .next s) ∧
  ∀ (before after : List Byte) (b c : Byte), b ≠ c → crc8 (before ++ b :: after) ≠ crc8 (before ++ c :: after)

/-- The state right after a full reset is taken (R23, R34, R42, R67, R105, R127, R147, R163, R173, R185): nothing of the
volatile state survives, every lamp is dark, its line high (R21), and SYS_DO and ENG_DO are at high impedance (R163, R179).
VACANT until the presence lines are sampled
(notes/assumptions/5) and the blank store of a part as manufactured (4) are the model's choice. -/
def Obligations.ResetLeavesNothingVolatile : Prop :=
  let s := State.reset
  (∀ n : SlotId, s.slots[n].state = .vacant ∧ s.slots[n].target = .online ∧ s.slots[n].alert = none ∧
    s.slots[n].alertCount = 0 ∧ s.slots[n].presenceTimer = none ∧ s.slots[n].override = none ∧
    lampLit s n = false ∧ lampLine s n = some true ∧ s.prf.identity[n] = none ∧ s.accounts[n] = none ∧ s.engp.purges[n] = none ∧
    s.engp.gates[n] = false) ∧
  s.prf.ctx = freeContext ∧ s.prf.digest = none ∧
  s.cbc.line = none ∧ s.cbc.queue = [] ∧ s.cbc.breakOwed = true ∧ s.cbc.flush = false ∧
  s.engp.table = [] ∧ s.engp.expired = false ∧ s.engp.watchdog = none ∧ engRdy s = false ∧
  s.sysp.holder = .empty ∧ sysRdy s = false ∧ s.sysp.events = [] ∧ s.sysp.seq = 0 ∧ attn s = false ∧
  (∀ p : PortMoment, sysDo s p = none ∧ engDo s p = none) ∧
  s.svl.line = .waitSync ∧ s.svl.rate = none ∧ s.svl.unlock = .none ∧ s.svl.reply = none ∧
  s.svl.frame = [] ∧ s.svl.check = none ∧ svcLevel s = true ∧
  s.sto.writer = none ∧ s.sto.last = 21 ∧ s.sto.power = .normal ∧ anyDirty s = false ∧
  (∀ r : Fin 118, s.sto.stored[r] = .blank) ∧ s.pending = []

/-- The state after reset has every property that each step keeps. The values its RAM copies and lamp intervals have there
before the load, and the slots' state VACANT before the sample, are the model's choice (notes/assumptions/5). -/
def Obligations.ResetMeetsTheInvariants : Prop :=
  GateSafe State.reset ∧ AccountsSafe State.reset ∧ EventsSafe State.reset ∧ HistorySafe State.reset ∧
    SwathsSafe State.reset ∧ SettingsSafe State.reset ∧ BusSafe State.reset ∧ SlotsSafe State.reset ∧
    LedgersBalance State.reset ∧ HoldsSafe State.reset ∧ PlacesSafe State.reset ∧ AdmissionsSafe State.reset ∧
    FlushSafe State.reset

/-! ### What every step keeps -/

/-- No step raises a gate line, or leaves one high, while its slot may not fire: the slot is READY, PFAIL is not
asserted, the watchdog is not expired, and the account is unmetered or has headroom (R107). -/
def Obligations.EveryStepKeepsGateLinesSafe : Prop :=
  ∀ s t : State, AccountsSafe s → GateSafe s → step s = .next t → GateSafe t

/-- Every open account keeps its residue below one microlitre, its failure count at most 3 and its doubtful amount
within pending, and is metered but for NON_GENUINE (R76, R83, R98, R100); its ledger balances: confirmed, in-flight and
pending together are catch-up, drop total and purge total (R84); and a slot's holds never exceed the headroom of its
metered account, nor anything without one (R89, R109, R118, R122). That the admission invariant of the hypotheses has every
slot VACANT before the sample after a reset is the model's choice (notes/assumptions/5). -/
def Obligations.EveryStepKeepsAccountsInRange : Prop :=
  (∀ s t : State, AccountsSafe s → step s = .next t → AccountsSafe t) ∧
  (∀ s t : State, AccountsSafe s → LedgersBalance s → step s = .next t → LedgersBalance t) ∧
  ∀ s t : State, AccountsSafe s → SwathsSafe s → AdmissionsSafe s → HoldsSafe s → step s = .next t → HoldsSafe t

/-- The event queue holds at most 24 records, of which at most one is an OVERFLOW record; it is the newest, with value
2..255 (R159, R160). -/
def Obligations.EveryStepKeepsTheEventQueueInBounds : Prop :=
  ∀ s t : State, EventsSafe s → step s = .next t → EventsSafe t

/-- Neither history table ever holds two entries with one serial (R128, R130, R147). -/
def Obligations.EveryStepKeepsHistorySerialsDistinct : Prop :=
  ∀ s t : State, HistorySafe s → step s = .next t → HistorySafe t

/-- At most two swaths with distinct ids; EXPIRED swaths hold nothing; the watchdog runs exactly while a swath is OPEN;
the expired flag stands only while entries remain, none OPEN (R108, R109, R114 to R117, R126). -/
def Obligations.EveryStepKeepsTheSwathTableCoherent : Prop :=
  ∀ s t : State, SwathsSafe s → step s = .next t → SwathsSafe t

/-- Limits, colours, VALID calibration records and filter offsets stay in their ranges (R68, R139, R156, R172, R175). -/
def Obligations.EveryStepKeepsSettingsInRange : Prop :=
  ∀ s t : State, SettingsSafe s → step s = .next t → SettingsSafe t

/-- A transaction makes at most three attempts, and at most four pass-through reads wait (R58, R60, R63); each slot has at
most one admission step and one write-back entry waiting, no operation is listed twice, and at most 24 entries wait (R60,
R61, R62). The bus is in flush mode exactly outside NORMAL (R65, R182, R184), no entry that may be served waits on a free
line (R64), and FLUSHING_BUS never outlasts the last ADD_USED (R183): that whatever command takes that away ends the bus
phase itself, with no BUS_FLUSH_DRAINED after it, is the model's choice (notes/assumptions/11), and so is, in
the hypotheses, that every slot is VACANT before the sample after a reset (5). -/
def Obligations.EveryStepKeepsTheBusInBounds : Prop :=
  (∀ s t : State, BusSafe s → step s = .next t → BusSafe t) ∧
  (∀ s t : State, BusSafe s → AdmissionsSafe s → PlacesSafe s → step s = .next t → PlacesSafe t) ∧
  ∀ s t : State, AdmissionsSafe s → FlushSafe s → step s = .next t → FlushSafe t

/-- Alert counts stop at 15 and stand at 0 with no alert; a lamp shows its override or else the pattern of its slot's
state and level (R18, R19, R21, R22). Accounts are open exactly in the account states and REJECTED(CONTACT_LOST) (1.1),
identity records are held exactly in PROVING and RECONCILING (R29), claimed serials are distinct (R28), an admission step
waits or runs only for the slot state that awaits it (R7, R8, R61), and the proof context serves the CHALLENGE on the
line (R34). That every slot is VACANT until the sample after a full reset is the model's choice (notes/assumptions/5). -/
def Obligations.EveryStepKeepsAlertsAndLampsCoherent : Prop :=
  (∀ s t : State, SlotsSafe s → step s = .next t → SlotsSafe t) ∧
  ∀ s t : State, AdmissionsSafe s → step s = .next t → AdmissionsSafe t

/-! ### Frames over all commands -/

/-- Every command changes no part of the state but those its rules name. -/
def Obligations.EveryCommandChangesOnlyItsParts : Prop :=
  ∀ (i : Instr) (s t : State), exec i s = .next t → OnlyChanges (footprint i) s t

/-- A stored record changes only at the end of a write of it, which stores the contents with their CRC-16 (R174), or is
lost with the power in the middle of one (R181). That START_UP_LOAD_COMPLETE ends a write which a reset met under way, and
that POWER_ON on a powered part loses the power first, are the model's (notes/assumptions/13, 24), and so are the bytes
under the CRC-16 (14). -/
def Obligations.AStoredRecordChangesOnlyByItsWrite : Prop :=
  ∀ (i : Instr) (s t : State) (r : Fin 118), exec i s = .next t → t.sto.stored[r] ≠ s.sto.stored[r] →
    ∃ c : Contents, (s.sto.writer = some (r, c) ∨ s.sto.carried = some (r, c)) ∧
      ((i = .writeComplete ∨ i = .startUpLoadComplete) ∧ t.sto.stored[r] = .written c (crc16 (recordBytes c)) ∨
        (i = .powerLoss ∨ i = .powerOn) ∧ t.sto.stored[r] = .broken)

/-- Once LOADED, a key slot keeps its value until a full reset (R30, R31); no command clears a calibration lock, and a
calibration record whose lock is set is never changed (R171). -/
def Obligations.LoadedKeysAndLockedCalibrationStay : Prop :=
  (∀ (i : Instr) (s t : State) (k : Fin 4) (v : BitVec 128), reloads i = false → exec i s = .next t →
    s.prf.keys[k] = some v → t.prf.keys[k] = some v) ∧
  (∀ (i : Instr) (s t : State) (n : SlotId), reloads i = false → exec i s = .next t → s.locks[n] = true →
    t.locks[n] = true ∧ t.cal[n] = s.cal[n])

/-! ### Slots -/

/-- The presence filter (R3): a change of the line starts the timer with its full window, or stops it when the line is
back at the filtered presence; the expiry makes the filtered presence the line's level. -/
def Obligations.ThePresenceFilterFollowsTheLine : Prop :=
  ∀ (s : State) (n : SlotId), s.phase = .running →
    (∀ high : Bool, s.lines.presence[n] ≠ high →
      exec (.presenceLineChange n high) s = .next
        { s with
          lines := { s.lines with presence := put s.lines.presence n high }
          slots := upd s.slots n fun r =>
            { r with
              presenceTimer := if r.present = high then none else some ⟨s.clock, if high then 5000 else 500⟩ } }) ∧
    (s.slots[n].presenceTimer.isSome = true → ∃ t : State, exec (.presenceTimerExpiry n) s = .next t ∧
      t.slots[n].present = s.lines.presence[n] ∧ t.slots[n].presenceTimer = none ∧ OtherSlotsKept n s t)

/-- An insertion seats the cartridge, and in AUTO goes on to READING with READ_ID as its admission step: on a busy line it
joins the tail of the queue, on a free line with nothing waiting in normal service it is started at once, and in flush mode
with no ADD_USED waiting it joins the tail too. One SLOT_STATE event is posted for each state entered, and in another mode
the bus is untouched (R4, R7, R20, R64, R65). -/
def Obligations.AnInsertionActsOnTheMode : Prop :=
  ∀ (s : State) (n : SlotId), s.phase = .running → s.slots[n].presenceTimer.isSome = true →
    s.lines.presence[n] = true → s.slots[n].state = .vacant →
    ∃ t : State, exec (.presenceTimerExpiry n) s = .next t ∧ OnlyChanges debitParts s t ∧
      OtherSlotsKept n s t ∧ t.engp.gates[n] = false ∧ t.slots[n].shown = .blinkSlow ∧
      t.slots[n].target = s.slots[n].target ∧ t.slots[n].alert = s.slots[n].alert ∧
      (s.settings.modes[n] = .auto → t.slots[n].state = .reading ∧ (n, AdmissionStep.readId) ∈ admissionWork t ∧
        t.sysp = (postEvent (postEvent s .slotState (slotByte n) 1 none) .slotState (slotByte n) 2 none).sysp ∧
        (s.cbc.line.isSome = true ∨ s.cbc.flush = true ∧
            (∀ (m : SlotId) (l : List WbOp), QEntry.writeBack m l ∈ s.cbc.queue → WbOp.addUsed ∉ l) →
          OnlyChanges [.slots, .sysp, .engp, .cbc] s t ∧
            t.cbc = { s.cbc with queue := s.cbc.queue ++ [.admission n .readId] }) ∧
        (s.cbc.line = none → s.cbc.queue = [] → s.cbc.flush = false →
          OnlyChanges [.slots, .sysp, .engp, .cbc] s t ∧ t.cbc.queue = [] ∧ Begun t n (.admission .readId) [])) ∧
      (s.settings.modes[n] ≠ .auto → t.slots[n].state = .seated ∧ OnlyChanges [.slots, .sysp, .engp] s t ∧
        t.sysp = (postEvent s .slotState (slotByte n) 1 none).sysp)

/-- A removal leaves nothing of the cartridge: account, identity, bus work, holds and purge are gone, the gate is low; the
alert record is kept, or REMOVED_IN_USE is raised when unwritten ink was pulled out; a metered account leaves its seen entry
with its unwritten figure, and its serial on the retired list if it was marked spent, or was exhausted and is not there yet
(R11, R29, R66, R103, R122, R129 to R131). A transaction of the slot on the line is aborted and a break is owed, which the
next attempt drives first; another slot's stays, and the queue loses the slot's entries alone (R46, R66). If the holder
awaits a pass-through read of the slot, waiting or on the line, it takes its NO_CARTRIDGE reply with slot, offset and length,
and else it stays as it is (R154). The moves post SLOT_STATE VACANT, then the alert (R20). One byte each for offset and
length is the model's reading (notes/assumptions/21). -/
def Obligations.ARemovalLeavesNothingOfTheCartridge : Prop :=
  ∀ (s : State) (n : SlotId), s.phase = .running → s.slots[n].presenceTimer.isSome = true →
    s.lines.presence[n] = false → s.slots[n].state ≠ .vacant →
    ∃ t : State, exec (.presenceTimerExpiry n) s = .next t ∧ OnlyChanges resultParts s t ∧ OtherSlotsKept n s t ∧
      t.slots[n].state = .vacant ∧ t.slots[n].target = .online ∧ t.slots[n].override = none ∧
      t.accounts[n] = none ∧ t.prf.identity[n] = none ∧ (∀ e ∈ t.cbc.queue, e.slot ≠ n) ∧
      (∀ tx, t.cbc.line = some tx → tx.slot ≠ n) ∧ holds t n = 0 ∧ t.engp.purges[n] = none ∧
      t.engp.gates[n] = false ∧
      (∀ a, s.slots[n].alert = some a → t.slots[n].alert = some a) ∧
      (s.slots[n].alert = none → t.slots[n].alert = if removedInUse s n then some .removedInUse else none) ∧
      (s.sto.power ≠ .flushingBus →
        let moved := postEvent s .slotState (slotByte n) SlotState.vacant.code none
        t.sysp = { (if removedInUse s n then postEvent moved .alert (slotByte n) AlertCode.removedInUse.code none
          else moved).sysp with holder := t.sysp.holder }) ∧
      (∀ tx, s.cbc.line = some tx →
        (tx.slot = n → t.cbc.breakOwed = true ∧ ∀ u, t.cbc.line = some u → u.action = .breaking) ∧
        (tx.slot ≠ n → t.cbc = { s.cbc with queue := s.cbc.queue.filter (·.slot != n) })) ∧
      (s.cbc.line = none → s.cbc.queue = [] → t.cbc = s.cbc) ∧
      (∀ (tag : Nat) (lost : Bool), s.sysp.holder = .waiting tag lost →
        let gone (o l : Byte) : Holder :=
          .ready ⟨0x8B, .noCartridge, replyFlags lost (attn s) false false, [slotByte n, o, l]⟩
        (∀ (before after : List QEntry) (o l : Byte), s.cbc.queue = before ++ .passThrough n o l tag :: after →
          (∀ a b : Byte, QEntry.passThrough n a b tag ∉ before) → t.sysp.holder = gone o l) ∧
        ((∀ a b : Byte, QEntry.passThrough n a b tag ∉ s.cbc.queue) →
          (∀ (tx : Transaction) (o l : Byte), s.cbc.line = some tx → tx.slot = n → tx.command = .readArea o l tag →
            t.sysp.holder = gone o l) ∧
          ((∀ (tx : Transaction) (o l : Byte), s.cbc.line = some tx → tx.slot = n → tx.command ≠ .readArea o l tag) →
            t.sysp.holder = s.sysp.holder))) ∧
      ((∀ (tag : Nat) (lost : Bool), s.sysp.holder ≠ .waiting tag lost) → t.sysp.holder = s.sysp.holder) ∧
      (∀ a : Account, s.accounts[n] = some a →
        (a.metered = false → s.sto.power ≠ .flushingBus → t.his = s.his) ∧
        (a.metered = false → t.his.retired = s.his.retired) ∧
        (a.metered = true → s.sto.power ≠ .flushingBus ∨ SeenEntryLasts s n a.serial →
          ∃ (p : Fin 32) (e : SeenEntry), t.his.seen[p] = some e ∧ e.serial = a.serial ∧
            e.consumed = min (consumedView a) 4294967295 ∧ e.unwritten = min (a.inFlight + a.pendingInk) e.consumed ∧
            e.lastSlot = n ∧ e.lastClass = a.cls) ∧
        (a.metered = true → a.spent = .marked ∨ a.spent = .found →
          ∃ (p : Fin 64) (e : RetiredEntry), t.his.retired[p] = some e ∧ e.serial = a.serial ∧ e.reason = .spent) ∧
        (a.metered = true → a.spent ≠ .marked → a.spent ≠ .found →
          (s.slots[n].state = .exhausted → isRetired s a.serial = false →
            ∃ (p : Fin 64) (e : RetiredEntry), t.his.retired[p] = some e ∧ e.serial = a.serial ∧
              e.reason = .exhaustedRemoved) ∧
          (s.slots[n].state ≠ .exhausted ∨ isRetired s a.serial = true → t.his.retired = s.his.retired)))

/-- ACK_ALERT clears the alert record and nothing else, SET_LAMP starts the override at the beginning of its cycle, a
pattern outside the five or a slot outside 0..9 is refused RANGE, and a lamp's next interval follows at the end of the one
shown (R19, R21, R22, 8.3). Each pattern's cycle begins lit, but for OFF, and goes through R21's intervals of lit and dark; a
lit lamp drives its lamp line low, a dark one leaves it high, and until the load has ended every lamp is dark (R21, R23). -/
def Obligations.AlertsAndLampsAreSetAsAsked : Prop :=
  (LampPattern.off.cycle.map (·.1) = [false] ∧ LampPattern.on.cycle.map (·.1) = [true] ∧
    LampPattern.blinkSlow.cycle = [(true, 500), (false, 500)] ∧ LampPattern.blinkFast.cycle = [(true, 125), (false, 125)] ∧
    LampPattern.flash2.cycle = [(true, 100), (false, 200), (true, 100), (false, 1600)]) ∧
  (∀ (s : State) (n : SlotId),
    (s.phase ≠ .off → s.phase ≠ .running → lampLine s n = some true) ∧
    (s.phase = .running → ∀ x, s.slots[n].shown.cycle[s.slots[n].lampPhase]? = some x →
      (x.1 = true → lampLine s n = some false) ∧ (x.1 = false → lampLine s n = some true))) ∧
  ∀ (s : State) (slot : Byte) (sel : Selection), s.phase = .running →
    (slotOf slot = none →
      (∃ t : State, exec (.ackAlert slot sel) s = .next t ∧ SysRefused s sel 1 0x08 .range t) ∧
      ∀ pattern : Byte, ∃ t : State, exec (.setLamp slot pattern sel) s = .next t ∧ SysRefused s sel 2 0x09 .range t) ∧
    ∀ n : SlotId, slotOf slot = some n →
      (∃ t : State, exec (.ackAlert slot sel) s = .next t ∧ OnlyChanges [.slots, .sysp] s t ∧
        t.slots = upd s.slots n (fun r => { r with alert := none, alertCount := 0 }) ∧
        t.sysp.events = s.sysp.events ∧ SysReplied (holderMet s sel 1) 0x08 .ok [] t) ∧
      (∀ (pattern : Byte) (p : LampPattern), LampPattern.ofCode pattern = some p →
        ∃ t : State, exec (.setLamp slot pattern sel) s = .next t ∧ OnlyChanges [.slots, .sysp] s t ∧
          t.slots = upd s.slots n (fun r => { r with override := some p, shown := p, lampPhase := 0 }) ∧
          lampLine t n = some (decide (p = .off)) ∧
          t.sysp.events = s.sysp.events ∧ SysReplied (holderMet s sel 2) 0x09 .ok [] t) ∧
      (∀ pattern : Byte, 4 < pattern.toNat →
        ∃ t : State, exec (.setLamp slot pattern sel) s = .next t ∧ SysRefused s sel 2 0x09 .range t) ∧
      exec (.lampPhaseExpiry n) s = .next
        { s with slots := upd s.slots n fun r => { r with lampPhase := (r.lampPhase + 1) % r.shown.cycle.length } }

/-- SET_SLOT_MODE stores the mode in any state, marks the settings record dirty only if it differs, and moves a SEATED
slot to READING, with READ_ID as its admission step, only when the mode becomes AUTO; other values are refused RANGE (R5). -/
def Obligations.SetSlotModeStoresTheMode : Prop :=
  ∀ (s : State) (slot mode : Byte) (sel : Selection), s.phase = .running →
    (∀ (n : SlotId) (m : Mode), slotOf slot = some n → Mode.ofCode mode = some m →
      ∃ t : State, exec (.setSlotMode slot mode sel) s = .next t ∧
        OnlyChanges (debitParts ++ [.settings, .sto]) s t ∧ SysReplied (holderMet s sel 2) 0x03 .ok [] t ∧
        t.settings = { s.settings with modes := put s.settings.modes n m } ∧ OtherSlotsKept n s t ∧
        t.sto = { s.sto with
          dirty := if s.settings.modes[n] = m then s.sto.dirty else put s.sto.dirty recSettings true } ∧
        t.slots[n].state =
          (if s.slots[n].state = .seated ∧ m = .auto ∧ s.settings.modes[n] ≠ .auto then .reading
          else s.slots[n].state) ∧
        (s.slots[n].state = .seated → m = .auto → s.settings.modes[n] ≠ .auto →
          (n, AdmissionStep.readId) ∈ admissionWork t)) ∧
    (slotOf slot = none ∨ 2 < mode.toNat →
      ∃ t : State, exec (.setSlotMode slot mode sel) s = .next t ∧ SysRefused s sel 2 0x03 .range t)

/-- ADMIT and RETRY are judged in the order of R6 and R17; accepted, the slot goes to READING with READ_ID as its
admission step (R7), and a RETRY after contact loss first closes the account and cancels the slot's bus work: its own
transaction is aborted and a break is owed, which the next attempt drives first, and another slot's stays on the line while
the slot's entries leave the queue (R17, R46, R66); refused, and with a slot outside 0..9, nothing but the reply changes. The
reply to RETRY says REPLY_LOST if the holder awaited a read (R151): that this is dropped before RETRY cancels the slot's
work, so that no NO_CARTRIDGE reply is placed for it, is the model's reading (notes/assumptions/32). -/
def Obligations.AdmitAndRetryStartAnAdmission : Prop :=
  ∀ (s : State) (slot : Byte) (sel : Selection), s.phase = .running →
    (slotOf slot = none →
      (∃ t : State, exec (.admitSlot slot sel) s = .next t ∧ SysRefused s sel 1 0x04 .range t) ∧
      ∃ t : State, exec (.retry slot sel) s = .next t ∧ SysRefused s sel 1 0x07 .range t) ∧
    ∀ n : SlotId, slotOf slot = some n →
      (s.slots[n].state ≠ .seated ∨ s.settings.modes[n] ≠ .confirm →
        ∃ t : State, exec (.admitSlot slot sel) s = .next t ∧ SysRefused s sel 1 0x04 .wrongState t) ∧
      (s.slots[n].state = .seated → s.settings.modes[n] = .confirm → s.slots[n].alert ≠ none →
        ∃ t : State, exec (.admitSlot slot sel) s = .next t ∧ SysRefused s sel 1 0x04 .alertPending t) ∧
      (s.slots[n].state = .seated → s.settings.modes[n] = .confirm → s.slots[n].alert = none →
        ∃ t : State, exec (.admitSlot slot sel) s = .next t ∧ OnlyChanges debitParts s t ∧ OtherSlotsKept n s t ∧
          t.slots[n].state = .reading ∧ (n, AdmissionStep.readId) ∈ admissionWork t ∧
          (s.cbc.line.isSome = true → t.cbc = { s.cbc with queue := s.cbc.queue ++ [.admission n .readId] }) ∧
          (s.cbc.line = none → s.cbc.queue = [] → s.cbc.flush = false →
            t.cbc.queue = [] ∧ Begun t n (.admission .readId) []) ∧
          SysReplied (holderMet s sel 1) 0x04 .ok [] t) ∧
      (s.slots[n].state.reason = none →
        ∃ t : State, exec (.retry slot sel) s = .next t ∧ SysRefused s sel 1 0x07 .wrongState t) ∧
      (∀ why : Reason, s.slots[n].state = .rejected why → s.slots[n].alert ≠ none →
        ∃ t : State, exec (.retry slot sel) s = .next t ∧ SysRefused s sel 1 0x07 .alertPending t) ∧
      (∀ why : Reason, s.slots[n].state = .rejected why → s.slots[n].alert = none →
        ∃ t : State, exec (.retry slot sel) s = .next t ∧ OnlyChanges resultParts s t ∧ OtherSlotsKept n s t ∧
          t.slots[n].state = .reading ∧ t.slots[n].target = s.slots[n].target ∧ t.slots[n].alert = none ∧
          (n, AdmissionStep.readId) ∈ admissionWork t ∧
          (why ≠ .contactLost → s.cbc.line.isSome = true →
            t.cbc = { s.cbc with queue := s.cbc.queue ++ [.admission n .readId] }) ∧
          (why ≠ .contactLost → s.cbc.line = none → s.cbc.queue = [] → s.cbc.flush = false →
            t.cbc.queue = [] ∧ Begun t n (.admission .readId) []) ∧
          (why = .contactLost → t.accounts[n] = none ∧ holds t n = 0 ∧ t.engp.purges[n] = none ∧
            (∀ tx, s.cbc.line = some tx →
              (tx.slot = n → t.cbc.breakOwed = true ∧ ∀ u, t.cbc.line = some u → u.action = .breaking) ∧
              (tx.slot ≠ n → t.cbc = { s.cbc with
                queue := s.cbc.queue.filter (·.slot != n) ++ [.admission n .readId] })) ∧
            (s.cbc.line = none → s.cbc.queue = [] → s.cbc.flush = false →
              t.cbc.queue = [] ∧ Begun t n (.admission .readId) [])) ∧
          SysReplied (holderMet s sel 1) 0x07 .ok [] t)

/-- PARK takes a READY slot to PARKED with its gate low and its account as it is; UNPARK brings a PARKED slot without
alert back to READY, or to EXHAUSTED at headroom 0, and its gate line takes the level of the gate condition, so that it
rises with READY unless PFAIL or the expired flag holds it low (R107), no other gate line changing; otherwise, and with a
slot outside 0..9, they are refused and change nothing (R13, R14, R107, 8.3). -/
def Obligations.ParkAndUnparkMoveTheSlot : Prop :=
  ∀ (s : State) (slot : Byte) (sel : Selection), s.phase = .running →
    (slotOf slot = none →
      (∃ t : State, exec (.park slot sel) s = .next t ∧ SysRefused s sel 1 0x05 .range t) ∧
      ∃ t : State, exec (.unpark slot sel) s = .next t ∧ SysRefused s sel 1 0x06 .range t) ∧
    ∀ n : SlotId, slotOf slot = some n →
      (s.slots[n].state = .ready →
        ∃ t : State, exec (.park slot sel) s = .next t ∧ OnlyChanges [.slots, .sysp, .engp] s t ∧
          OtherSlotsKept n s t ∧ t.slots[n].state = .parked ∧ t.slots[n].target = .parked ∧
          t.engp = { s.engp with gates := put s.engp.gates n false } ∧
          SysReplied (holderMet s sel 1) 0x05 .ok [] t) ∧
      (s.slots[n].state ≠ .ready →
        ∃ t : State, exec (.park slot sel) s = .next t ∧ SysRefused s sel 1 0x05 .wrongState t) ∧
      (s.slots[n].state ≠ .parked →
        ∃ t : State, exec (.unpark slot sel) s = .next t ∧ SysRefused s sel 1 0x06 .wrongState t) ∧
      (s.slots[n].state = .parked → s.slots[n].alert ≠ none →
        ∃ t : State, exec (.unpark slot sel) s = .next t ∧ SysRefused s sel 1 0x06 .alertPending t) ∧
      (∀ a : Account, s.slots[n].state = .parked → s.slots[n].alert = none → s.accounts[n] = some a →
        ∃ t : State, exec (.unpark slot sel) s = .next t ∧ OnlyChanges debitParts s t ∧ OtherSlotsKept n s t ∧
          t.slots[n].state = (if a.metered = true ∧ headroom a = 0 then .exhausted else .ready) ∧
          t.slots[n].target = .online ∧ t.slots[n].alert = none ∧
          GateFollows n s t ∧ SysReplied (holderMet s sel 1) 0x06 .ok [] t)

/-! ### System port -/

/-- SLOT_STATUS, LEVELS, HISTORY_READ and ACCOUNT_STATS report the state as it stands and change nothing but the reply
(R24, R104, R146). A slot outside 0..9 is refused RANGE (8.3). The widths that R186 does not give, the code of an UNKNOWN
available, the class byte with no account and the mark of an empty position are the model's (notes/assumptions/19, 21). -/
def Obligations.SystemQueriesReportAndChangeNothing : Prop :=
  ∀ (s : State) (sel : Selection), s.phase = .running →
    (∀ slot : Byte, slotOf slot = none →
      (∃ t : State, exec (.slotStatus slot sel) s = .next t ∧ SysRefused s sel 1 0x01 .range t) ∧
      ∃ t : State, exec (.accountStats slot sel) s = .next t ∧ SysRefused s sel 1 0x10 .range t) ∧
    (∀ (slot : Byte) (n : SlotId), slotOf slot = some n →
      (∃ t : State, exec (.slotStatus slot sel) s = .next t ∧ OnlyChanges [.sysp] s t ∧
        t.sysp.events = s.sysp.events ∧
        SysReplied (holderMet s sel 1) 0x01 .ok
          [s.slots[n].state.code, (s.slots[n].state.reason.map Reason.code).getD 0, s.settings.modes[n].code,
            s.slots[n].target.code, alertCodeOrNone s.slots[n].alert, BitVec.ofNat 8 s.slots[n].alertCount,
            s.slots[n].shown.code, yesNo s.slots[n].override.isSome,
            (s.accounts[n].map (·.cls.code)).getD Config.noClassCode,
            (s.accounts[n].map (·.level.code)).getD 0xFE] t) ∧
      (∀ a : Account, s.accounts[n] = some a →
        ∃ t : State, exec (.accountStats slot sel) s = .next t ∧ OnlyChanges [.sysp] s t ∧
          t.sysp.events = s.sysp.events ∧ SysReplied (holderMet s sel 1) 0x10 .ok (accountFields s n a) t) ∧
      (s.accounts[n] = none →
        ∃ t : State, exec (.accountStats slot sel) s = .next t ∧ SysRefused s sel 1 0x10 .noAccount t)) ∧
    (∃ t : State, exec (.levels sel) s = .next t ∧ OnlyChanges [.sysp] s t ∧ t.sysp.events = s.sysp.events ∧
      SysReplied (holderMet s sel 0) 0x02 .ok (allSlots.flatMap (levelFields s)) t) ∧
    (∀ (index : Byte) (p : Fin 32), index.toNat = p.val →
      ∃ t : State, exec (.historyRead 0 index sel) s = .next t ∧ OnlyChanges [.sysp] s t ∧
        t.sysp.events = s.sysp.events ∧ SysReplied (holderMet s sel 2) 0x0F .ok (seenFields s.his.seen[p]) t) ∧
    (∀ index : Byte, index.toNat < 64 →
      ∃ t : State, exec (.historyRead 1 index sel) s = .next t ∧ OnlyChanges [.sysp] s t ∧
        t.sysp.events = s.sysp.events ∧
        SysReplied (holderMet s sel 2) 0x0F .ok (retiredFields (retiredInOrder s.his.retired)[index.toNat]?) t) ∧
    (∀ table index : Byte, 1 < table.toNat ∨ table = 0 ∧ 31 < index.toNat ∨ table = 1 ∧ 63 < index.toNat →
      ∃ t : State, exec (.historyRead table index sel) s = .next t ∧ SysRefused s sel 2 0x0F .range t)

/-- TAKE_EVENTS takes the oldest records, at most n of them, and says how many are left; an n above 8 is refused and
the queue is unchanged (R161). -/
def Obligations.TakeEventsTakesTheOldestRecords : Prop :=
  ∀ (s : State) (n : Byte) (sel : Selection), s.phase = .running →
    (n.toNat ≤ 8 → ∃ t : State, exec (.takeEvents n sel) s = .next t ∧ OnlyChanges [.sysp] s t ∧
      t.sysp.events = s.sysp.events.drop n.toNat ∧ t.sysp.seq = s.sysp.seq ∧
      SysReplied (holderMet s sel 1) 0x0A .ok
        (u8 (min n.toNat s.sysp.events.length) ++ (s.sysp.events.take n.toNat).flatMap eventBytes ++
          u8 (s.sysp.events.length - n.toNat)) t) ∧
    (8 < n.toNat → ∃ t : State, exec (.takeEvents n sel) s = .next t ∧ SysRefused s sel 1 0x0A .range t)

/-- CART_READ is judged in the order of R153 and R63. Accepted while the line is busy, its entry joins the tail of the
queue and the holder waits for it; on a free line with an empty queue in normal service it is started at once. -/
def Obligations.CartReadJoinsTheQueue : Prop :=
  ∀ (s : State) (slot offset length : Byte) (sel : Selection), s.phase = .running →
    (∀ st : Status, readRefusal s slot offset length = some st →
      ∃ t : State, exec (.cartRead slot offset length sel) s = .next t ∧ SysRefused s sel 3 0x0B st t) ∧
    (∀ n : SlotId, slotOf slot = some n → readable s.slots[n].state = true → offset.toNat ≤ 63 →
      1 ≤ length.toNat → length.toNat ≤ 32 → (s.cbc.queue.filter QEntry.isPassThrough).length < 4 →
      (s.cbc.line.isSome = true →
        ∃ t : State, exec (.cartRead slot offset length sel) s = .next t ∧ OnlyChanges [.sysp, .cbc] s t ∧
          t.cbc = { s.cbc with queue := s.cbc.queue ++ [.passThrough n offset length s.sysp.readTag] } ∧
          t.sysp.holder = .waiting s.sysp.readTag (holderMet s sel 3 != .empty) ∧
          t.sysp.events = s.sysp.events) ∧
      (s.cbc.line = none → s.cbc.queue = [] → s.cbc.flush = false →
        ∃ t : State, exec (.cartRead slot offset length sel) s = .next t ∧ OnlyChanges [.sysp, .cbc] s t ∧
          t.cbc.queue = [] ∧
          (∃ tx, t.cbc.line = some tx ∧ tx.slot = n ∧ tx.command = .readArea offset length s.sysp.readTag ∧
            tx.attempt = 1 ∧ tx.body = [offset, length]) ∧
          t.sysp.holder = .waiting s.sysp.readTag (holderMet s sel 3 != .empty)))

/-- SET_POLICY sets both policies or neither; SET_LIMITS clamps each limit, the reserve against the low percentage as
clamped, and lowers levels only when a percentage changed: each level that falls posts one LEVEL event with the slot, the
new level and the headroom, slot 0 first, and a READY slot's lamp follows it; nothing else is posted (R87, R155, R156, R157).
The widths of the limits in the reply,
the threshold in four bytes and the others in one, are the model's reading of R186 (notes/assumptions/21). -/
def Obligations.SettingsRequestsTakeEffect : Prop :=
  ∀ (s : State) (sel : Selection), s.phase = .running →
    (∀ (a b : Byte) (g : NonGenuinePolicy) (p : SuspectPolicy), NonGenuinePolicy.ofCode a = some g →
      SuspectPolicy.ofCode b = some p →
      ∃ t : State, exec (.setPolicy a b sel) s = .next t ∧ OnlyChanges [.settings, .sto, .sysp] s t ∧
        t.settings = { s.settings with nonGenuine := g, suspect := p } ∧
        t.sto = { s.sto with
          dirty := (if s.settings.nonGenuine = g ∧ s.settings.suspect = p then s.sto.dirty
            else put s.sto.dirty recSettings true) } ∧
        SysReplied (holderMet s sel 2) 0x0C .ok [g.code, p.code] t) ∧
    (∀ a b : Byte, 1 < a.toNat ∨ 1 < b.toNat →
      ∃ t : State, exec (.setPolicy a b sel) s = .next t ∧ SysRefused s sel 2 0x0C .range t) ∧
    (∀ (low reserve window swath purge : Byte) (threshold : Half) (asked l : Limits),
      asked = ⟨low.toNat, reserve.toNat, threshold.toNat, window.toNat, swath.toNat, purge.toNat⟩ →
      l = ⟨max 1 (min 50 low.toNat), min (max 1 (min 50 low.toNat)) reserve.toNat, max 16 (min 4000 threshold.toNat),
        max 5 (min 255 window.toNat), max 1 (min 60 swath.toNat), max 1 (min 60 purge.toNat)⟩ →
      ∃ t : State, exec (.setLimits low reserve threshold window swath purge sel) s = .next t ∧
        OnlyChanges [.settings, .sto, .sysp, .accounts, .slots] s t ∧ t.settings = { s.settings with limits := l } ∧
        t.sto = { s.sto with
          dirty := (if l = s.settings.limits then s.sto.dirty else put s.sto.dirty recSettings true) } ∧
        (∀ n : SlotId, t.accounts[n] = s.accounts[n].map fun a =>
          if a.metered = true ∧ (l.low ≠ s.settings.limits.low ∨ l.reserve ≠ s.settings.limits.reserve) then
            { a with level := lowerLevel a.level (levelComputed l a.capacity (headroom a)) }
          else a) ∧
        (let fallen (n : SlotId) : Option (Account × Level) := s.accounts[n].bind fun a =>
          let v := lowerLevel a.level (levelComputed l a.capacity (headroom a))
          if a.metered = true ∧ (l.low ≠ s.settings.limits.low ∨ l.reserve ≠ s.settings.limits.reserve) ∧ v ≠ a.level
          then some (a, v) else none
        t.sysp = { (allSlots.foldl (fun u n => match fallen n with
              | some (a, v) => postEvent u .level (slotByte n) v.code (some (figure (headroom a)))
              | none => u) s).sysp with holder := t.sysp.holder, sent := t.sysp.sent } ∧
            ∀ n : SlotId,
              (fallen n = none ∨ s.slots[n].state ≠ .ready → t.slots[n] = s.slots[n]) ∧
              ∀ (a : Account) (v : Level), fallen n = some (a, v) → s.slots[n].state = .ready →
                t.slots[n] = { s.slots[n] with
                  override := none, shown := statePattern .ready (some v), lampPhase := t.slots[n].lampPhase }) ∧
        SysReplied (holderMet s sel 7) 0x0D (if l = asked then .ok else .clamped) (limitFields l) t)

/-- FLUSH asks for an ADD_USED for every account that a trigger serves, and its reply names them; with the line busy
each then waits in its slot's place (R92, R158). On a free line with an empty queue in normal service the first of them
starts: its expected total and amount go out and the amount moves to in-flight (R64, R94). -/
def Obligations.FlushAsksForEveryWriteBack : Prop :=
  ∀ (s : State) (sel : Selection), s.phase = .running →
    ∃ t : State, exec (.flush sel) s = .next t ∧ OnlyChanges (arbiterParts ++ [.sysp]) s t ∧
      SysReplied (holderMet s sel 0) 0x0E .ok
        (u8 (allSlots.filter (triggerDue s)).length ++ be16 (slotMask (triggerDue s))) t ∧
      (s.cbc.line.isSome = true → OnlyChanges [.cbc, .sysp] s t ∧ t.cbc.line = s.cbc.line ∧
        ∀ n : SlotId, triggerDue s n = true → ∃ ops, QEntry.writeBack n ops ∈ t.cbc.queue ∧ WbOp.addUsed ∈ ops) ∧
      (s.cbc.line = none → s.cbc.queue = [] → s.cbc.flush = false →
        ((∀ n : SlotId, triggerDue s n = false) → t.cbc = s.cbc ∧ t.accounts = s.accounts) ∧
        ∀ (n : SlotId) (a : Account), triggerDue s n = true → (∀ m : SlotId, triggerDue s m = true → n.val ≤ m.val) →
          canSend s n a → AddUsedBegun s t n a ∧
            ∀ m : SlotId, m ≠ n → triggerDue s m = true → QEntry.writeBack m [.addUsed] ∈ t.cbc.queue)

/-- What a selection sends on the two ports, and the selections that bring no request (R106, R148 to R151). Every selection
sends the reply that was ready when it began, or NONE, then 0x00, most significant bit of each byte first; while deselected
SYS_DO and ENG_DO are at high impedance, and out of service a selection is ignored whole (R148, R163, R179). A failed frame
yields the reply of the check it fails, in
place of any reply held; a partial one yields none; a collect selection takes away a reply that was ready and was clocked
whole, and no other. That a partial selection takes away no reply, however many bytes were clocked, is the model's reading
of R149 beside R150 (notes/assumptions/7). -/
def Obligations.SelectionsWithoutARequest : Prop :=
  (∀ s : State, sysDo s .deselected = none ∧ engDo s .deselected = none ∧
    (s.phase ≠ .running → (∀ p : PortMoment, sysDo s p = none ∧ engDo s p = none) ∧
      ∀ (i : Instr) (x : Byte × List Byte), systemBody i = some x ∨ engineBody i = some x → exec i s = .next s)) ∧
  ∀ s : State, s.phase = .running →
    let out (h : Holder) (ready : Bool) (n : Nat) : List Byte :=
      ((match h with
        | .ready r => if ready then r.frame else noneReply.frame
        | _ => noneReply.frame) ++ List.replicate n 0x00).take n
    (∀ (k j : Nat) (b : Byte), j < 8 →
      (s.sysp.sent[k]? = some b → sysDo s (.selected (8 * k + j)) = some (b.getMsbD j)) ∧
      (s.engp.sent[k]? = some b → engDo s (.selected (8 * k + j)) = some (b.getMsbD j))) ∧
    (∀ (i : Instr) (kind : Byte) (body : List Byte) (sel : Selection), i.selection = some sel →
      (systemBody i = some (kind, body) → ∃ t : State, exec i s = .next t ∧
        t.sysp.sent = out s.sysp.holder sel.ready (body.length + 3 + sel.filler)) ∧
      (engineBody i = some (kind, body) → ∃ t : State, exec i s = .next t ∧
        t.engp.sent = out (engHolder s) sel.ready (body.length + 3 + sel.filler))) ∧
    (∀ (frame : List Byte) (sel : Selection) (st : Status), judgeSystem sel frame = .failed st →
      byteAt frame 0 ≠ 0 →
      ∃ t : State, exec (.sysFrameRejected frame sel) s = .next t ∧ OnlyChanges [.sysp] s t ∧
        t.sysp.events = s.sysp.events ∧
        t.sysp.sent = out s.sysp.holder sel.ready ((byteAt frame 1).toNat + 3 + sel.filler) ∧
        SysReplied (holderMet s sel (byteAt frame 1).toNat) (byteAt frame 0) st [] t) ∧
    (∀ (received : List Byte) (ready : Bool), judgeSystem ⟨ready, 0⟩ received = .notWhole → received.head? ≠ some 0 →
      exec (.sysPartialSelection received ready) s = .next
        { s with sysp := { s.sysp with sent := out s.sysp.holder ready received.length } }) ∧
    (∀ (clocked : Nat) (ready : Bool), 0 < clocked →
      ∃ t : State, exec (.sysCollectSelection clocked ready) s = .next t ∧ OnlyChanges [.sysp] s t ∧
        t.sysp.events = s.sysp.events ∧
        (∀ r : Reply, s.sysp.holder = .ready r → ready = true → r.frame.length ≤ clocked →
          t.sysp.holder = .empty ∧ t.sysp.sent = r.frame ++ List.replicate (clocked - r.frame.length) 0) ∧
        (∀ r : Reply, s.sysp.holder = .ready r → ready = false ∨ clocked < r.frame.length →
          t.sysp.holder = s.sysp.holder) ∧
        (sysRdy s = false → t.sysp.holder = s.sysp.holder ∧
          t.sysp.sent = (noneReply.frame ++ List.replicate clocked 0).take clocked)) ∧
    (∀ (frame : List Byte) (sel : Selection) (st : Status), judgeEngine sel frame = .failed st →
      byteAt frame 0 ≠ 0 →
      ∃ t : State, exec (.engFrameRejected frame sel) s = .next t ∧ OnlyChanges [.engp] s t ∧
        t.engp = { s.engp with reply := t.engp.reply, sent := t.engp.sent } ∧
        t.engp.sent = out (engHolder s) sel.ready ((byteAt frame 1).toNat + 3 + sel.filler) ∧
        EngReplied (replyMet s sel (byteAt frame 1).toNat) (byteAt frame 0) st false false [] t) ∧
    (∀ (received : List Byte) (ready : Bool), judgeEngine ⟨ready, 0⟩ received = .notWhole → received.head? ≠ some 0 →
      exec (.engPartialSelection received ready) s = .next
        { s with engp := { s.engp with sent := out (engHolder s) ready received.length } }) ∧
    (∀ (clocked : Nat) (ready : Bool), 0 < clocked →
      ∃ t : State, exec (.engCollectSelection clocked ready) s = .next t ∧ OnlyChanges [.engp] s t ∧
        t.engp = { s.engp with reply := t.engp.reply, sent := t.engp.sent } ∧
        (∀ r : Reply, s.engp.reply = some r → ready = true → r.frame.length ≤ clocked →
          t.engp.reply = none ∧ t.engp.sent = r.frame ++ List.replicate (clocked - r.frame.length) 0) ∧
        (∀ r : Reply, s.engp.reply = some r → ready = false ∨ clocked < r.frame.length →
          t.engp.reply = s.engp.reply) ∧
        (s.engp.reply = none → t.engp.reply = none ∧
          t.engp.sent = (noneReply.frame ++ List.replicate clocked 0).take clocked))

/-! ### Cartridge bus -/

/-- The line actions of an attempt follow one another: the break, the backoff of a retry, the preamble, the message,
the wait with the command's deadline, and the taking of the reply within 8 ms. A framing error between the end of the
message and the end of the reply notes FRAMING and starts the discard; a deadline that expires during the discard notes
TIMEOUT, and the discard goes on. An address character in the backoff, the preamble, the hold or the discard, or on a free
line, is discarded and only returns the idle count to 0 (R45, R46, R48, R50, R52, R53, R55, R56, R58). That
REPLY_ADDRESS_CHARACTER while a reply is being taken only returns that count to 0 is no rule but the model's convention: the
reply's further characters, address characters among them, come with CBUS_REPLY_END, which notes LENGTH for a further address
character as R53 and R54 have it (notes/assumptions/10, with 9 and 28). The idle count of 1 after a message is that of its last stop bit; the run that
BACKOFF_COMPLETE carries and the 0 that a character leaves are the model's reading of R45 (notes/assumptions/10);
that it runs while the part is held in reset too is the model's choice (notes/assumptions/3). -/
def Obligations.LineActionsFollowOneAnother : Prop :=
  (∀ (s : State) (data : Byte), s.phase ≠ .off → s.cbc.line = none →
    exec (.replyAddressCharacter data) s = .next { s with cbc := { s.cbc with idle := 0 } } ∧
    exec .cbusFramingError s = .next { s with cbc := { s.cbc with idle := 0 } }) ∧
  ∀ (s : State) (tx : Transaction), s.phase = .running → s.cbc.line = some tx →
    (tx.action = .breaking → tx.attempt ≤ 1 →
      exec .breakEnd s = .next { s with cbc := { s.cbc with
        line := some { tx with action := .preamble, limit := some ⟨s.clock, 500⟩ }
        breakOwed := false, idle := 0, backoff := 0 } }) ∧
    (tx.action = .breaking → 1 < tx.attempt →
      exec .breakEnd s = .next { s with cbc := { s.cbc with
        line := some { tx with action := .backoff, limit := some ⟨s.clock, 500⟩ }
        breakOwed := false, idle := 0, backoff := 0 } }) ∧
    (∀ k : Nat, tx.action = .backoff → k ≤ 8 * tx.attempt →
      exec (.backoffComplete k) s = .next { s with cbc := { s.cbc with
        line := some (if 11 ≤ k then { tx with action := .sending 0, limit := none }
          else { tx with action := .preamble, limit := some ⟨s.clock, 500⟩ })
        idle := k, backoff := 8 * tx.attempt } }) ∧
    (tx.action = .preamble →
      exec .preambleComplete s = .next { s with cbc := { s.cbc with
        line := some { tx with action := .sending 0, limit := none }, idle := 11 } }) ∧
    (∀ k : Nat, tx.action = .sending k →
      exec .messageSent s = .next { s with cbc := { s.cbc with
        line := some { tx with
          action := .awaiting
          deadline := some ⟨s.clock, match tx.command with
            | .admission .readId | .writeBack .readUsage | .readArea _ _ _ => 300
            | .admission .challenge => 1000
            | .writeBack .addUsed | .writeBack .markSpent => 2500⟩ }
        idle := 1 } }) ∧
    (∀ data : Byte, tx.action = .awaiting →
      exec (.replyAddressCharacter data) s = .next { s with cbc := { s.cbc with
        line := some { tx with action := .taking data, deadline := none, limit := some ⟨s.clock, 800⟩ }
        idle := 0 } }) ∧
    (tx.action = .awaiting →
      exec .cbusFramingError s = .next { s with cbc := { s.cbc with
        line := some { tx with
          action := .discarding false, noted := .framing :: tx.noted, limit := some ⟨s.clock, 500⟩ }
        idle := 0 } }) ∧
    (∀ address : Byte, tx.action = .taking address →
      exec .cbusFramingError s = .next { s with cbc := { s.cbc with
        line := some { tx with
          action := .discarding true, noted := .framing :: tx.noted, limit := some ⟨s.clock, 500⟩ }
        idle := 0 } }) ∧
    (tx.action = .discarding false → tx.deadline.isSome = true →
      exec .replyDeadlineExpiry s = .next { s with cbc := { s.cbc with
        line := some { tx with noted := .timeout :: tx.noted, deadline := none } } }) ∧
    (∀ data : Byte, tx.action = .backoff ∨ tx.action = .preamble ∨ tx.action = .held ∨
        (∃ taken, tx.action = .discarding taken) →
      exec (.replyAddressCharacter data) s = .next { s with cbc := { s.cbc with idle := 0 } }) ∧
    (∀ data address : Byte, tx.action = .taking address →
      exec (.replyAddressCharacter data) s = .next { s with cbc := { s.cbc with idle := 0 } }) ∧
    (tx.action = .backoff ∨ tx.action = .preamble ∨ tx.action = .held ∨ (∃ taken, tx.action = .discarding taken) →
      exec .cbusFramingError s = .next { s with cbc := { s.cbc with idle := 0 } })

/-- When attempt 1 or 2 ends in failure, by a collision or by any other error, a break becomes owed and the next attempt
starts with that break and the same body, and nothing is handed over; a retried CHALLENGE sends a fresh challenge with the
next sequence number (R32, R33, R46, R49, R50 to R58). That the fresh challenge is built before that break is driven is
the model's reading (notes/assumptions/8). -/
def Obligations.AFailedAttemptStartsTheNext : Prop :=
  (∀ (s : State) (tx : Transaction) (i : Instr) (errors : List BusError), s.phase = .running → s.cbc.line = some tx →
    tx.attempt < 3 → tx.command ≠ .admission .challenge → attemptErrors i tx = some errors →
    ∃ t : State, exec i s = .next t ∧ OnlyChanges [.cbc] s t ∧
      t.cbc.line = some { tx with
        attempt := tx.attempt + 1, action := .breaking, noted := [], deadline := none, limit := none } ∧
      t.cbc.breakOwed = true ∧ t.cbc.queue = s.cbc.queue ∧ t.cbc.flush = s.cbc.flush) ∧
  (∀ (s : State) (tx : Transaction) (i : Instr) (errors : List BusError) (id : IdRecord), s.phase = .running →
    s.cbc.line = some tx → tx.attempt < 3 → tx.command = .admission .challenge → attemptErrors i tx = some errors →
    s.prf.identity[tx.slot] = some id →
    ∃ t : State, exec i s = .next t ∧ OnlyChanges [.cbc, .prf, .draws] s t ∧
      t.cbc.line = some { tx with
        attempt := tx.attempt + 1, action := .breaking, noted := [], deadline := none, limit := none
        body := challengeBytes (Config.randomBytes s.draws ++ s.prf.seqNo) } ∧
      t.cbc.breakOwed = true ∧ t.prf.seqNo = s.prf.seqNo + 1 ∧
      t.prf.ctx.challenge = some (Config.randomBytes s.draws ++ s.prf.seqNo) ∧
      t.prf.ctx.derivedKey = s.prf.ctx.derivedKey)

/-- A write-back operation whose third attempt fails, by whatever error, counts a failure, and the third failure in a row
loses contact (R16, R57, R100). An ADD_USED returns in-flight to pending as doubtful ink (R98), a READ_USAGE leaves the doubt
(R99), and both ask for a READ_USAGE again while contact lasts; a MARK_SPENT is asked for again if it is still due (R91). The
first two post WRITEBACK_FAILED with the error that stands highest; that it stands before the events of the contact loss is
the model's choice (notes/assumptions/17). -/
def Obligations.AThirdFailureOfAddUsedLeavesDoubt : Prop :=
  ∀ (s : State) (tx : Transaction) (i : Instr) (errors : List BusError) (a : Account), s.phase = .running →
    s.cbc.line = some tx → tx.attempt = 3 → attemptErrors i tx = some errors → s.accounts[tx.slot] = some a →
    let k := min 3 (a.failures + 1)
    let lost := k = 3 ∧ inAccountState s tx.slot = true
    let failed := postEvent s .writebackFailed (slotByte tx.slot) (reportedError errors).code (some (BitVec.ofNat 32 k))
    (tx.command = .writeBack .addUsed → 0 < a.inFlight →
      ∃ t : State, exec i s = .next t ∧ OnlyChanges resultParts s t ∧ OtherSlotsKept tx.slot s t ∧
        t.accounts[tx.slot] = some { a with
          pendingInk := a.pendingInk + a.inFlight, doubtful := a.inFlight, inFlight := 0, failures := k } ∧
        (s.sysp.events = [] → t.sysp.events.head? = some ⟨s.sysp.seq, .writebackFailed, slotByte tx.slot,
          (reportedError errors).code, some (BitVec.ofNat 32 k)⟩) ∧
        (s.sto.power ≠ .flushingBus → ¬ lost → t.sysp = failed.sysp) ∧
        (s.sto.power ≠ .flushingBus → lost → t.sysp =
          (postEvent (postEvent failed .slotState (slotByte tx.slot) (SlotState.rejected .contactLost).code
            (stateValue (.rejected .contactLost))) .alert (slotByte tx.slot) AlertCode.contactLost.code none).sysp) ∧
        (k < 3 → contactLost s tx.slot = false → opPlaced t tx.slot .readUsage) ∧
        t.cbc.breakOwed = true ∧
        t.slots[tx.slot].state = if lost then .rejected .contactLost else s.slots[tx.slot].state) ∧
    (tx.command = .writeBack .readUsage → 0 < a.doubtful →
      ∃ t : State, exec i s = .next t ∧ OnlyChanges resultParts s t ∧ OtherSlotsKept tx.slot s t ∧
        t.accounts[tx.slot] = some { a with failures := k } ∧
        (s.sto.power ≠ .flushingBus → ¬ lost → t.sysp = failed.sysp) ∧
        (k < 3 → contactLost s tx.slot = false → opPlaced t tx.slot .readUsage) ∧
        t.cbc.breakOwed = true ∧
        t.slots[tx.slot].state = if lost then .rejected .contactLost else s.slots[tx.slot].state) ∧
    (tx.command = .writeBack .markSpent →
      let due := k < 3 ∧ contactLost s tx.slot = false ∧ a.metered = true ∧ s.slots[tx.slot].state = .exhausted ∧
        a.pendingInk = 0 ∧ a.inFlight = 0 ∧ a.suspended = false ∧ (a.spent = .requested ∨ a.spent = .none)
      ∃ (t : State) (b : Account), exec i s = .next t ∧ OnlyChanges resultParts s t ∧ OtherSlotsKept tx.slot s t ∧
        t.accounts[tx.slot] = some b ∧ b.failures = k ∧ b.inFlight + b.pendingInk = a.inFlight + a.pendingInk ∧
        b.base = a.base ∧ b.confirmed = a.confirmed ∧ b.doubtful = a.doubtful ∧
        (due → b.spent = .requested ∧ opPlaced t tx.slot .markSpent) ∧
        (¬ due → b.spent = if a.spent = .requested then .none else a.spent) ∧
        (s.sto.power ≠ .flushingBus → ¬ lost → t.sysp = s.sysp) ∧
        t.cbc.breakOwed = true ∧
        t.slots[tx.slot].state = if lost then .rejected .contactLost else s.slots[tx.slot].state)

/-- An accepted ADD_USED reply (R95, R96, R97): a counter at or above the sum lands, and base + confirmed equals it
afterwards; a lower one suspends write-back and raises COUNTER_FELL; REFUSED_SPENT suspends it, finds the mark and posts
WRITEBACK_FAILED with REFUSED_SPENT as its code and the reply's counter as its value. An accepted READ_USAGE reply settles
the doubt (R99): at E nothing landed, at E + D the doubtful ink did, above it the base is raised to meet the counter, and
any other counter fell. An accepted MARK_SPENT reply leaves the account MARKED (R91). -/
def Obligations.AnAddUsedReplyIsSettled : Prop :=
  ∀ (s : State) (tx : Transaction) (address : Byte) (rest : List CbusChar) (st : CartStatus) (a : Account),
    s.phase = .running → s.cbc.line = some tx → tx.action = .taking address →
    replyErrors tx address rest = [] → replyStatus address = some st → s.accounts[tx.slot] = some a →
    let k := (counterOf (replyData rest)).toNat
    (tx.command = .writeBack .addUsed → tx.expected = a.base + a.confirmed → tx.amount = a.inFlight →
      ∃ t : State, exec (.cbusReplyEnd rest) s = .next t ∧ OnlyChanges resultParts s t ∧ OtherSlotsKept tx.slot s t ∧
        (st ≠ .refusedSpent → tx.expected + tx.amount ≤ k →
          ∃ b : Account, t.accounts[tx.slot] = some b ∧ b.base + b.confirmed = k ∧
            b.confirmed = a.confirmed + a.inFlight ∧ b.failures = 0 ∧ b.suspended = a.suspended ∧ b.cls = a.cls ∧
            b.inFlight + b.pendingInk = a.pendingInk) ∧
        (st ≠ .refusedSpent → k < tx.expected + tx.amount →
          t.accounts[tx.slot] = some { a with
            pendingInk := a.pendingInk + a.inFlight, inFlight := 0, suspended := true, failures := 0
            cls := if a.cls = .genuine then .suspectRefill else a.cls
            refill := if a.cls = .genuine then some .counterFell else a.refill } ∧
          t.slots[tx.slot].state = s.slots[tx.slot].state ∧
          t.slots[tx.slot].alert = some (s.slots[tx.slot].alert.getD .counterFell)) ∧
        (st = .refusedSpent →
          t.accounts[tx.slot] = some { a with
            pendingInk := a.pendingInk + a.inFlight, inFlight := 0, suspended := true, failures := 0
            cls := if a.spent ≠ .marked ∧ a.cls = .genuine then .suspectRefill else a.cls
            refill := if a.spent ≠ .marked ∧ a.cls = .genuine then some .spentButFull else a.refill
            spent := if a.spent = .marked then .marked else .found } ∧
          t.slots[tx.slot] = s.slots[tx.slot] ∧
          (s.sysp.events = [] → t.sysp.events.head? =
            some ⟨s.sysp.seq, .writebackFailed, slotByte tx.slot, 6, some (BitVec.ofNat 32 k)⟩) ∧
          (s.sto.power ≠ .flushingBus → t.sysp =
            (postEvent s .writebackFailed (slotByte tx.slot) 6 (some (BitVec.ofNat 32 k))).sysp))) ∧
    (tx.command = .writeBack .readUsage → a.doubtful ≤ a.pendingInk →
      ∃ (t : State) (b : Account), exec (.cbusReplyEnd rest) s = .next t ∧ OnlyChanges resultParts s t ∧
        OtherSlotsKept tx.slot s t ∧ t.accounts[tx.slot] = some b ∧ b.failures = 0 ∧ b.doubtful = 0 ∧
        (a.doubtful = 0 ∨ k = a.base + a.confirmed →
          b.base = a.base ∧ b.confirmed = a.confirmed ∧ b.inFlight + b.pendingInk = a.inFlight + a.pendingInk ∧
          b.suspended = a.suspended ∧ b.cls = a.cls) ∧
        (0 < a.doubtful → k = a.base + a.confirmed + a.doubtful →
          b.base = a.base ∧ b.confirmed = a.confirmed + a.doubtful ∧
          b.inFlight + b.pendingInk + a.doubtful = a.inFlight + a.pendingInk ∧ b.suspended = a.suspended ∧ b.cls = a.cls) ∧
        (0 < a.doubtful → a.base + a.confirmed + a.doubtful < k →
          b.base + b.confirmed = k ∧ b.confirmed = a.confirmed + a.doubtful ∧
          b.inFlight + b.pendingInk + a.doubtful = a.inFlight + a.pendingInk ∧ b.suspended = a.suspended ∧ b.cls = a.cls) ∧
        (0 < a.doubtful → k < a.base + a.confirmed + a.doubtful → k ≠ a.base + a.confirmed →
          b = { a with
            doubtful := 0, suspended := true, failures := 0
            cls := if a.cls = .genuine then .suspectRefill else a.cls
            refill := if a.cls = .genuine then some .counterFell else a.refill } ∧
          t.slots[tx.slot].alert = some (s.slots[tx.slot].alert.getD .counterFell))) ∧
    (tx.command = .writeBack .markSpent →
      ∃ (t : State) (b : Account), exec (.cbusReplyEnd rest) s = .next t ∧ OnlyChanges resultParts s t ∧
        t.slots = s.slots ∧ t.accounts[tx.slot] = some b ∧ b.spent = .marked ∧ b.failures = 0 ∧ b.base = a.base ∧
        b.confirmed = a.confirmed ∧ b.doubtful = a.doubtful ∧ b.inFlight + b.pendingInk = a.inFlight + a.pendingInk ∧
        b.suspended = a.suspended ∧ b.cls = a.cls)

/-- A READ_AREA reply is placed in the holder that awaits it, with the bytes read or as BAD_COMMAND, and its third failure
as BUS_ERROR with the error; a result that is not awaited is dropped (R154). The transaction then leaves the line, and the
arbiter starts the oldest entry: an admission step, a read, or the first operation of a write-back entry, whose others
move to the tail (R62, R64). An ADD_USED sends the expected total and the amount, which moves to in-flight, or nothing is
sent and the line stays free (R94). In flush mode the oldest entry that lists ADD_USED is served, by it alone, and every
other waits (R65). The idle count after a reply is 12: its last stop bit and the end-of-reply gap (R45, R53). One byte each for offset and
length in the reply (notes/assumptions/21) and a CHALLENGE built before a break that is owed (8) are the model's reading. -/
def Obligations.APassThroughReplyIsPlaced : Prop :=
  ∀ (s : State) (tx : Transaction) (o l : Byte) (tag : Nat), s.phase = .running → s.cbc.line = some tx →
    tx.command = .readArea o l tag →
    (∀ (i : Instr) (errors : List BusError), tx.attempt = 3 → attemptErrors i tx = some errors →
      ∃ t : State, exec i s = .next t ∧ OnlyChanges (arbiterParts ++ [.sysp, .his, .sto]) s t ∧ t.cbc.breakOwed = true ∧
        (∀ lost : Bool, s.sysp.holder = .waiting tag lost →
          t.sysp.holder = .ready ⟨0x8B, .busError, replyFlags lost (attn s) false false,
            [slotByte tx.slot, o, l, (reportedError errors).code]⟩) ∧
        ((∀ lost : Bool, s.sysp.holder ≠ .waiting tag lost) → t.sysp.holder = s.sysp.holder)) ∧
    ∀ (address : Byte) (rest : List CbusChar) (st : CartStatus), tx.action = .taking address →
      replyErrors tx address rest = [] → replyStatus address = some st →
      ∃ t : State, exec (.cbusReplyEnd rest) s = .next t ∧ OnlyChanges (arbiterParts ++ [.sysp, .his, .sto]) s t ∧
        (∀ lost : Bool, s.sysp.holder = .waiting tag lost →
          t.sysp.holder = .ready ⟨0x8B, if st = .done then .ok else .badCommand,
            replyFlags lost (attn s) false false,
            [slotByte tx.slot, o, l] ++ if st = .done then replyData rest else []⟩) ∧
        ((∀ lost : Bool, s.sysp.holder ≠ .waiting tag lost) → t.sysp.holder = s.sysp.holder) ∧
        (s.cbc.queue = [] → t.cbc = { s.cbc with line := none, idle := 12 } ∧ t.accounts = s.accounts) ∧
        (s.cbc.flush = false →
          (∀ (n : SlotId) (q : List QEntry), s.cbc.queue = .admission n .readId :: q →
            t.cbc.queue = q ∧ Begun t n (.admission .readId) []) ∧
          (∀ (n : SlotId) (q : List QEntry) (id : IdRecord), s.cbc.queue = .admission n .challenge :: q →
            s.prf.identity[n] = some id → t.cbc.queue = q ∧
              Begun t n (.admission .challenge) (challengeBytes (Config.randomBytes s.draws ++ s.prf.seqNo))) ∧
          (∀ (n : SlotId) (a b : Byte) (g : Nat) (q : List QEntry), s.cbc.queue = .passThrough n a b g :: q →
            t.cbc.queue = q ∧ Begun t n (.readArea a b g) [a, b]) ∧
          (∀ (n : SlotId) (op : WbOp) (ops : List WbOp) (q : List QEntry),
            s.cbc.queue = .writeBack n (op :: ops) :: q →
            (op ≠ .addUsed → t.cbc.queue = q ++ (if ops = [] then [] else [.writeBack n ops]) ∧
              Begun t n (.writeBack op) []) ∧
            (∀ a : Account, op = .addUsed → canSend s n a →
              t.cbc.queue = q ++ (if ops = [] then [] else [.writeBack n ops]) ∧ AddUsedBegun s t n a) ∧
            (op = .addUsed → (¬ ∃ a : Account, canSend s n a) → q = [] → ops = [] →
              t.cbc = { s.cbc with line := none, queue := [], idle := 12 } ∧ t.accounts = s.accounts))) ∧
        (s.cbc.flush = true →
          (∀ (before after : List QEntry) (n : SlotId) (ops : List WbOp) (a : Account),
            s.cbc.queue = before ++ .writeBack n ops :: after →
            (∀ (m : SlotId) (l : List WbOp), QEntry.writeBack m l ∈ before → WbOp.addUsed ∉ l) → WbOp.addUsed ∈ ops →
            canSend s n a →
            t.cbc.queue = before ++ after ++
              (if ops.erase .addUsed = [] then [] else [.writeBack n (ops.erase .addUsed)]) ∧ AddUsedBegun s t n a) ∧
          ((∀ (m : SlotId) (l : List WbOp), QEntry.writeBack m l ∈ s.cbc.queue → WbOp.addUsed ∉ l) →
            t.cbc = { s.cbc with line := none, idle := 12 } ∧ t.accounts = s.accounts))

/-! ### Proving -/

/-- A READ_ID that comes back for a READING slot is judged by the eight checks: the first that fails rejects the slot with
the alert of its name, and a block that passes them all is kept and goes to PROVING, with CHALLENGE as its admission step; a
reply that is a status alone is MALFORMED, and a third failure, by whatever error, NO_RESPONSE (R7, R8, R26, R27). -/
def Obligations.AnIdentityBlockIsJudged : Prop :=
  ∀ (s : State) (tx : Transaction), s.phase = .running → s.cbc.line = some tx → tx.command = .admission .readId →
    s.slots[tx.slot].state = .reading →
    (∀ (address : Byte) (rest : List CbusChar) (st : CartStatus), tx.action = .taking address →
      replyErrors tx address rest = [] → replyStatus address = some st →
      ∃ t : State, exec (.cbusReplyEnd rest) s = .next t ∧ OnlyChanges resultParts s t ∧ OtherSlotsKept tx.slot s t ∧
        (∀ why : Reason,
          (if st = .done then identityFailure s tx.slot (replyData rest) else some .malformed) = some why →
          t.slots[tx.slot].state = .rejected why ∧
          t.slots[tx.slot].alert = some (s.slots[tx.slot].alert.getD why.alert)) ∧
        (st = .done → identityFailure s tx.slot (replyData rest) = none →
          t.slots[tx.slot].state = .proving ∧ t.slots[tx.slot].alert = s.slots[tx.slot].alert ∧
          t.prf.identity[tx.slot] = some (readBlock (replyData rest)) ∧
          (tx.slot, AdmissionStep.challenge) ∈ admissionWork t)) ∧
    (∀ (i : Instr) (errors : List BusError), tx.attempt = 3 → attemptErrors i tx = some errors →
      ∃ t : State, exec i s = .next t ∧ OnlyChanges resultParts s t ∧ OtherSlotsKept tx.slot s t ∧
        t.slots[tx.slot].state = .rejected .noResponse ∧
        t.slots[tx.slot].alert = some (s.slots[tx.slot].alert.getD .noResponse))

/-- The derived key is KD of the master key over serial and key index (R35): a CHALLENGE that starts, as after a block
that passes on an otherwise empty queue, binds the proof context with a fresh challenge and puts that digest in the engine
(R33, R34; that this comes before a break that is owed is the model's reading, notes/assumptions/8); when it ends its
value is the derived key, and the response digest follows at once if the reply has been taken, over challenge, serial,
counter and flags under the key written twice (R36). -/
def Obligations.TheDerivedKeyServesTheResponseDigest : Prop :=
  (∀ (s : State) (tx : Transaction) (address : Byte) (rest : List CbusChar) (id : IdRecord) (k : Fin 4)
    (master : BitVec 128), s.phase = .running → s.cbc.line = some tx → tx.command = .admission .readId →
    tx.action = .taking address → replyErrors tx address rest = [] → replyStatus address = some .done →
    s.slots[tx.slot].state = .reading → identityFailure s tx.slot (replyData rest) = none →
    s.cbc.queue = [] → s.cbc.flush = false →
    id = readBlock (replyData rest) → id.keyIndex.toNat = k.val → s.prf.keys[k] = some master →
    ∃ t : State, exec (.cbusReplyEnd rest) s = .next t ∧ OnlyChanges resultParts s t ∧
      t.prf.digest = some (.derivedKey master (be64 id.serial ++ [id.keyIndex])) ∧
      t.prf.ctx.slot = some tx.slot ∧ t.prf.ctx.phase = .awaitingReply ∧ t.prf.ctx.derivedKey = .computing ∧
      t.prf.ctx.challenge = some (Config.randomBytes s.draws ++ s.prf.seqNo) ∧ t.prf.seqNo = s.prf.seqNo + 1 ∧
      Begun t tx.slot (.admission .challenge) (challengeBytes (Config.randomBytes s.draws ++ s.prf.seqNo))) ∧
  ∀ (s : State) (key : BitVec 128) (message : List Byte), s.phase = .running →
    s.prf.digest = some (.derivedKey key message) →
    (s.prf.ctx.phase ≠ .checking →
      exec .derivedKeyDigestComplete s = .next { s with prf := { s.prf with
        digest := none, ctx := { s.prf.ctx with derivedKey := .value (Config.kd key message) } } }) ∧
    (∀ (n : SlotId) (ch : BitVec 96) (c : Word) (f : Byte) (id : IdRecord), s.prf.ctx.phase = .checking →
      s.prf.ctx.slot = some n → s.prf.ctx.challenge = some ch → s.prf.ctx.counter = some c →
      s.prf.ctx.flags = some f → s.prf.identity[n] = some id →
      exec .derivedKeyDigestComplete s = .next { s with prf := { s.prf with
        digest := some (.response (Config.kd key message ++ Config.kd key message)
          (challengeBytes ch ++ be64 id.serial ++ be32 c ++ [f]))
        ctx := { s.prf.ctx with derivedKey := .value (Config.kd key message), expected := .computing } } })

/-- An accepted CHALLENGE reply of status DONE is held on the line while the response is checked, and its digest starts
once the derived key is ready; a status alone is a MISMATCH with counter 0 (R34, R36, R37, R59), and a third failure
NO_RESPONSE (R38). When the response digest ends, an equal response proves the cartridge and it is reconciled (R133);
another is a MISMATCH, refused under BLOCK and opened unmetered under ALLOW_UNMETERED (R8, R37). Refused, the slot takes the
alert of the reason's name; opened, the account has the opening figures, the catch-up pending or in flight and the level
computed, and EXHAUSTED, then REFILL_SUSPECT with its reason as value, are raised after the moves' SLOT_STATE events (R9, R18,
R83, R87, R137). The gate line then stands as its condition says, no other changing (R107). The base and spent state after a
status alone are the model's reading (notes/assumptions/29). Reconciliation: the catch-up is what the counter lacks of the
seen entry's consumed view, the refill reason that of the first check to trigger, spent but full, retired serial, counter
fell, filter match, and the outcome goes by REJECT of the filters, then by the suspect policy, then by what is left of the
capacity (R134 to R137). A filter's signal is its match, with the signal before it where it is chained; REJECT of an enabled
entry with a signal stands before SUSPECT; and a match compares the CRC-16 of the bytes selected, none above 61, four further
on in version 2 from offset 12 (R140 to R143). -/
def Obligations.TheResponseDecidesTheProof : Prop :=
  (∀ (s : State) (tx : Transaction) (id : IdRecord), s.phase = .running → s.cbc.line = some tx →
    tx.command = .admission .challenge → s.prf.ctx.slot = some tx.slot → s.prf.identity[tx.slot] = some id →
    s.accounts[tx.slot] = none →
    (∀ (address : Byte) (rest : List CbusChar) (st : CartStatus), tx.action = .taking address →
      replyErrors tx address rest = [] → replyStatus address = some st →
      (st = .done → ∃ t : State, exec (.cbusReplyEnd rest) s = .next t ∧ OnlyChanges [.cbc, .prf] s t ∧
        t.cbc = { s.cbc with line := some { tx with action := .held, limit := none }, idle := 12 } ∧
        t.prf.ctx.phase = .checking ∧ t.prf.ctx.response = some (responseOf (replyData rest)) ∧
        t.prf.ctx.counter = some (word (replyData rest) 8) ∧ t.prf.ctx.flags = some (byteAt (replyData rest) 12) ∧
        (∀ (key : BitVec 64) (ch : BitVec 96), s.prf.ctx.derivedKey = .value key → s.prf.ctx.challenge = some ch →
          t.prf.digest = some (.response (key ++ key) (challengeBytes ch ++ be64 id.serial ++
            be32 (word (replyData rest) 8) ++ [byteAt (replyData rest) 12]))) ∧
        (s.prf.ctx.derivedKey = .computing → t.prf.digest = s.prf.digest)) ∧
      (st ≠ .done → ∃ t : State, exec (.cbusReplyEnd rest) s = .next t ∧ OnlyChanges resultParts s t ∧
        OtherSlotsKept tx.slot s t ∧ t.prf.identity[tx.slot] = none ∧
        t.slots[tx.slot].alert = some (s.slots[tx.slot].alert.getD .authFailed) ∧ GateFollows tx.slot s t ∧
        (s.settings.nonGenuine = .block → t.slots[tx.slot].state = .rejected .authFailed ∧
          t.accounts[tx.slot] = none) ∧
        (s.settings.nonGenuine = .allowUnmetered →
          t.slots[tx.slot].state = (if s.slots[tx.slot].target = .parked then .parked else .ready) ∧
          ∃ b : Account, t.accounts[tx.slot] = some b ∧ b.serial = id.serial ∧ b.cls = .nonGenuine ∧
            b.metered = false ∧ b.base = 0 ∧ b.level = .unknown ∧ b.spent = .none))) ∧
    (∀ (i : Instr) (errors : List BusError), tx.attempt = 3 → attemptErrors i tx = some errors →
      ∃ t : State, exec i s = .next t ∧ OnlyChanges resultParts s t ∧ OtherSlotsKept tx.slot s t ∧
        t.slots[tx.slot].state = .rejected .noResponse ∧
        t.slots[tx.slot].alert = some (s.slots[tx.slot].alert.getD .noResponse) ∧ GateFollows tx.slot s t ∧
        t.accounts[tx.slot] = none ∧ t.prf.identity[tx.slot] = none)) ∧
  (∀ (s : State) (key : BitVec 128) (message : List Byte) (n : SlotId) (c : Word) (f : Byte) (id : IdRecord),
    s.phase = .running → s.prf.digest = some (.response key message) → s.prf.ctx.slot = some n →
    s.prf.ctx.counter = some c → s.prf.ctx.flags = some f → s.prf.identity[n] = some id → s.accounts[n] = none →
    let moved (u : State) (st : SlotState) : State := postEvent u .slotState (slotByte n) st.code (stateValue st)
    let raised (u : State) (a : AlertCode) (v : Option Word) : State := postEvent u .alert (slotByte n) a.code v
    ∃ t : State, exec .responseDigestComplete s = .next t ∧ OnlyChanges resultParts s t ∧ OtherSlotsKept n s t ∧
      t.prf.identity[n] = none ∧ t.slots[n].target = s.slots[n].target ∧ GateFollows n s t ∧
      (s.prf.ctx.response = some (Config.kd key message) →
        (∀ why : Reason, reconcile s id c.toNat (f.getLsbD 0) = .reject why →
          t.slots[n].state = .rejected why ∧ t.accounts[n] = none ∧
          t.slots[n].alert = some (s.slots[n].alert.getD why.alert) ∧
          (s.sto.power ≠ .flushingBus →
            t.sysp = (raised (moved (moved s .reconciling) (.rejected why)) why.alert none).sysp)) ∧
        (∀ (empty : Bool) (cls : AccountClass) (refill : Option RefillReason) (k : Nat),
          reconcile s id c.toNat (f.getLsbD 0) = .opens empty cls refill k →
          let st : SlotState := if s.slots[n].target = .parked then .parked else if empty then .exhausted else .ready
          let alerts : List (AlertCode × Option Word) := (if empty then [(.exhausted, none)] else []) ++
            (match refill with | some r => [(.refillSuspect, some (r.code.setWidth 32))] | none => [])
          let cap := id.capacity.toNat
          let h := cap - (c.toNat + k)
          t.slots[n].state = st ∧
          t.slots[n].alert = s.slots[n].alert.or (alerts.head?.map (·.1)) ∧
          t.slots[n].alertCount = (if alerts = [] then s.slots[n].alertCount
            else if s.slots[n].alert = none then alerts.length - 1
            else min 15 (s.slots[n].alertCount + alerts.length)) ∧
          (s.sto.power ≠ .flushingBus → t.sysp =
            (alerts.foldl (fun u x => raised u x.1 x.2) (moved (moved s .reconciling) st)).sysp) ∧
          (0 < k → c.toNat < 4294967295 → opPlaced t n .addUsed) ∧
          ∃ b : Account, t.accounts[n] = some b ∧ b.inFlight + b.pendingInk = k ∧
            b = { serial := id.serial, capacity := cap, keyIndex := id.keyIndex, version := id.version, cls := cls
                  refill := refill, metered := true, base := c.toNat, catchUp := k, confirmed := 0
                  inFlight := b.inFlight, pendingInk := b.pendingInk, doubtful := 0, residue := 0, dropTotal := 0
                  purgeTotal := 0, failures := 0, suspended := false
                  spent := if f.getLsbD 0 then .found else if st = .exhausted ∧ k = 0 then .requested else .none
                  level := if h = 0 then .empty else if h ≤ cap * s.settings.limits.reserve / 100 then .reserve
                    else if h ≤ cap * s.settings.limits.low / 100 then .low else .normal })) ∧
      (s.prf.ctx.response ≠ some (Config.kd key message) →
        (s.settings.nonGenuine = .block → t.slots[n].state = .rejected .authFailed ∧ t.accounts[n] = none) ∧
        (s.settings.nonGenuine = .allowUnmetered →
          t.slots[n].state = (if s.slots[n].target = .parked then .parked else .ready) ∧
          ∃ b : Account, t.accounts[n] = some b ∧ b.serial = id.serial ∧ b.cls = .nonGenuine ∧ b.metered = false ∧
            b.base = c.toNat ∧ b.level = .unknown ∧ b.inFlight = 0 ∧ b.pendingInk = 0 ∧
            b.spent = if f.getLsbD 0 then .found else .none) ∧
        t.slots[n].alert = some (s.slots[n].alert.getD .authFailed) ∧
        (s.sto.power ≠ .flushingBus → t.sysp = (raised (moved s t.slots[n].state) .authFailed none).sysp))) ∧
  (∀ (s : State) (id : IdRecord) (c : Nat) (spent : Bool), HistorySafe s →
    let cap := id.capacity.toNat
    let full := spent = true ∧ c < cap
    let retired := ∃ (p : Fin 64) (e : RetiredEntry), s.his.retired[p] = some e ∧ e.serial = id.serial
    let fell := ∃ (p : Fin 32) (e : SeenEntry), s.his.seen[p] = some e ∧ e.serial = id.serial ∧
      c < e.consumed - e.unwritten
    ∃ (k : Nat) (why : Option RefillReason),
      (∀ (p : Fin 32) (e : SeenEntry), s.his.seen[p] = some e → e.serial = id.serial → k = e.consumed - c) ∧
      ((∀ (p : Fin 32) (e : SeenEntry), s.his.seen[p] = some e → e.serial ≠ id.serial) → k = 0) ∧
      (full → why = some .spentButFull) ∧
      (¬ full → retired → why = some .retiredSerial) ∧
      (¬ full → ¬ retired → fell → why = some .counterFell) ∧
      (¬ full → ¬ retired → ¬ fell →
        why = if filterDecision s id = .suspect then some .filterMatch else none) ∧
      reconcile s id c spent =
        (if filterDecision s id = .reject then .reject .filterReject
        else if why ≠ none ∧ s.settings.suspect = .block then .reject .refillBlocked
        else .opens (decide (cap ≤ c + k)) (if why = none then .genuine else .suspectRefill) why k)) ∧
  (∀ (s : State) (id : IdRecord), ∃ signal : Fin 6 → Bool,
    (∀ e : Fin 6, signal e = true ↔ filterMatch s.his.filters[e] id = true ∧
      (s.his.filters[e].chain = true → ∀ d : Fin 6, d.val + 1 = e.val → signal d = true)) ∧
    let acts (a : FilterAction) : Prop :=
      ∃ e : Fin 6, s.his.filters[e].enabled = true ∧ signal e = true ∧ s.his.filters[e].action = a
    (filterDecision s id = .reject ↔ acts .reject) ∧
    (filterDecision s id = .suspect ↔ acts .suspect ∧ ¬ acts .reject)) ∧
  ∀ (f : Filter) (id : IdRecord),
    let first := f.offset.toNat + if id.version = 2 ∧ 12 ≤ f.offset.toNat then 4 else 0
    let bytes := ((List.range 24).filter fun k => f.mask.getLsbD k && decide (first + k ≤ 61)).map fun k =>
      byteAt id.raw (first + k)
    filterMatch f id = true ↔ bytes ≠ [] ∧ (crc16 bytes = f.expected ↔ f.invert = false)

/-! ### Metering -/

/-- Over any run of fine volumes, the microlitres debited and the residue left are quotient and remainder of the whole
sum, however the run is divided (R76). The working temperature T is the carried temperature held to 95 (R72). F lies in
2,048..6,144 and is 4,096 when κ is 0 or T is 30; P, Q, the sum t of residue and Q, and d lie in the ranges the manual
gives, and Q is 0 exactly when no drop was fired (R72 to R76). -/
def Obligations.MeteringLosesNothing : Prop :=
  (∀ (r : Nat) (qs : List Nat), r < unitsPerMicrolitre →
    qs.foldl (fun (x : Nat × Nat) q => (x.1 + (carry x.2 q).1, (carry x.2 q).2)) (0, r) =
      ((r + qs.sum) / unitsPerMicrolitre, (r + qs.sum) % unitsPerMicrolitre)) ∧
  (∀ carried : Byte, workingTemperature carried ≤ 95 ∧
    (carried.toNat ≤ 95 → workingTemperature carried = carried.toNat) ∧
    (95 < carried.toNat → workingTemperature carried = 95)) ∧
  ((∀ (kappa carried : Byte), 2048 ≤ temperatureFactor kappa (workingTemperature carried) ∧
    temperatureFactor kappa (workingTemperature carried) ≤ 6144 ∧
    (kappa = 0 ∨ workingTemperature carried = 30 → temperatureFactor kappa (workingTemperature carried) = 4096)) ∧
  (∀ (c : Calibration) (e : DropEntry) (carried : Byte) (r : Nat),
    calibrationInRange c.vS c.vM c.vL c.kappa = true → r < unitsPerMicrolitre →
    rawVolume c e ≤ 201126915 ∧ fineVolume c e (workingTemperature carried) ≤ 1235723765760 ∧
    (fineVolume c e (workingTemperature carried) = 0 ↔ e.small = 0 ∧ e.medium = 0 ∧ e.large = 0) ∧
    r + fineVolume c e (workingTemperature carried) ≤ 1301259765759 ∧
    (carry r (fineVolume c e (workingTemperature carried))).1 ≤ 19 ∧
    (carry r (fineVolume c e (workingTemperature carried))).2 < unitsPerMicrolitre))

/-- A DROP_REPORT of 1 to 10 entries debits whole microlitres to the account each entry names, in the entries' order, keeps
the residue, and answers for each entry with its debit, then with the gate mask; in-flight and pending together rise by the
debit. In the named swath the slot's figure debited rises by it, and its hold, while the swath is OPEN, falls by it down to 0
(R71, R76, R77, R110 to R112). An entry without an account changes no account; a running watchdog restarts whatever the
entries name (R113, R115). -/
def Obligations.ADropReportDebitsTheAccount : Prop :=
  ∀ (s : State) (id carried : Byte) (entries : List DropEntry) (sel : Selection), s.phase = .running →
    1 ≤ entries.length → entries.length ≤ 10 →
    let temp := min carried.toNat 95
    ∃ (t : State) (ds : List Nat), exec (.dropReport id carried entries sel) s = .next t ∧ OnlyChanges debitParts s t ∧
      (s.engp.watchdog.isSome = true → t.engp.watchdog = some ⟨s.clock, 100 * s.settings.limits.window⟩) ∧
      (s.engp.watchdog = none → t.engp.watchdog = none) ∧
      (∀ m : SlotId, (∀ e ∈ entries, slotOf e.slot ≠ some m) → t.slots[m] = s.slots[m]) ∧
      ds.length = entries.length ∧
      EngReplied (replyMet s sel (2 + 7 * entries.length)) 0x22 (reportStatus s id) false (decide (95 < carried.toNat))
        ((entries.zip ds).flatMap (fun x =>
          [x.1.slot, if (entryAccount s x.1.slot).isSome then 0x00 else 0x06, yesNo (offSwath s id x.1.slot)] ++ u16 x.2) ++
          be16 (gateMask t)) t ∧
      (∀ (i : Nat) (e : DropEntry), entries[i]? = some e →
        (entryAccount s e.slot = none → ds[i]? = some 0) ∧
        ∀ (n : SlotId) (a : Account), slotOf e.slot = some n → s.accounts[n] = some a → a.residue < unitsPerMicrolitre →
          ds[i]? = some ((a.residue + fineSum s n temp (entries.take (i + 1))) / unitsPerMicrolitre -
            (a.residue + fineSum s n temp (entries.take i)) / unitsPerMicrolitre)) ∧
      ((∀ e ∈ entries, entryAccount s e.slot = none) → OnlyChanges [.engp] s t ∧ t.engp.table = s.engp.table ∧
        t.engp.gates = s.engp.gates ∧ t.engp.purges = s.engp.purges) ∧
      ∀ (n : SlotId) (a : Account), s.accounts[n] = some a →
        let d := (a.residue + fineSum s n temp entries) / unitsPerMicrolitre
        (∃ b : Account, t.accounts[n] = some b ∧
          ((∃ e ∈ entries, slotOf e.slot = some n) →
            b.residue = (a.residue + fineSum s n temp entries) % unitsPerMicrolitre ∧
            b.dropTotal = a.dropTotal + d ∧ b.inFlight + b.pendingInk = a.inFlight + a.pendingInk + d) ∧
          ((∀ e ∈ entries, slotOf e.slot ≠ some n) → b.residue = a.residue ∧ b.dropTotal = a.dropTotal ∧
            b.inFlight + b.pendingInk = a.inFlight + a.pendingInk) ∧
          b.base = a.base ∧ b.confirmed = a.confirmed ∧ b.purgeTotal = a.purgeTotal ∧ b.catchUp = a.catchUp) ∧
        (SwathsSafe s → holds s n ≤ holdLimit s n → a.residue < unitsPerMicrolitre →
          ∀ w : Swath, swathOf s id = some w →
            ∃ w' : Swath, swathOf t id = some w' ∧ w'.state = w.state ∧
              w'.slots.map (·.slot) = w.slots.map (·.slot) ∧
              holdOf w' n = (if w.state = .opened then holdOf w n - d else holdOf w n) ∧
              debitedOf w' n = (if d = 0 ∨ lists w n = false then debitedOf w n
                else min 4294967295 (debitedOf w n + d)))

/-! ### Engine port -/

/-- OPEN_SWATH is all or nothing: granted, one entry with a hold for each metered slot joins the table and its timer
starts; refused, nothing but the reply changes; the conditions are judged in the order of R109. The reply's layout, the
slots' fields in the order asked without slot numbers, and the code of an UNKNOWN available are the model's reading of
R186 (notes/assumptions/21). -/
def Obligations.OpenSwathIsAllOrNothing : Prop :=
  ∀ (s : State) (id : Byte) (asks : List SwathAsk) (sel : Selection), s.phase = .running →
    (swathAsks id asks = none →
      ∃ t : State, exec (.openSwath id asks sel) s = .next t ∧ OnlyChanges [.engp] s t ∧
        t.engp = { s.engp with reply := t.engp.reply, sent := t.engp.sent } ∧
        EngReplied (replyMet s sel (2 + 3 * asks.length)) 0x21 .range false false [] t) ∧
    (∀ (l : List (SlotId × Nat)) (st : Status), swathAsks id asks = some l → swathRefusal s id = some st →
      ∃ t : State, exec (.openSwath id asks sel) s = .next t ∧ OnlyChanges [.engp] s t ∧
        t.engp = { s.engp with reply := t.engp.reply, sent := t.engp.sent } ∧
        EngReplied (replyMet s sel (2 + 3 * asks.length)) 0x21 st false false [] t) ∧
    (∀ l : List (SlotId × Nat), swathAsks id asks = some l → swathRefusal s id = none →
      (∃ x ∈ l, askStatus s x ≠ .ok) →
      ∃ t : State, exec (.openSwath id asks sel) s = .next t ∧ OnlyChanges [.engp] s t ∧
        t.engp = { s.engp with reply := t.engp.reply, sent := t.engp.sent } ∧
        EngReplied (replyMet s sel (2 + 3 * asks.length)) 0x21 .slotsRefused false false
          (l.flatMap fun x => (askStatus s x).code :: availableField s x.1) t) ∧
    (∀ l : List (SlotId × Nat), swathAsks id asks = some l → swathRefusal s id = none →
      (∀ x ∈ l, askStatus s x = .ok) →
      ∃ t : State, exec (.openSwath id asks sel) s = .next t ∧ OnlyChanges [.engp] s t ∧
        t.engp.table = s.engp.table ++ [⟨id, .opened,
          l.map (fun x => ⟨x.1, if meteredSlot s x.1 then x.2 else 0, 0⟩),
          some ⟨s.clock, 100000 * s.settings.limits.swath⟩⟩] ∧
        t.engp.watchdog =
          (if anyOpen s then s.engp.watchdog else some ⟨s.clock, 100 * s.settings.limits.window⟩) ∧
        t.engp.purges = s.engp.purges ∧ t.engp.gates = s.engp.gates ∧ t.engp.expired = s.engp.expired ∧
        EngReplied (replyMet s sel (2 + 3 * asks.length)) 0x21 .ok false false
          (l.flatMap fun x => availableField t x.1) t)

/-- CLOSE_SWATH removes the entry with its holds, is a write-back trigger for the slots it lists, stops the watchdog when
none is left OPEN, and clears the expired flag when the table is empty, after which the gates follow their condition; with
no such entry it changes nothing but the reply (R92, R107, R114, R115, R116). -/
def Obligations.CloseSwathRemovesTheEntry : Prop :=
  ∀ (s : State) (id : Byte) (sel : Selection), s.phase = .running →
    (∀ w : Swath, swathOf s id = some w →
      ∃ t : State, exec (.closeSwath id sel) s = .next t ∧ OnlyChanges (arbiterParts ++ [.engp]) s t ∧
        t.engp.table = s.engp.table.filter (·.id != id) ∧ t.engp.purges = s.engp.purges ∧
        t.engp.watchdog = (if anyOpen t then s.engp.watchdog else none) ∧
        t.engp.expired = (s.engp.expired && !t.engp.table.isEmpty) ∧
        (t.engp.expired = s.engp.expired → t.engp.gates = s.engp.gates) ∧
        (t.engp.expired ≠ s.engp.expired → ∀ n : SlotId, t.engp.gates[n] = gateCondition t n) ∧
        (s.cbc.line.isSome = true → t.cbc.line = s.cbc.line ∧ t.accounts = s.accounts ∧
          ∀ l ∈ w.slots, triggerDue s l.slot = true →
            ∃ ops, QEntry.writeBack l.slot ops ∈ t.cbc.queue ∧ WbOp.addUsed ∈ ops) ∧
        (∀ (l : Listed) (a : Account), w.slots = [l] → triggerDue s l.slot = true → s.cbc.line = none →
          s.cbc.queue = [] → s.cbc.flush = false → canSend s l.slot a → AddUsedBegun s t l.slot a) ∧
        EngReplied (replyMet s sel 1) 0x23 .ok false false
          (w.state.code :: w.slots.flatMap fun l => slotByte l.slot :: u32 l.debited) t) ∧
    (swathOf s id = none →
      ∃ t : State, exec (.closeSwath id sel) s = .next t ∧ OnlyChanges [.engp] s t ∧
        t.engp = { s.engp with reply := t.engp.reply, sent := t.engp.sent } ∧
        EngReplied (replyMet s sel 1) 0x23 .unknownSwath false false [] t)

/-- PURGE_START is judged in the order of R118; granted, the slot's record is held with the amount and a running timer;
refused, nothing but the reply changes. The code of an UNKNOWN available is the model's choice (notes/assumptions/21). -/
def Obligations.PurgeStartHoldsThePurge : Prop :=
  ∀ (s : State) (slot : Byte) (amount : Half) (sel : Selection), s.phase = .running →
    (slotOf slot = none ∨ amount.toNat < 1 ∨ 4000 < amount.toNat →
      ∃ t : State, exec (.purgeStart slot amount sel) s = .next t ∧ OnlyChanges [.engp] s t ∧
        t.engp = { s.engp with reply := t.engp.reply, sent := t.engp.sent } ∧
        EngReplied (replyMet s sel 3) 0x24 .range false false [] t) ∧
    (∀ (n : SlotId) (st : Status), slotOf slot = some n → 1 ≤ amount.toNat → amount.toNat ≤ 4000 →
      purgeRefusal s n amount.toNat = some st →
      ∃ t : State, exec (.purgeStart slot amount sel) s = .next t ∧ OnlyChanges [.engp] s t ∧
        t.engp = { s.engp with reply := t.engp.reply, sent := t.engp.sent } ∧
        EngReplied (replyMet s sel 3) 0x24 st false false
          (if st = .short then availableField s n else []) t) ∧
    (∀ n : SlotId, slotOf slot = some n → 1 ≤ amount.toNat → amount.toNat ≤ 4000 →
      purgeRefusal s n amount.toNat = none →
      ∃ t : State, exec (.purgeStart slot amount sel) s = .next t ∧ OnlyChanges [.engp] s t ∧
        t.engp = { s.engp with
          purges := put s.engp.purges n (some ⟨amount.toNat, if meteredSlot s n then amount.toNat else 0,
            ⟨s.clock, 100000 * s.settings.limits.purge⟩⟩)
          reply := t.engp.reply, sent := t.engp.sent } ∧
        EngReplied (replyMet s sel 3) 0x24 .ok false false (availableField t n) t)

/-- PURGE_END debits the actual amount, at most 4,000 µL, and PURGE_TIMER_EXPIRY the requested amount and posts
PURGE_ASSUMED; both clear the record first, and the debit raises the purge total, and in-flight and pending together. A
PURGE_END with the record clear debits nothing, and one with a slot outside 0..9 is refused RANGE (R80, R84, R119, R120). -/
def Obligations.APurgeIsDebitedOnce : Prop :=
  (∀ (s : State) (slot : Byte) (actual : Half) (sel : Selection), s.phase = .running → slotOf slot = none →
    ∃ t : State, exec (.purgeEnd slot actual sel) s = .next t ∧ OnlyChanges [.engp] s t ∧
      t.engp = { s.engp with reply := t.engp.reply, sent := t.engp.sent } ∧
      EngReplied (replyMet s sel 3) 0x25 .range false false [] t) ∧
  ∀ (s : State) (n : SlotId), s.phase = .running →
    (∀ (slot : Byte) (actual : Half) (sel : Selection) (p : Purge), slotOf slot = some n →
      s.engp.purges[n] = some p →
      ∃ t : State, exec (.purgeEnd slot actual sel) s = .next t ∧ OnlyChanges debitParts s t ∧ OtherSlotsKept n s t ∧
        t.engp.purges[n] = none ∧
        (∀ a : Account, s.accounts[n] = some a → ∃ b : Account, t.accounts[n] = some b ∧
          b.inFlight + b.pendingInk = a.inFlight + a.pendingInk + min actual.toNat 4000 ∧
          b.purgeTotal = a.purgeTotal + min actual.toNat 4000 ∧ b.dropTotal = a.dropTotal ∧ b.residue = a.residue ∧
          b.base = a.base ∧ b.confirmed = a.confirmed) ∧
        EngReplied (replyMet s sel 3) 0x25 .ok (decide (4000 < actual.toNat)) false (u16 (min actual.toNat 4000)) t) ∧
    (∀ (slot : Byte) (actual : Half) (sel : Selection), slotOf slot = some n → s.engp.purges[n] = none →
      ∃ t : State, exec (.purgeEnd slot actual sel) s = .next t ∧ OnlyChanges [.engp] s t ∧
        t.engp = { s.engp with reply := t.engp.reply, sent := t.engp.sent } ∧
        EngReplied (replyMet s sel 3) 0x25 .unknownPurge false false [] t) ∧
    (∀ p : Purge, s.engp.purges[n] = some p →
      ∃ t : State, exec (.purgeTimerExpiry n) s = .next t ∧ OnlyChanges debitParts s t ∧ OtherSlotsKept n s t ∧
        t.engp.purges[n] = none ∧
        (∀ a : Account, s.accounts[n] = some a → ∃ b : Account, t.accounts[n] = some b ∧
          b.inFlight + b.pendingInk = a.inFlight + a.pendingInk + p.requested ∧
          b.purgeTotal = a.purgeTotal + p.requested ∧ b.dropTotal = a.dropTotal ∧ b.residue = a.residue ∧
          b.base = a.base ∧ b.confirmed = a.confirmed) ∧
        (s.accounts[n] = none → t.sysp =
          (postEvent s .purgeAssumed (slotByte n) 0 (some (BitVec.ofNat 32 p.requested))).sysp) ∧
        (SwathsSafe s → s.sysp.events.length ≤ 16 → (∀ e ∈ s.sysp.events, e.kind ≠ .overflow) →
          ∃ k : Byte, t.sysp.events.getLast? =
            some ⟨k, .purgeAssumed, slotByte n, 0, some (BitVec.ofNat 32 p.requested)⟩))

/-- Whatever takes a metered READY slot's headroom to 0 closes its gate, exhausts the slot and raises STARVED if an OPEN
swath lists it, else EXHAUSTED; and the holds left do not exceed the headroom: a purge debited by its timer or its end, a
report's drop debits, and a rebase to the counter of an ADD_USED or a READ_USAGE reply
(R15, R77, R80, R88, R89, R90, R95, R99). -/
def Obligations.ExhaustionClosesTheGate : Prop :=
  ∀ (s : State) (n : SlotId) (a : Account), s.phase = .running → s.accounts[n] = some a → a.metered = true →
    s.slots[n].state = .ready → s.slots[n].alert = none → 0 < headroom a → SwathsSafe s →
    let exhausted (t : State) : Prop :=
      t.engp.gates[n] = false ∧ t.slots[n].state = .exhausted ∧ holds t n = 0 ∧
        t.slots[n].alert = some (if inOpenSwath s n then .starved else .exhausted)
    (∀ p : Purge, s.engp.purges[n] = some p → a.capacity ≤ consumedView a + p.requested →
      ∃ t : State, exec (.purgeTimerExpiry n) s = .next t ∧ OnlyChanges debitParts s t ∧ OtherSlotsKept n s t ∧
        exhausted t) ∧
    (∀ (p : Purge) (slot : Byte) (actual : Half) (sel : Selection), s.engp.purges[n] = some p → slotOf slot = some n →
      a.capacity ≤ consumedView a + min actual.toNat 4000 →
      ∃ t : State, exec (.purgeEnd slot actual sel) s = .next t ∧ OnlyChanges debitParts s t ∧ OtherSlotsKept n s t ∧
        exhausted t) ∧
    (∀ (id carried : Byte) (entries : List DropEntry) (sel : Selection), 1 ≤ entries.length → entries.length ≤ 10 →
      a.residue < unitsPerMicrolitre →
      a.capacity ≤ consumedView a + (a.residue + fineSum s n (min carried.toNat 95) entries) / unitsPerMicrolitre →
      ∃ t : State, exec (.dropReport id carried entries sel) s = .next t ∧ OnlyChanges debitParts s t ∧ exhausted t) ∧
    (∀ (tx : Transaction) (address : Byte) (rest : List CbusChar) (st : CartStatus), s.cbc.line = some tx →
      tx.slot = n → tx.command = .writeBack .addUsed → tx.action = .taking address → replyErrors tx address rest = [] →
      replyStatus address = some st → st ≠ .refusedSpent → tx.expected = a.base + a.confirmed → tx.amount = a.inFlight →
      tx.expected + tx.amount < (counterOf (replyData rest)).toNat →
      a.capacity ≤ (counterOf (replyData rest)).toNat + a.pendingInk →
      ∃ t : State, exec (.cbusReplyEnd rest) s = .next t ∧ OnlyChanges resultParts s t ∧ OtherSlotsKept n s t ∧
        exhausted t) ∧
    (∀ (tx : Transaction) (address : Byte) (rest : List CbusChar), s.cbc.line = some tx →
      tx.slot = n → tx.command = .writeBack .readUsage → tx.action = .taking address → replyErrors tx address rest = [] →
      replyStatus address = some .done → 0 < a.doubtful →
      a.base + a.confirmed + a.doubtful < (counterOf (replyData rest)).toNat →
      a.capacity ≤ (counterOf (replyData rest)).toNat - a.doubtful + a.inFlight + a.pendingInk →
      ∃ t : State, exec (.cbusReplyEnd rest) s = .next t ∧ OnlyChanges resultParts s t ∧ OtherSlotsKept n s t ∧
        exhausted t)

/-- GATE_STATUS reports and changes nothing but the reply; ENGINE_RESTART empties the engine side and leaves the gates to
the gate condition (R125, R126). The reply's layout, without counts, with a swath id in one byte, with swath holds and
requested amounts in two bytes and the purge hold in four, and with times rounded down, is the model's reading of R186
(notes/assumptions/21). -/
def Obligations.GateStatusAndEngineRestart : Prop :=
  ∀ (s : State) (sel : Selection), s.phase = .running →
    (∃ t : State, exec (.gateStatus sel) s = .next t ∧ OnlyChanges [.engp] s t ∧
      t.engp = { s.engp with reply := t.engp.reply, sent := t.engp.sent } ∧
      EngReplied (replyMet s sel 0) 0x26 .ok false false
        (be16 (gateMask s) ++ [yesNo s.engp.expired, yesNo (s.sto.power != .normal)] ++
          s.engp.table.flatMap (swathFields s) ++ allSlots.flatMap (purgeFields s)) t) ∧
    (∃ t : State, exec (.engineRestart sel) s = .next t ∧ OnlyChanges [.engp] s t ∧ t.engp.table = [] ∧
      t.engp.expired = false ∧ t.engp.watchdog = none ∧ (∀ n : SlotId, t.engp.purges[n] = none) ∧
      (∀ n : SlotId, t.engp.gates[n] = gateCondition t n) ∧
      EngReplied (replyMet s sel 0) 0x27 .ok false false [] t)

/-- The watchdog's expiry makes every OPEN entry EXPIRED without holds, sets the expired flag, closes every gate and posts
ENGINE_SILENT; a swath timer's makes its own entry EXPIRED, posts SWATH_OVERRUN and closes no gate (R116, R117). -/
def Obligations.EngineTimersExpireSwaths : Prop :=
  ∀ s : State, s.phase = .running →
    (s.engp.watchdog.isSome = true →
      ∃ t : State, exec .reportWatchdogExpiry s = .next t ∧ OnlyChanges [.engp, .sysp] s t ∧
        t.engp.table = s.engp.table.map (fun w => if w.state = .opened then
          { w with state := .expired, timer := none, slots := w.slots.map fun l => { l with hold := 0 } } else w) ∧
        t.engp.expired = true ∧ t.engp.watchdog = none ∧ (∀ n : SlotId, t.engp.gates[n] = false) ∧
        t.engp.purges = s.engp.purges ∧
        t.sysp = (postEvent s .engineSilent 15 0
          (some (BitVec.ofNat 32 (s.engp.table.filter (·.state == .opened)).length))).sysp) ∧
    (∀ (id : Byte) (w : Swath), swathOf s id = some w → w.timer.isSome = true →
      ∃ t : State, exec (.swathTimerExpiry id) s = .next t ∧ OnlyChanges [.engp, .sysp] s t ∧
        t.engp.table = s.engp.table.map (fun w => if w.id = id then
          { w with state := .expired, timer := none, slots := w.slots.map fun l => { l with hold := 0 } } else w) ∧
        t.engp.watchdog = (if anyOpen t then s.engp.watchdog else none) ∧ t.engp.gates = s.engp.gates ∧
        t.engp.expired = s.engp.expired ∧ t.engp.purges = s.engp.purges ∧
        t.sysp = (postEvent s .swathOverrun 15 id none).sysp)

/-! ### Service line -/

/-- A low run is a candidate exactly when a seventh of it lies between 1/230,400 s and 1/9,600 s, and three high samples
put it in force; otherwise the part holds no candidate (R164). That lengths are given in whole nanoseconds, and that a
low run during the samples replaces the candidate, are the model's choice (notes/assumptions/30). -/
def Obligations.TheSyncFixesTheRate : Prop :=
  ∀ s : State, s.phase = .running → s.svl.line = .waitSync →
    (∀ ns : Nat, exec (.syncLowRunEnd ns) s = .next { s with svl := { s.svl with
      candidate := if 7000000000 ≤ 230400 * ns ∧ 9600 * ns ≤ 7000000000 then some ns else none } }) ∧
    (∀ (ns : Nat) (a b c : Bool), s.svl.candidate = some ns →
      exec (.syncSamplesComplete a b c) s = .next { s with svl :=
        if a = true ∧ b = true ∧ c = true then
          { s.svl with rate := some ns, candidate := none, unlock := .none, line := .ready }
        else { s.svl with candidate := none } })

/-- The open commands execute in any unlock state, leave it NONE and change nothing but the service line (R167, R168); a
failed frame is answered with the check it fails (R165). STORE_CHECK judges the records in record order; what it has read when
a write starts stands, its reply is ready at its end, and counts bad, blank and dirty records, a record being written by its
new copy (R169). The widths and layout that R186 does not give, the reply byte of a failed frame above 0x7F, how far a check
has come, and the retired list sent as the entries held, are the model's (notes/assumptions/19, 21, 22, 33). -/
def Obligations.OpenCommandsAnswer : Prop :=
  (∀ s : State, listening s = true →
    exec .ident s = .next (svcAnswered s 0x41 .ok
      (beBytes (2 + Config.partNumberExtra) 3610 ++ [Config.siliconRevision, Config.unlockCode s.svl.unlock] ++
        beBytes (3 + Config.bitRateExtra) ((s.svl.rate.map fun ns => 7000000000 / ns).getD 0))) ∧
    exec .slotDump s = .next (svcAnswered s 0x42 .ok (slotDumpBody s)) ∧
    exec .historyDump s = .next (svcAnswered s 0x43 .ok (historyDumpBody s)) ∧
    (∀ (frame : List Byte) (st : Status), judgeService frame = .failed st →
      exec (.svcFrameRejected frame) s = .next (svcAnswered s (byteAt frame 0) st [])) ∧
    exec .storeCheck s = .next { s with svl := { s.svl with
      line := .busy, frame := [], reply := none, unlock := .none, check := some [] } }) ∧
  (∀ (s : State) (seen : List Judgement), s.phase = .running → s.svl.check = some seen → s.sto.writer = none →
    anyDirty s = true →
    ∃ (t : State) (l : List Judgement), exec .writerStart s = .next t ∧ OnlyChanges [.sto, .svl, .draws] s t ∧
      t.draws = s.draws + 1 ∧ t.svl = { s.svl with check := some l } ∧
      ∀ r : Fin 118, l[r.val]? = if r.val < seen.length then seen[r.val]?
        else if r.val < Config.checkProgress s.draws then some (judged s r) else none) ∧
  ∀ (s : State) (seen : List Judgement), s.phase = .running → s.svl.error = .none → s.svl.line = .busy →
    s.svl.check = some seen →
    let now (r : Fin 118) : Judgement := match s.sto.writer with
      | some w => if w.1 = r then judgeRecord r (withCheck w.2) else judged s r
      | none => judged s r
    let j (r : Fin 118) : Judgement := (seen[r.val]?).getD (now r)
    exec .storeCheckComplete s = .next { s with svl := { s.svl with
      check := none, frame := []
      reply := some ⟨0xC4, .ok,
        u8 (recordsJudged j .bad).length ++ (recordsJudged j .bad).map (fun r => BitVec.ofNat 8 r.val) ++
          u8 (recordsJudged j .blank).length ++ u8 (s.sto.dirty.toList.filter id).length ++ keyStates s⟩ } }

/-- The unlock table of R167 for UNLOCK_A and UNLOCK_B; the reply carries the unlock state after the frame, by a number
that is left free (notes/assumptions/19). -/
def Obligations.TheUnlockTakesTwoCodes : Prop :=
  ∀ (s : State) (code : Byte), listening s = true →
    (code = 0xA7 → exec (.unlockA code) s =
      .next (svcReply (setUnlock s .half) 0x46 .ok [Config.unlockCode .half])) ∧
    (code ≠ 0xA7 → exec (.unlockA code) s =
      .next (svcReply (setUnlock s .none) 0x46 .wrongCode [Config.unlockCode .none])) ∧
    (s.svl.unlock = .half → code = 0x3C → exec (.unlockB code) s =
      .next (svcReply (setUnlock s .opened) 0x47 .ok [Config.unlockCode .opened])) ∧
    (s.svl.unlock = .half → code ≠ 0x3C → exec (.unlockB code) s =
      .next (svcReply (setUnlock s .none) 0x47 .wrongCode [Config.unlockCode .none])) ∧
    (s.svl.unlock ≠ .half → exec (.unlockB code) s =
      .next (svcReply (setUnlock s .none) 0x47 .wrongState [Config.unlockCode .none]))

/-- A privileged command in NONE or HALF is answered LOCKED and not executed; in OPEN it uses the unlock up, whatever
its own checks say (R165 check 4, R167). -/
def Obligations.PrivilegedCommandsNeedTheUnlock : Prop :=
  ∀ (i : Instr) (command : Byte) (s : State), privilegedCode i = some command → listening s = true →
    (s.svl.unlock ≠ .opened → exec i s = .next (svcAnswered s command .locked [])) ∧
    (s.svl.unlock = .opened → ∃ t : State, exec i s = .next t ∧ t.svl.unlock = .none ∧ t.svl.line = .busy ∧
      ∃ (st : Status) (body : List Byte), t.svl.reply = some ⟨0x80 + command, st, body⟩ ∧ st ≠ .locked)

/-- WRITE_CAL, LOCK_CAL, WRITE_COLOUR_MAP, SET_REGION and WRITE_FILTER, unlocked: their checks in order, and their effects
when accepted, with the records they mark dirty (R70, R144, R170, R171, R172). -/
def Obligations.SettingCommandsTakeEffect : Prop :=
  ∀ s : State, listening s = true → s.svl.unlock = .opened →
    (∀ (slot kappa : Byte) (vS vM vL : Half), slotOf slot = none ∨ calibrationInRange vS vM vL kappa = false →
      exec (.writeCal slot vS vM vL kappa) s = .next (svcAnswered s 0x48 .range [])) ∧
    (∀ (slot kappa : Byte) (vS vM vL : Half) (n : SlotId), slotOf slot = some n →
      calibrationInRange vS vM vL kappa = true →
      (anyOpen s = true → exec (.writeCal slot vS vM vL kappa) s = .next (svcAnswered s 0x48 .busy [])) ∧
      (anyOpen s = false → s.locks[n] = true →
        exec (.writeCal slot vS vM vL kappa) s = .next (svcAnswered s 0x48 .calLocked [])) ∧
      (anyOpen s = false → s.locks[n] = false →
        exec (.writeCal slot vS vM vL kappa) s = .next (svcAnswered
          { s with cal := put s.cal n ⟨vS, vM, vL, kappa, true⟩
                   sto := { s.sto with dirty := put s.sto.dirty (recCalibration n) true } } 0x48 .ok []))) ∧
    (∀ mask : Half, 1024 ≤ mask.toNat → exec (.lockCal mask) s = .next (svcAnswered s 0x49 .range [])) ∧
    (∀ mask : Half, mask.toNat < 1024 → (∃ n : SlotId, mask.getLsbD n.val = true ∧ s.cal[n].valid = false) →
      exec (.lockCal mask) s = .next (svcAnswered s 0x49 .calInvalid [])) ∧
    (∀ mask : Half, mask.toNat < 1024 → (∀ n : SlotId, mask.getLsbD n.val = true → s.cal[n].valid = true) →
      ∃ t : State, exec (.lockCal mask) s = .next t ∧ OnlyChanges [.svl, .locks, .sto] s t ∧
        (∀ n : SlotId, t.locks[n] = (s.locks[n] || mask.getLsbD n.val)) ∧
        t.sto = { s.sto with
          dirty := if t.locks = s.locks then s.sto.dirty else put s.sto.dirty recLocks true } ∧
        t.svl = (svcAnswered s 0x49 .ok (be16 (slotMask fun n => t.locks[n]))).svl) ∧
    (∀ colours : Vector Byte 10, (∀ n : SlotId, 1 ≤ colours[n].toNat ∧ colours[n].toNat ≤ 15) →
      exec (.writeColourMap colours) s = .next (svcAnswered
        { s with settings := { s.settings with colours := colours }
                 sto := { s.sto with dirty := put s.sto.dirty recSettings true } } 0x4A .ok [])) ∧
    (∀ (colours : Vector Byte 10) (n : SlotId), colours[n] = 0 ∨ 15 < colours[n].toNat →
      exec (.writeColourMap colours) s = .next (svcAnswered s 0x4A .range [])) ∧
    (∀ region : Byte, exec (.setRegion region) s = .next (svcAnswered
      { s with settings := { s.settings with region := region }
               sto := { s.sto with dirty := put s.sto.dirty recSettings true } } 0x4B .ok [])) ∧
    (∀ (entry enabled offset chain invert action : Byte) (mask : BitVec 24) (expected : Half) (e : Fin 6) (a : FilterAction),
      entry.toNat = e.val → enabled.toNat ≤ 1 → offset.toNat ≤ 63 → chain.toNat ≤ 1 → invert.toNat ≤ 1 →
      FilterAction.ofCode action = some a →
      exec (.writeFilter entry enabled offset mask expected chain invert action) s = .next (svcAnswered
        { s with his := { s.his with
                   filters := (put s.his.filters e
                     ⟨enabled == 1, offset, mask, expected, chain == 1, invert == 1, a⟩) }
                 sto := { s.sto with dirty := put s.sto.dirty (recFilter e) true } } 0x4C .ok [])) ∧
    (∀ (entry enabled offset chain invert action : Byte) (mask : BitVec 24) (expected : Half),
      5 < entry.toNat ∨ 1 < enabled.toNat ∨ 63 < offset.toNat ∨ 1 < chain.toNat ∨ 1 < invert.toNat ∨ 2 < action.toNat →
      exec (.writeFilter entry enabled offset mask expected chain invert action) s =
        .next (svcAnswered s 0x4C .range []))

/-- CLEAR_HISTORY, LOAD_KEY and RESTART, unlocked: entries named are emptied, marked dirty and counted, and the other
entries, the other marks and both counters stay; an EMPTY key slot is loaded and a LOADED one is refused; RESTART is answered
first (R31, R145, R172, R173). -/
def Obligations.HistoryAndKeyCommandsTakeEffect : Prop :=
  ∀ s : State, listening s = true → s.svl.unlock = .opened →
    (∀ (scope : Byte) (serial : Serial) (c : Scope), Scope.ofCode scope = some c →
      (∃ t : State, exec (.clearHistory 0 scope serial) s = .next t ∧ OnlyChanges [.svl, .his, .sto] s t ∧
        t.his = { s.his with seen := t.his.seen } ∧
        (∀ p : Fin 32, t.his.seen[p] =
          s.his.seen[p].filter fun e => !(c == .all || e.serial == serial)) ∧
        t.sto = { s.sto with dirty := t.sto.dirty } ∧
        (∀ p : Fin 32, t.sto.dirty[recSeen p] = (s.sto.dirty[recSeen p] || t.his.seen[p] != s.his.seen[p])) ∧
        (∀ r : Fin 118, (∀ p : Fin 32, r ≠ recSeen p) → t.sto.dirty[r] = s.sto.dirty[r]) ∧
        t.svl.reply = some ⟨0xCD, .ok, u8 (s.his.seen.toList.filter fun e =>
          (e.map fun x => c == .all || x.serial == serial).getD false).length⟩) ∧
      (∃ t : State, exec (.clearHistory 1 scope serial) s = .next t ∧ OnlyChanges [.svl, .his, .sto] s t ∧
        t.his = { s.his with retired := t.his.retired } ∧
        (∀ p : Fin 64, t.his.retired[p] =
          s.his.retired[p].filter fun e => !(c == .all || e.serial == serial)) ∧
        t.sto = { s.sto with dirty := t.sto.dirty } ∧
        (∀ p : Fin 64, t.sto.dirty[recRetired p] =
          (s.sto.dirty[recRetired p] || t.his.retired[p] != s.his.retired[p])) ∧
        (∀ r : Fin 118, (∀ p : Fin 64, r ≠ recRetired p) → t.sto.dirty[r] = s.sto.dirty[r]) ∧
        t.svl.reply = some ⟨0xCD, .ok, u8 (s.his.retired.toList.filter fun e =>
          (e.map fun x => c == .all || x.serial == serial).getD false).length⟩)) ∧
    (∀ (table scope : Byte) (serial : Serial), 1 < table.toNat ∨ 1 < scope.toNat →
      exec (.clearHistory table scope serial) s = .next (svcAnswered s 0x4D .range [])) ∧
    (∀ (index : Byte) (key : BitVec 128), 3 < index.toNat →
      exec (.loadKey index key) s = .next (svcAnswered s 0x4E .range [])) ∧
    (∀ (index : Byte) (key : BitVec 128) (k : Fin 4), index.toNat = k.val →
      (s.prf.keys[k].isSome = true → exec (.loadKey index key) s = .next (svcAnswered s 0x4E .keyLocked [])) ∧
      (s.prf.keys[k] = none → ∃ t : State, exec (.loadKey index key) s = .next t ∧
        OnlyChanges [.svl, .prf, .sto] s t ∧ t.prf = { s.prf with keys := put s.prf.keys k (some key) } ∧
        t.sto = { s.sto with dirty := put s.sto.dirty (recKey k) true } ∧
        t.svl = (svcAnswered s 0x4E .ok (keyStates t)).svl)) ∧
    exec .restart s = .next (svcAnswered { s with svl := { s.svl with restart := true } } 0x45 .ok [])

/-- The life of a frame, of a reply and of a line error: the first characters of a frame make the line RECEIVING, and a
gap drops the partial frame and keeps the unlock; a reply begins with its low start bit, all its bits are sent, and the
line is READY again; a line error takes partial frame, reply, check and unlock, the part drives SVC low for its break, and
the break ends in WAIT_SYNC without a rate; an accepted RESTART resets at the end of either (R165, R166, R173). How
characters of a frame not yet whole arrive, and the line state between a line error and the end of the break, are the
model's choice (notes/assumptions/23), and so is the reset after a line error that came before the reply of a RESTART had
started (notes/assumptions/35). What a reset leaves in
fields that no rule gives, the slots' state and filtered presence until the sample, the read tag, the bytes and bits sent and
the lamps' intervals, is the model's choice too (notes/assumptions/5). -/
def Obligations.TheServiceLineTurns : Prop :=
  ∀ s : State, s.phase = .running →
    (∀ frame : List Byte, listening s = true → frame ≠ [] → judgeService frame = .notWhole →
      exec (.svcFrameRejected frame) s = .next { s with svl := { s.svl with line := .receiving, frame := frame } }) ∧
    (listening s = true → s.svl.line = .receiving →
      exec .svcGapTimeout s = .next { s with svl := { s.svl with line := .ready, frame := [] } }) ∧
    (s.svl.line ≠ .receiving → exec .svcGapTimeout s = .next s) ∧
    (∀ r : SvcReply, s.svl.error = .none → s.svl.line = .busy → s.svl.reply = some r →
      ∃ t : State, exec .svcReplyStart s = .next t ∧
        t = { s with svl := { s.svl with line := .sending, sent := [], begun := s.clock } } ∧ svcLevel t = false) ∧
    (∀ r : SvcReply, s.svl.error = .none → s.svl.line = .sending → s.svl.restart = false → s.svl.reply = some r →
      exec .svcReplySent s = .next { s with svl := { s.svl with line := .ready, reply := none, sent := r.bits } }) ∧
    (s.svl.error = .none → s.svl.line = .sending → s.svl.restart = true →
      ∃ t : State, exec .svcReplySent s = .next t ∧ BlocksReset s t ∧ t.sto.stored = s.sto.stored) ∧
    (∀ i : Instr, s.svl.error = .none → s.svl.line ≠ .waitSync →
      i = .svcFramingError ∨ i = .toolBreak ∨ i = .svcCollision ∧ s.svl.line = .sending →
      exec i s = .next { s with svl := { s.svl with
        frame := [], reply := none, check := none, unlock := .none, error := .breakDue } }) ∧
    (s.svl.error = .breakDue → ∃ t : State, exec .svcBreakStart s = .next t ∧
      t = { s with svl := { s.svl with error := .breaking } } ∧ svcLevel t = false) ∧
    (s.svl.error = .breaking → s.svl.restart = false →
      exec .svcBreakEnd s = .next { s with svl := { s.svl with rate := none, line := .waitSync, error := .none } }) ∧
    (s.svl.error = .breaking → s.svl.restart = true →
      ∃ t : State, exec .svcBreakEnd s = .next t ∧ BlocksReset s t ∧ t.sto.stored = s.sto.stored)

/-! ### Power and store -/

/-- The power-fail warning (R182, R184): a change of the line restarts its filter; taken as asserted it closes every gate,
enters flush mode and applies the flush trigger to every open account (R92), so that every slot with ink to write back has
its ADD_USED waiting or on the line; taken as withdrawn it leaves flush mode and lets the gates follow their condition. -/
def Obligations.ThePowerFailWarningIsTaken : Prop :=
  ∀ s : State,
    (∀ high : Bool, s.lines.pfailN ≠ high → exec (.pfailNChange high) s = .next
      { s with lines := { s.lines with pfailN := high }
               sto := { s.sto with filter := ⟨s.clock, if high then 1000 else 5⟩ } }) ∧
    (s.phase = .running → s.lines.pfailN = false → s.sto.power = .normal →
      ∃ t : State, exec .pfailAsserted s = .next t ∧
        OnlyChanges (arbiterParts ++ [.sto, .engp, .his, .sysp]) s t ∧
        t.engp = { s.engp with gates := t.engp.gates } ∧ (∀ n : SlotId, t.engp.gates[n] = false) ∧
        t.cbc.flush = true ∧ t.sto.power ≠ .normal ∧ (addUsedOutstanding t = true → t.sto.power = .flushingBus) ∧
        (s.cbc.line.isSome = true → t.cbc.line = s.cbc.line ∧
          ∀ n : SlotId, triggerDue s n = true → ∃ ops, QEntry.writeBack n ops ∈ t.cbc.queue ∧ WbOp.addUsed ∈ ops) ∧
        (s.cbc.line = none → ∀ (n : SlotId) (a : Account), triggerDue s n = true → canSend s n a →
          opPlaced t n .addUsed)) ∧
    (s.phase = .running → s.lines.pfailN = true → s.sto.power ≠ .normal →
      ∃ t : State, exec .pfailWithdrawn s = .next t ∧ OnlyChanges (arbiterParts ++ [.sto, .engp]) s t ∧
        t.sto = { s.sto with power := .normal } ∧ t.cbc.flush = false ∧
        t.engp = { s.engp with gates := t.engp.gates } ∧
        ∀ n : SlotId, t.engp.gates[n] = gateCondition
          { s with sto := { s.sto with power := .normal } } n)

/-- The flush goes on (R132, R183): with no ADD_USED left, as after the reply of the last, the provisional entries are
written and the store phase starts; it has ended at once exactly if the writer is idle, nothing is dirty and no metered
account is open. With the writer idle and nothing dirty it ends, and FLUSH_DONE is posted. The idle writer takes a dirty
record whenever there is one, the first in the scan order after the last written; it takes the RAM copy and clears the
mark at its start, and the stored copy holds what was taken, with its CRC-16, at its end (R174, R180). Four clauses are
the model's choice: that the bus phase ends within the command that takes the last ADD_USED away, so that
BUS_FLUSH_DRAINED changes nothing elsewhere (notes/assumptions/11, 3); that WRITE_COMPLETE leaves the end of the store
phase to STORE_FLUSH_COMPLETE (12); the bytes under the CRC-16 (14); and that a start of a write during a STORE_CHECK
draws how far the check has come (22). -/
def Obligations.TheFlushAndTheWriter : Prop :=
  ∀ s : State, s.phase = .running →
    (s.sto.power = .flushingBus → addUsedOutstanding s = false →
      ∃ t : State, exec .busFlushDrained s = .next t ∧ OnlyChanges [.his, .sto, .sysp] s t ∧
        t.his.retired = s.his.retired ∧
        (s.sto.writer = none → anyDirty s = false →
          (∀ (n : SlotId) (a : Account), s.accounts[n] = some a → a.metered = false) →
          t.his = s.his ∧ t.sto = { s.sto with power := .flushed } ∧
            t.sysp = (postEvent s .flushDone 15 0 none).sysp) ∧
        (s.sto.writer.isSome = true ∨ anyDirty s = true ∨
            (∃ (n : SlotId) (a : Account), s.accounts[n] = some a ∧ a.metered = true) →
          t.sto.power = .flushingStore ∧ t.sysp = s.sysp) ∧
        ∀ (n : SlotId) (a : Account), s.accounts[n] = some a → a.metered = true → SeenEntryLasts s n a.serial →
          ∃ (p : Fin 32) (e : SeenEntry), t.his.seen[p] = some e ∧ e.serial = a.serial ∧ e.lastSlot = n ∧
            e.lastClass = a.cls ∧ e.consumed = min (consumedView a) 4294967295 ∧
            e.unwritten = min (a.inFlight + a.pendingInk) e.consumed ∧ t.sto.dirty[recSeen p] = true) ∧
    (s.sto.power ≠ .flushingBus ∨ addUsedOutstanding s = true → exec .busFlushDrained s = .next s) ∧
    (∀ (tx : Transaction) (address : Byte) (rest : List CbusChar) (a : Account), s.sto.power = .flushingBus →
      s.cbc.flush = true → s.cbc.line = some tx → tx.command = .writeBack .addUsed → tx.action = .taking address →
      replyErrors tx address rest = [] → replyStatus address = some .done → s.accounts[tx.slot] = some a →
      a.metered = true → tx.expected = a.base + a.confirmed → tx.amount = a.inFlight →
      (counterOf (replyData rest)).toNat = tx.expected + tx.amount →
      (∀ (m : SlotId) (l : List WbOp), QEntry.writeBack m l ∈ s.cbc.queue → WbOp.addUsed ∉ l) →
      SeenEntryLasts s tx.slot a.serial →
      ∃ t : State, exec (.cbusReplyEnd rest) s = .next t ∧ OnlyChanges resultParts s t ∧ t.cbc.line = none ∧
        t.sto.power = .flushingStore ∧
        ∃ (p : Fin 32) (e : SeenEntry), t.his.seen[p] = some e ∧ e.serial = a.serial ∧ e.lastSlot = tx.slot ∧
          e.consumed = min (consumedView a) 4294967295 ∧ e.unwritten = min a.pendingInk e.consumed ∧
          t.sto.dirty[recSeen p] = true) ∧
    (s.sto.power = .flushingStore → s.sto.writer = none → anyDirty s = false →
      ∃ t : State, exec .storeFlushComplete s = .next t ∧ OnlyChanges [.sto, .sysp] s t ∧
        t.sto = { s.sto with power := .flushed } ∧ t.sysp = (postEvent s .flushDone 15 0 none).sysp) ∧
    (s.sto.writer = none → anyDirty s = true →
      ∃ (t : State) (r : Fin 118), exec .writerStart s = .next t ∧ OnlyChanges [.sto, .svl, .draws] s t ∧
        s.sto.dirty[r] = true ∧ nextDirty s = some r ∧
        t.sto = { s.sto with writer := some (r, ramContents s r), dirty := put s.sto.dirty r false } ∧
        t.svl = { s.svl with check := t.svl.check } ∧ t.svl.check.isSome = s.svl.check.isSome ∧
        (s.svl.check = none → t.draws = s.draws)) ∧
    (∀ (r : Fin 118) (c : Contents), s.sto.writer = some (r, c) →
      exec .writeComplete s = .next { s with sto := { s.sto with
        stored := put s.sto.stored r (.written c (crc16 (recordBytes c))), writer := none, last := r } })

/-- Power-on, the reset line and the loss of power (R179, R181, R185): every cause leaves every block in its state after a
full reset, with a fresh challenge sequence number, no mark dirty, the writer idle after record 21 and the power state
NORMAL; a part stays in reset while RESET_N is asserted; a record being written when power is lost is broken, and a reset
alone lets its write run on, which the model holds as carried (notes/assumptions/13). The values of the fields that no
rule gives, the slots' state VACANT and filtered presence ABSENT until the sample, the read tag, the bytes and bits sent, the
start of the last service reply and the lamps' intervals, are the model's choice (notes/assumptions/5). -/
def Obligations.ResetsAndPowerLoss : Prop :=
  ∀ s : State,
    (s.phase = .off → ∃ t : State, exec .powerOn s = .next t ∧ BlocksReset s t ∧
      t.phase = (if s.lines.resetN then .loading else .resetHeld) ∧ t.sto.stored = s.sto.stored ∧
      t.lines = s.lines ∧ t.pending = s.pending) ∧
    (s.phase ≠ .off → s.lines.resetN = true → ∃ t : State, exec .resetLineAsserted s = .next t ∧ BlocksReset s t ∧
      t.phase = .resetHeld ∧ t.lines = { s.lines with resetN := false } ∧ t.sto.stored = s.sto.stored ∧
      t.pending = s.pending ∧ (s.sto.writer.isSome = true → t.sto.carried = s.sto.writer)) ∧
    (s.phase = .resetHeld → exec .resetLineWithdrawn s = .next
      { s with phase := .loading, lines := { s.lines with resetN := true } }) ∧
    (s.phase ≠ .off → ∃ t : State, exec .powerLoss s = .next t ∧ BlocksReset s t ∧ t.phase = .off ∧
      t.lines = s.lines ∧ t.pending = s.pending ∧
      (∀ (r : Fin 118) (c : Contents), s.sto.writer = some (r, c) →
        t.sto.stored = put s.sto.stored r .broken) ∧
      (s.sto.writer = none → s.sto.carried = none → t.sto.stored = s.sto.stored))

/-- The start-up load and what follows it (R23, R30, R69, R139, R147, R175 to R179, R182, R185): good records are taken
with their values, the lock record less the locks over calibration that is not good; others leave defaults, INVALID,
EMPTY, cleared or empty, and a bad lock record locks what is VALID. Of two history entries with one serial the lower
number is emptied, and both counters stand one above the highest number loaded. Dirty are the settings record if
defaulted, the lock record if not taken as stored, and the entries so emptied. The events stand first; then PFAIL_N is
sampled, which restarts its filter, and each slot. The bus starts with its break owed, whatever idle count the load has let
it rise to (R45, R67), the system port with SYS_DO at high impedance until the next selection (R163). A write that a reset met under way ends before its record is read
(notes/assumptions/13). The slots are sampled in slot order, so that the order of the queue and the READ_ID begun first
are the model's choice (notes/assumptions/25), and so is a counter above 4,294,967,295 (16) and, in the hypotheses, what
the reset leaves in fields that no rule gives, the slots' state and filtered presence before the sample among them (5). -/
def Obligations.TheLoadTakesTheGoodRecords : Prop :=
  ∀ s : State, s.phase = .loading → s.sto.writer = none → s.sto.power = .normal → s.sysp = State.reset.sysp →
    s.cbc.line = none → s.cbc.queue = [] → s.cbc.breakOwed = true → s.cbc.flush = false → s.slots = State.reset.slots → s.accounts = State.reset.accounts → s.engp = State.reset.engp →
    let u := loadState s
    ∃ t : State, exec .startUpLoadComplete s = .next t ∧ t.phase = .running ∧ t.sto.stored = u.sto.stored ∧
      -- settings, calibration, keys, filters
      ((loadedSettings u).isSome = true ↔ judged u recSettings = .good) ∧
      t.settings = (loadedSettings u).getD
        ⟨.block, .warn, ⟨15, 5, 250, 25, 8, 20⟩, Vector.replicate 10 .auto, #v[1, 2, 3, 4, 5, 6, 7, 8, 9, 10], 0⟩ ∧
      (∀ (x : SettingsImage) (k : Half), u.sto.stored[recSettings] = .written (.settings x) k →
        judged u recSettings = .good →
        some t.settings.nonGenuine = NonGenuinePolicy.ofCode x.nonGenuine ∧
        some t.settings.suspect = SuspectPolicy.ofCode x.suspect ∧
        t.settings.limits = ⟨x.low.toNat, x.reserve.toNat, x.threshold.toNat, x.window.toNat, x.swath.toNat,
          x.purge.toNat⟩ ∧
        (∀ n : SlotId, some t.settings.modes[n] = Mode.ofCode x.modes[n]) ∧ t.settings.colours = x.colours ∧
        t.settings.region = x.region) ∧
      (∀ n : SlotId, (t.cal[n].valid = true ↔ judged u (recCalibration n) = .good) ∧
        (∀ (vS vM vL : Half) (kappa : Byte) (k : Half),
          u.sto.stored[recCalibration n] = .written (.calibration vS vM vL kappa) k →
          t.cal[n].valid = true → t.cal[n] = ⟨vS, vM, vL, kappa, true⟩)) ∧
      (∀ k : Fin 4, (judged u (recKey k) ≠ .good → t.prf.keys[k] = none) ∧
        ∀ (v : BitVec 128) (c : Half), u.sto.stored[recKey k] = .written (.key v) c → judged u (recKey k) = .good →
          t.prf.keys[k] = some v) ∧
      (∀ e : Fin 6, (judged u (recFilter e) ≠ .good → t.his.filters[e] = ⟨false, 0, 0, 0, false, false, .none⟩) ∧
        ∀ (x : FilterImage) (k : Half), u.sto.stored[recFilter e] = .written (.filter x) k →
          judged u (recFilter e) = .good →
          ∃ a : FilterAction, FilterAction.ofCode x.action = some a ∧
            t.his.filters[e] = ⟨x.enabled == 1, x.offset, x.mask, x.expected, x.chain == 1, x.invert == 1, a⟩) ∧
      -- calibration locks
      (judged u recLocks = .blank → ∀ n : SlotId, t.locks[n] = false) ∧
      (judged u recLocks = .bad → ∀ n : SlotId, t.locks[n] = t.cal[n].valid) ∧
      (∀ (l : Vector Bool 10) (k : Half), u.sto.stored[recLocks] = .written (.locks l) k → judged u recLocks = .good →
        ∀ n : SlotId, t.locks[n] = (l[n] && t.cal[n].valid)) ∧
      -- history
      (∀ p : Fin 32,
        (judged u (recSeen p) ≠ .good → loadedSeen u p = none) ∧
        (∀ k : Half, u.sto.stored[recSeen p] = .written (.seen none) k → loadedSeen u p = none) ∧
        (∀ (x : SeenImage) (k : Half), u.sto.stored[recSeen p] = .written (.seen (some x)) k →
          judged u (recSeen p) = .good →
          ∃ (n : SlotId) (c : AccountClass), slotOf x.lastSlot = some n ∧ seenClassOfCode x.lastClass = some c ∧
            loadedSeen u p = some ⟨x.serial, x.consumed.toNat, x.unwritten.toNat, n, c, x.stamp.toNat⟩) ∧
        (loadedSeen u p = none → t.his.seen[p] = none) ∧
        ∀ x : SeenEntry, loadedSeen u p = some x →
          ((∀ (q : Fin 32) (y : SeenEntry), q ≠ p → loadedSeen u q = some y → y.serial = x.serial → y.stamp < x.stamp) →
            t.his.seen[p] = some x) ∧
          ((∃ (q : Fin 32) (y : SeenEntry), loadedSeen u q = some y ∧ y.serial = x.serial ∧ x.stamp < y.stamp) →
            t.his.seen[p] = none) ∧
          (t.his.seen[p] = some x ∨ t.his.seen[p] = none) ∧ x.stamp < t.his.stamp) ∧
      (t.his.stamp = 1 ∨ ∃ (p : Fin 32) (x : SeenEntry), loadedSeen u p = some x ∧ t.his.stamp = x.stamp + 1) ∧
      (∀ p : Fin 64,
        (judged u (recRetired p) ≠ .good → loadedRetired u p = none) ∧
        (∀ k : Half, u.sto.stored[recRetired p] = .written (.retired none) k → loadedRetired u p = none) ∧
        (∀ (x : RetiredImage) (k : Half), u.sto.stored[recRetired p] = .written (.retired (some x)) k →
          judged u (recRetired p) = .good →
          ∃ w : RetiredReason, RetiredReason.ofCode x.reason = some w ∧
            loadedRetired u p = some ⟨x.serial, w, x.number.toNat⟩) ∧
        (loadedRetired u p = none → t.his.retired[p] = none) ∧
        ∀ x : RetiredEntry, loadedRetired u p = some x →
          ((∀ (q : Fin 64) (y : RetiredEntry), q ≠ p → loadedRetired u q = some y → y.serial = x.serial →
              y.number < x.number) → t.his.retired[p] = some x) ∧
          ((∃ (q : Fin 64) (y : RetiredEntry), loadedRetired u q = some y ∧ y.serial = x.serial ∧ x.number < y.number) →
            t.his.retired[p] = none) ∧
          (t.his.retired[p] = some x ∨ t.his.retired[p] = none) ∧ x.number < t.his.retire) ∧
      (t.his.retire = 1 ∨ ∃ (p : Fin 64) (x : RetiredEntry), loadedRetired u p = some x ∧ t.his.retire = x.number + 1) ∧
      -- dirty marks
      (∀ r : Fin 118, t.sto.dirty[r] = true ↔
        r = recSettings ∧ judged u recSettings ≠ .good ∨
        r = recLocks ∧ (judged u recLocks = .bad ∨
          ∃ (l : Vector Bool 10) (k : Half) (n : SlotId), u.sto.stored[recLocks] = .written (.locks l) k ∧
            judged u recLocks = .good ∧ l[n] = true ∧ t.cal[n].valid = false) ∨
        (∃ p : Fin 32, r = recSeen p ∧ (loadedSeen u p).isSome = true ∧ t.his.seen[p] = none) ∨
        ∃ p : Fin 64, r = recRetired p ∧ (loadedRetired u p).isSome = true ∧ t.his.retired[p] = none) ∧
      -- events
      (judged u recSettings ≠ .good → t.sysp.events.head? = some ⟨0, .settingsDefaulted, 15, 0, none⟩) ∧
      (judged u recSettings = .good → (recordsJudged (judged u) .bad).length ≠ 0 →
        t.sysp.events.head? = some ⟨0, .storeFault, 15, 0,
          some (BitVec.ofNat 32 (recordsJudged (judged u) .bad).length)⟩) ∧
      (judged u recSettings ≠ .good → (recordsJudged (judged u) .bad).length ≠ 0 →
        t.sysp.events[1]? = some ⟨1, .storeFault, 15, 0,
          some (BitVec.ofNat 32 (recordsJudged (judged u) .bad).length)⟩) ∧
      -- PFAIL_N and the slots
      sysDo t .deselected = none ∧ engDo t .deselected = none ∧ t.cbc.breakOwed = true ∧ t.cbc.idle = s.cbc.idle ∧
      t.cbc.backoff = s.cbc.backoff ∧ (∀ tx, t.cbc.line = some tx → tx.action = .breaking) ∧
      t.sto.filter = ⟨s.clock, if s.lines.pfailN then 1000 else 5⟩ ∧ t.cbc.flush = !s.lines.pfailN ∧
      t.sto.power = (if s.lines.pfailN = true then .normal else if anyDirty t then .flushingStore else .flushed) ∧
      (∀ n : SlotId, t.engp.gates[n] = false ∧ t.accounts[n] = none ∧ t.slots[n].present = s.lines.presence[n] ∧
        t.slots[n].state = (if s.lines.presence[n] then
          if t.settings.modes[n] = .auto then .reading else .seated else .vacant)) ∧
      (let reads := allSlots.filter (fun n => s.lines.presence[n] && t.settings.modes[n] == .auto);
        (s.lines.pfailN = false ∨ reads = [] →
          t.cbc.line = none ∧ t.cbc.queue = reads.map fun n => .admission n .readId) ∧
        ∀ (n : SlotId) (rest : List SlotId), s.lines.pfailN = true → reads = n :: rest →
          t.cbc.queue = (rest.map fun m => .admission m .readId) ∧ Begun t n (.admission .readId) [])
end

