-- ==== Sys2Proof/Laws/State.lean ====
section
/-! SUPPORT. The fields of State after each basic update, and the places of tables. -/

namespace Sys2Proof.Machine

/-! ### Tables -/

@[simp] theorem put_val_same {α : Type} {k : Nat} (v : Vector α k) (i : Fin k) (x : α) : (put v i x)[i.val] = x := by
  simp [put]

theorem put_val {α : Type} {k : Nat} (v : Vector α k) (i j : Fin k) (x : α) :
    (put v i x)[j.val] = if j = i then x else v[j.val] := by
  simp [put, Vector.getElem_set, Fin.ext_iff, eq_comm]

theorem put_same {α : Type} {k : Nat} (v : Vector α k) (i : Fin k) (x : α) : (put v i x)[i] = x := put_val_same v i x

theorem put_get {α : Type} {k : Nat} (v : Vector α k) (i j : Fin k) (x : α) :
    (put v i x)[j] = if j = i then x else v[j] := put_val v i j x

theorem put_other {α : Type} {k : Nat} (v : Vector α k) (i j : Fin k) (x : α) (h : j ≠ i) : (put v i x)[j] = v[j] := by
  rw [put_get, if_neg h]

@[simp] theorem upd_val_same {α : Type} {k : Nat} (v : Vector α k) (i : Fin k) (f : α → α) :
    (upd v i f)[i.val] = f v[i.val] := put_val_same v i _

theorem upd_val {α : Type} {k : Nat} (v : Vector α k) (i j : Fin k) (f : α → α) :
    (upd v i f)[j.val] = if j = i then f v[j.val] else v[j.val] := by
  rw [upd, put_val]
  split
  · next h => subst h; rfl
  · rfl

theorem upd_same {α : Type} {k : Nat} (v : Vector α k) (i : Fin k) (f : α → α) : (upd v i f)[i] = f v[i] :=
  upd_val_same v i f

theorem upd_get {α : Type} {k : Nat} (v : Vector α k) (i j : Fin k) (f : α → α) :
    (upd v i f)[j] = if j = i then f v[j] else v[j] := upd_val v i j f

theorem upd_other {α : Type} {k : Nat} (v : Vector α k) (i j : Fin k) (f : α → α) (h : j ≠ i) :
    (upd v i f)[j] = v[j] := by
  rw [upd_get, if_neg h]

@[simp] theorem tab_val {α : Type} {k : Nat} (f : Fin k → α) (i : Fin k) : (tab k f)[i.val] = f i := by
  simp [tab]

theorem tab_get {α : Type} {k : Nat} (f : Fin k → α) (i : Fin k) : (tab k f)[i] = f i := tab_val f i

/-! ### Fields after an update -/

@[simp] theorem modSlot_phase (s : State) (n : SlotId) (f : SlotRec → SlotRec) : (modSlot s n f).phase = s.phase := rfl
@[simp] theorem modSlot_lines (s : State) (n : SlotId) (f : SlotRec → SlotRec) : (modSlot s n f).lines = s.lines := rfl
@[simp] theorem modSlot_clock (s : State) (n : SlotId) (f : SlotRec → SlotRec) : (modSlot s n f).clock = s.clock := rfl
@[simp] theorem modSlot_draws (s : State) (n : SlotId) (f : SlotRec → SlotRec) : (modSlot s n f).draws = s.draws := rfl
@[simp] theorem modSlot_prf (s : State) (n : SlotId) (f : SlotRec → SlotRec) : (modSlot s n f).prf = s.prf := rfl
@[simp] theorem modSlot_cbc (s : State) (n : SlotId) (f : SlotRec → SlotRec) : (modSlot s n f).cbc = s.cbc := rfl
@[simp] theorem modSlot_accounts (s : State) (n : SlotId) (f : SlotRec → SlotRec) :
    (modSlot s n f).accounts = s.accounts := rfl
@[simp] theorem modSlot_engp (s : State) (n : SlotId) (f : SlotRec → SlotRec) : (modSlot s n f).engp = s.engp := rfl
@[simp] theorem modSlot_his (s : State) (n : SlotId) (f : SlotRec → SlotRec) : (modSlot s n f).his = s.his := rfl
@[simp] theorem modSlot_sysp (s : State) (n : SlotId) (f : SlotRec → SlotRec) : (modSlot s n f).sysp = s.sysp := rfl
@[simp] theorem modSlot_svl (s : State) (n : SlotId) (f : SlotRec → SlotRec) : (modSlot s n f).svl = s.svl := rfl
@[simp] theorem modSlot_settings (s : State) (n : SlotId) (f : SlotRec → SlotRec) :
    (modSlot s n f).settings = s.settings := rfl
@[simp] theorem modSlot_cal (s : State) (n : SlotId) (f : SlotRec → SlotRec) : (modSlot s n f).cal = s.cal := rfl
@[simp] theorem modSlot_locks (s : State) (n : SlotId) (f : SlotRec → SlotRec) : (modSlot s n f).locks = s.locks := rfl
@[simp] theorem modSlot_sto (s : State) (n : SlotId) (f : SlotRec → SlotRec) : (modSlot s n f).sto = s.sto := rfl
@[simp] theorem modSlot_pending (s : State) (n : SlotId) (f : SlotRec → SlotRec) :
    (modSlot s n f).pending = s.pending := rfl

@[simp] theorem setAccount_phase (s : State) (n : SlotId) (a : Option Account) :
    (setAccount s n a).phase = s.phase := rfl
@[simp] theorem setAccount_lines (s : State) (n : SlotId) (a : Option Account) :
    (setAccount s n a).lines = s.lines := rfl
@[simp] theorem setAccount_clock (s : State) (n : SlotId) (a : Option Account) :
    (setAccount s n a).clock = s.clock := rfl
@[simp] theorem setAccount_draws (s : State) (n : SlotId) (a : Option Account) :
    (setAccount s n a).draws = s.draws := rfl
@[simp] theorem setAccount_slots (s : State) (n : SlotId) (a : Option Account) :
    (setAccount s n a).slots = s.slots := rfl
@[simp] theorem setAccount_prf (s : State) (n : SlotId) (a : Option Account) : (setAccount s n a).prf = s.prf := rfl
@[simp] theorem setAccount_cbc (s : State) (n : SlotId) (a : Option Account) : (setAccount s n a).cbc = s.cbc := rfl
@[simp] theorem setAccount_engp (s : State) (n : SlotId) (a : Option Account) : (setAccount s n a).engp = s.engp := rfl
@[simp] theorem setAccount_his (s : State) (n : SlotId) (a : Option Account) : (setAccount s n a).his = s.his := rfl
@[simp] theorem setAccount_sysp (s : State) (n : SlotId) (a : Option Account) : (setAccount s n a).sysp = s.sysp := rfl
@[simp] theorem setAccount_svl (s : State) (n : SlotId) (a : Option Account) : (setAccount s n a).svl = s.svl := rfl
@[simp] theorem setAccount_settings (s : State) (n : SlotId) (a : Option Account) :
    (setAccount s n a).settings = s.settings := rfl
@[simp] theorem setAccount_cal (s : State) (n : SlotId) (a : Option Account) : (setAccount s n a).cal = s.cal := rfl
@[simp] theorem setAccount_locks (s : State) (n : SlotId) (a : Option Account) :
    (setAccount s n a).locks = s.locks := rfl
@[simp] theorem setAccount_sto (s : State) (n : SlotId) (a : Option Account) : (setAccount s n a).sto = s.sto := rfl
@[simp] theorem setAccount_pending (s : State) (n : SlotId) (a : Option Account) :
    (setAccount s n a).pending = s.pending := rfl

@[simp] theorem modAccount_phase (s : State) (n : SlotId) (f : Account → Account) :
    (modAccount s n f).phase = s.phase := rfl
@[simp] theorem modAccount_lines (s : State) (n : SlotId) (f : Account → Account) :
    (modAccount s n f).lines = s.lines := rfl
@[simp] theorem modAccount_clock (s : State) (n : SlotId) (f : Account → Account) :
    (modAccount s n f).clock = s.clock := rfl
@[simp] theorem modAccount_draws (s : State) (n : SlotId) (f : Account → Account) :
    (modAccount s n f).draws = s.draws := rfl
@[simp] theorem modAccount_slots (s : State) (n : SlotId) (f : Account → Account) :
    (modAccount s n f).slots = s.slots := rfl
@[simp] theorem modAccount_prf (s : State) (n : SlotId) (f : Account → Account) : (modAccount s n f).prf = s.prf := rfl
@[simp] theorem modAccount_cbc (s : State) (n : SlotId) (f : Account → Account) : (modAccount s n f).cbc = s.cbc := rfl
@[simp] theorem modAccount_engp (s : State) (n : SlotId) (f : Account → Account) :
    (modAccount s n f).engp = s.engp := rfl
@[simp] theorem modAccount_his (s : State) (n : SlotId) (f : Account → Account) : (modAccount s n f).his = s.his := rfl
@[simp] theorem modAccount_sysp (s : State) (n : SlotId) (f : Account → Account) :
    (modAccount s n f).sysp = s.sysp := rfl
@[simp] theorem modAccount_svl (s : State) (n : SlotId) (f : Account → Account) : (modAccount s n f).svl = s.svl := rfl
@[simp] theorem modAccount_settings (s : State) (n : SlotId) (f : Account → Account) :
    (modAccount s n f).settings = s.settings := rfl
@[simp] theorem modAccount_cal (s : State) (n : SlotId) (f : Account → Account) : (modAccount s n f).cal = s.cal := rfl
@[simp] theorem modAccount_locks (s : State) (n : SlotId) (f : Account → Account) :
    (modAccount s n f).locks = s.locks := rfl
@[simp] theorem modAccount_sto (s : State) (n : SlotId) (f : Account → Account) : (modAccount s n f).sto = s.sto := rfl
@[simp] theorem modAccount_pending (s : State) (n : SlotId) (f : Account → Account) :
    (modAccount s n f).pending = s.pending := rfl

@[simp] theorem markDirty_phase (s : State) (r : Fin 118) : (markDirty s r).phase = s.phase := rfl
@[simp] theorem markDirty_lines (s : State) (r : Fin 118) : (markDirty s r).lines = s.lines := rfl
@[simp] theorem markDirty_clock (s : State) (r : Fin 118) : (markDirty s r).clock = s.clock := rfl
@[simp] theorem markDirty_draws (s : State) (r : Fin 118) : (markDirty s r).draws = s.draws := rfl
@[simp] theorem markDirty_slots (s : State) (r : Fin 118) : (markDirty s r).slots = s.slots := rfl
@[simp] theorem markDirty_prf (s : State) (r : Fin 118) : (markDirty s r).prf = s.prf := rfl
@[simp] theorem markDirty_cbc (s : State) (r : Fin 118) : (markDirty s r).cbc = s.cbc := rfl
@[simp] theorem markDirty_accounts (s : State) (r : Fin 118) : (markDirty s r).accounts = s.accounts := rfl
@[simp] theorem markDirty_engp (s : State) (r : Fin 118) : (markDirty s r).engp = s.engp := rfl
@[simp] theorem markDirty_his (s : State) (r : Fin 118) : (markDirty s r).his = s.his := rfl
@[simp] theorem markDirty_sysp (s : State) (r : Fin 118) : (markDirty s r).sysp = s.sysp := rfl
@[simp] theorem markDirty_svl (s : State) (r : Fin 118) : (markDirty s r).svl = s.svl := rfl
@[simp] theorem markDirty_settings (s : State) (r : Fin 118) : (markDirty s r).settings = s.settings := rfl
@[simp] theorem markDirty_cal (s : State) (r : Fin 118) : (markDirty s r).cal = s.cal := rfl
@[simp] theorem markDirty_locks (s : State) (r : Fin 118) : (markDirty s r).locks = s.locks := rfl
@[simp] theorem markDirty_pending (s : State) (r : Fin 118) : (markDirty s r).pending = s.pending := rfl

@[simp] theorem postEvent_phase (s : State) (k : EventKind) (n c : Byte) (v : Option Word) :
    (postEvent s k n c v).phase = s.phase := rfl
@[simp] theorem postEvent_lines (s : State) (k : EventKind) (n c : Byte) (v : Option Word) :
    (postEvent s k n c v).lines = s.lines := rfl
@[simp] theorem postEvent_clock (s : State) (k : EventKind) (n c : Byte) (v : Option Word) :
    (postEvent s k n c v).clock = s.clock := rfl
@[simp] theorem postEvent_draws (s : State) (k : EventKind) (n c : Byte) (v : Option Word) :
    (postEvent s k n c v).draws = s.draws := rfl
@[simp] theorem postEvent_slots (s : State) (k : EventKind) (n c : Byte) (v : Option Word) :
    (postEvent s k n c v).slots = s.slots := rfl
@[simp] theorem postEvent_prf (s : State) (k : EventKind) (n c : Byte) (v : Option Word) :
    (postEvent s k n c v).prf = s.prf := rfl
@[simp] theorem postEvent_cbc (s : State) (k : EventKind) (n c : Byte) (v : Option Word) :
    (postEvent s k n c v).cbc = s.cbc := rfl
@[simp] theorem postEvent_accounts (s : State) (k : EventKind) (n c : Byte) (v : Option Word) :
    (postEvent s k n c v).accounts = s.accounts := rfl
@[simp] theorem postEvent_engp (s : State) (k : EventKind) (n c : Byte) (v : Option Word) :
    (postEvent s k n c v).engp = s.engp := rfl
@[simp] theorem postEvent_his (s : State) (k : EventKind) (n c : Byte) (v : Option Word) :
    (postEvent s k n c v).his = s.his := rfl
@[simp] theorem postEvent_svl (s : State) (k : EventKind) (n c : Byte) (v : Option Word) :
    (postEvent s k n c v).svl = s.svl := rfl
@[simp] theorem postEvent_settings (s : State) (k : EventKind) (n c : Byte) (v : Option Word) :
    (postEvent s k n c v).settings = s.settings := rfl
@[simp] theorem postEvent_cal (s : State) (k : EventKind) (n c : Byte) (v : Option Word) :
    (postEvent s k n c v).cal = s.cal := rfl
@[simp] theorem postEvent_locks (s : State) (k : EventKind) (n c : Byte) (v : Option Word) :
    (postEvent s k n c v).locks = s.locks := rfl
@[simp] theorem postEvent_sto (s : State) (k : EventKind) (n c : Byte) (v : Option Word) :
    (postEvent s k n c v).sto = s.sto := rfl
@[simp] theorem postEvent_pending (s : State) (k : EventKind) (n c : Byte) (v : Option Word) :
    (postEvent s k n c v).pending = s.pending := rfl

@[simp] theorem reevalGate_phase (s : State) (n : SlotId) : (reevalGate s n).phase = s.phase := rfl
@[simp] theorem reevalGate_lines (s : State) (n : SlotId) : (reevalGate s n).lines = s.lines := rfl
@[simp] theorem reevalGate_clock (s : State) (n : SlotId) : (reevalGate s n).clock = s.clock := rfl
@[simp] theorem reevalGate_draws (s : State) (n : SlotId) : (reevalGate s n).draws = s.draws := rfl
@[simp] theorem reevalGate_slots (s : State) (n : SlotId) : (reevalGate s n).slots = s.slots := rfl
@[simp] theorem reevalGate_prf (s : State) (n : SlotId) : (reevalGate s n).prf = s.prf := rfl
@[simp] theorem reevalGate_cbc (s : State) (n : SlotId) : (reevalGate s n).cbc = s.cbc := rfl
@[simp] theorem reevalGate_accounts (s : State) (n : SlotId) : (reevalGate s n).accounts = s.accounts := rfl
@[simp] theorem reevalGate_his (s : State) (n : SlotId) : (reevalGate s n).his = s.his := rfl
@[simp] theorem reevalGate_sysp (s : State) (n : SlotId) : (reevalGate s n).sysp = s.sysp := rfl
@[simp] theorem reevalGate_svl (s : State) (n : SlotId) : (reevalGate s n).svl = s.svl := rfl
@[simp] theorem reevalGate_settings (s : State) (n : SlotId) : (reevalGate s n).settings = s.settings := rfl
@[simp] theorem reevalGate_cal (s : State) (n : SlotId) : (reevalGate s n).cal = s.cal := rfl
@[simp] theorem reevalGate_locks (s : State) (n : SlotId) : (reevalGate s n).locks = s.locks := rfl
@[simp] theorem reevalGate_sto (s : State) (n : SlotId) : (reevalGate s n).sto = s.sto := rfl
@[simp] theorem reevalGate_pending (s : State) (n : SlotId) : (reevalGate s n).pending = s.pending := rfl

@[simp] theorem reevalGates_phase (s : State) : (reevalGates s).phase = s.phase := rfl
@[simp] theorem reevalGates_lines (s : State) : (reevalGates s).lines = s.lines := rfl
@[simp] theorem reevalGates_clock (s : State) : (reevalGates s).clock = s.clock := rfl
@[simp] theorem reevalGates_draws (s : State) : (reevalGates s).draws = s.draws := rfl
@[simp] theorem reevalGates_slots (s : State) : (reevalGates s).slots = s.slots := rfl
@[simp] theorem reevalGates_prf (s : State) : (reevalGates s).prf = s.prf := rfl
@[simp] theorem reevalGates_cbc (s : State) : (reevalGates s).cbc = s.cbc := rfl
@[simp] theorem reevalGates_accounts (s : State) : (reevalGates s).accounts = s.accounts := rfl
@[simp] theorem reevalGates_his (s : State) : (reevalGates s).his = s.his := rfl
@[simp] theorem reevalGates_sysp (s : State) : (reevalGates s).sysp = s.sysp := rfl
@[simp] theorem reevalGates_svl (s : State) : (reevalGates s).svl = s.svl := rfl
@[simp] theorem reevalGates_settings (s : State) : (reevalGates s).settings = s.settings := rfl
@[simp] theorem reevalGates_cal (s : State) : (reevalGates s).cal = s.cal := rfl
@[simp] theorem reevalGates_locks (s : State) : (reevalGates s).locks = s.locks := rfl
@[simp] theorem reevalGates_sto (s : State) : (reevalGates s).sto = s.sto := rfl
@[simp] theorem reevalGates_pending (s : State) : (reevalGates s).pending = s.pending := rfl

@[simp] theorem setIdentity_phase (s : State) (n : SlotId) (i : Option IdRecord) :
    (setIdentity s n i).phase = s.phase := rfl
@[simp] theorem setIdentity_lines (s : State) (n : SlotId) (i : Option IdRecord) :
    (setIdentity s n i).lines = s.lines := rfl
@[simp] theorem setIdentity_clock (s : State) (n : SlotId) (i : Option IdRecord) :
    (setIdentity s n i).clock = s.clock := rfl
@[simp] theorem setIdentity_draws (s : State) (n : SlotId) (i : Option IdRecord) :
    (setIdentity s n i).draws = s.draws := rfl
@[simp] theorem setIdentity_slots (s : State) (n : SlotId) (i : Option IdRecord) :
    (setIdentity s n i).slots = s.slots := rfl
@[simp] theorem setIdentity_cbc (s : State) (n : SlotId) (i : Option IdRecord) : (setIdentity s n i).cbc = s.cbc := rfl
@[simp] theorem setIdentity_accounts (s : State) (n : SlotId) (i : Option IdRecord) :
    (setIdentity s n i).accounts = s.accounts := rfl
@[simp] theorem setIdentity_engp (s : State) (n : SlotId) (i : Option IdRecord) :
    (setIdentity s n i).engp = s.engp := rfl
@[simp] theorem setIdentity_his (s : State) (n : SlotId) (i : Option IdRecord) : (setIdentity s n i).his = s.his := rfl
@[simp] theorem setIdentity_sysp (s : State) (n : SlotId) (i : Option IdRecord) :
    (setIdentity s n i).sysp = s.sysp := rfl
@[simp] theorem setIdentity_svl (s : State) (n : SlotId) (i : Option IdRecord) : (setIdentity s n i).svl = s.svl := rfl
@[simp] theorem setIdentity_settings (s : State) (n : SlotId) (i : Option IdRecord) :
    (setIdentity s n i).settings = s.settings := rfl
@[simp] theorem setIdentity_cal (s : State) (n : SlotId) (i : Option IdRecord) : (setIdentity s n i).cal = s.cal := rfl
@[simp] theorem setIdentity_locks (s : State) (n : SlotId) (i : Option IdRecord) :
    (setIdentity s n i).locks = s.locks := rfl
@[simp] theorem setIdentity_sto (s : State) (n : SlotId) (i : Option IdRecord) : (setIdentity s n i).sto = s.sto := rfl
@[simp] theorem setIdentity_pending (s : State) (n : SlotId) (i : Option IdRecord) :
    (setIdentity s n i).pending = s.pending := rfl

@[simp] theorem modSwath_phase (s : State) (i : Byte) (f : Swath → Swath) : (modSwath s i f).phase = s.phase := rfl
@[simp] theorem modSwath_lines (s : State) (i : Byte) (f : Swath → Swath) : (modSwath s i f).lines = s.lines := rfl
@[simp] theorem modSwath_clock (s : State) (i : Byte) (f : Swath → Swath) : (modSwath s i f).clock = s.clock := rfl
@[simp] theorem modSwath_draws (s : State) (i : Byte) (f : Swath → Swath) : (modSwath s i f).draws = s.draws := rfl
@[simp] theorem modSwath_slots (s : State) (i : Byte) (f : Swath → Swath) : (modSwath s i f).slots = s.slots := rfl
@[simp] theorem modSwath_prf (s : State) (i : Byte) (f : Swath → Swath) : (modSwath s i f).prf = s.prf := rfl
@[simp] theorem modSwath_cbc (s : State) (i : Byte) (f : Swath → Swath) : (modSwath s i f).cbc = s.cbc := rfl
@[simp] theorem modSwath_accounts (s : State) (i : Byte) (f : Swath → Swath) :
    (modSwath s i f).accounts = s.accounts := rfl
@[simp] theorem modSwath_his (s : State) (i : Byte) (f : Swath → Swath) : (modSwath s i f).his = s.his := rfl
@[simp] theorem modSwath_sysp (s : State) (i : Byte) (f : Swath → Swath) : (modSwath s i f).sysp = s.sysp := rfl
@[simp] theorem modSwath_svl (s : State) (i : Byte) (f : Swath → Swath) : (modSwath s i f).svl = s.svl := rfl
@[simp] theorem modSwath_settings (s : State) (i : Byte) (f : Swath → Swath) :
    (modSwath s i f).settings = s.settings := rfl
@[simp] theorem modSwath_cal (s : State) (i : Byte) (f : Swath → Swath) : (modSwath s i f).cal = s.cal := rfl
@[simp] theorem modSwath_locks (s : State) (i : Byte) (f : Swath → Swath) : (modSwath s i f).locks = s.locks := rfl
@[simp] theorem modSwath_sto (s : State) (i : Byte) (f : Swath → Swath) : (modSwath s i f).sto = s.sto := rfl
@[simp] theorem modSwath_pending (s : State) (i : Byte) (f : Swath → Swath) :
    (modSwath s i f).pending = s.pending := rfl

@[simp] theorem setUnlock_phase (s : State) (u : Unlock) : (setUnlock s u).phase = s.phase := rfl
@[simp] theorem setUnlock_lines (s : State) (u : Unlock) : (setUnlock s u).lines = s.lines := rfl
@[simp] theorem setUnlock_clock (s : State) (u : Unlock) : (setUnlock s u).clock = s.clock := rfl
@[simp] theorem setUnlock_draws (s : State) (u : Unlock) : (setUnlock s u).draws = s.draws := rfl
@[simp] theorem setUnlock_slots (s : State) (u : Unlock) : (setUnlock s u).slots = s.slots := rfl
@[simp] theorem setUnlock_prf (s : State) (u : Unlock) : (setUnlock s u).prf = s.prf := rfl
@[simp] theorem setUnlock_cbc (s : State) (u : Unlock) : (setUnlock s u).cbc = s.cbc := rfl
@[simp] theorem setUnlock_accounts (s : State) (u : Unlock) : (setUnlock s u).accounts = s.accounts := rfl
@[simp] theorem setUnlock_engp (s : State) (u : Unlock) : (setUnlock s u).engp = s.engp := rfl
@[simp] theorem setUnlock_his (s : State) (u : Unlock) : (setUnlock s u).his = s.his := rfl
@[simp] theorem setUnlock_sysp (s : State) (u : Unlock) : (setUnlock s u).sysp = s.sysp := rfl
@[simp] theorem setUnlock_settings (s : State) (u : Unlock) : (setUnlock s u).settings = s.settings := rfl
@[simp] theorem setUnlock_cal (s : State) (u : Unlock) : (setUnlock s u).cal = s.cal := rfl
@[simp] theorem setUnlock_locks (s : State) (u : Unlock) : (setUnlock s u).locks = s.locks := rfl
@[simp] theorem setUnlock_sto (s : State) (u : Unlock) : (setUnlock s u).sto = s.sto := rfl
@[simp] theorem setUnlock_pending (s : State) (u : Unlock) : (setUnlock s u).pending = s.pending := rfl

@[simp] theorem svcReply_phase (s : State) (c : Byte) (st : Status) (b : List Byte) :
    (svcReply s c st b).phase = s.phase := rfl
@[simp] theorem svcReply_lines (s : State) (c : Byte) (st : Status) (b : List Byte) :
    (svcReply s c st b).lines = s.lines := rfl
@[simp] theorem svcReply_clock (s : State) (c : Byte) (st : Status) (b : List Byte) :
    (svcReply s c st b).clock = s.clock := rfl
@[simp] theorem svcReply_draws (s : State) (c : Byte) (st : Status) (b : List Byte) :
    (svcReply s c st b).draws = s.draws := rfl
@[simp] theorem svcReply_slots (s : State) (c : Byte) (st : Status) (b : List Byte) :
    (svcReply s c st b).slots = s.slots := rfl
@[simp] theorem svcReply_prf (s : State) (c : Byte) (st : Status) (b : List Byte) :
    (svcReply s c st b).prf = s.prf := rfl
@[simp] theorem svcReply_cbc (s : State) (c : Byte) (st : Status) (b : List Byte) :
    (svcReply s c st b).cbc = s.cbc := rfl
@[simp] theorem svcReply_accounts (s : State) (c : Byte) (st : Status) (b : List Byte) :
    (svcReply s c st b).accounts = s.accounts := rfl
@[simp] theorem svcReply_engp (s : State) (c : Byte) (st : Status) (b : List Byte) :
    (svcReply s c st b).engp = s.engp := rfl
@[simp] theorem svcReply_his (s : State) (c : Byte) (st : Status) (b : List Byte) :
    (svcReply s c st b).his = s.his := rfl
@[simp] theorem svcReply_sysp (s : State) (c : Byte) (st : Status) (b : List Byte) :
    (svcReply s c st b).sysp = s.sysp := rfl
@[simp] theorem svcReply_settings (s : State) (c : Byte) (st : Status) (b : List Byte) :
    (svcReply s c st b).settings = s.settings := rfl
@[simp] theorem svcReply_cal (s : State) (c : Byte) (st : Status) (b : List Byte) :
    (svcReply s c st b).cal = s.cal := rfl
@[simp] theorem svcReply_locks (s : State) (c : Byte) (st : Status) (b : List Byte) :
    (svcReply s c st b).locks = s.locks := rfl
@[simp] theorem svcReply_sto (s : State) (c : Byte) (st : Status) (b : List Byte) :
    (svcReply s c st b).sto = s.sto := rfl
@[simp] theorem svcReply_pending (s : State) (c : Byte) (st : Status) (b : List Byte) :
    (svcReply s c st b).pending = s.pending := rfl

@[simp] theorem commit_phase (s : State) (w : Fin 118 × Contents) : (commit s w).phase = s.phase := rfl
@[simp] theorem commit_lines (s : State) (w : Fin 118 × Contents) : (commit s w).lines = s.lines := rfl
@[simp] theorem commit_clock (s : State) (w : Fin 118 × Contents) : (commit s w).clock = s.clock := rfl
@[simp] theorem commit_draws (s : State) (w : Fin 118 × Contents) : (commit s w).draws = s.draws := rfl
@[simp] theorem commit_slots (s : State) (w : Fin 118 × Contents) : (commit s w).slots = s.slots := rfl
@[simp] theorem commit_prf (s : State) (w : Fin 118 × Contents) : (commit s w).prf = s.prf := rfl
@[simp] theorem commit_cbc (s : State) (w : Fin 118 × Contents) : (commit s w).cbc = s.cbc := rfl
@[simp] theorem commit_accounts (s : State) (w : Fin 118 × Contents) : (commit s w).accounts = s.accounts := rfl
@[simp] theorem commit_engp (s : State) (w : Fin 118 × Contents) : (commit s w).engp = s.engp := rfl
@[simp] theorem commit_his (s : State) (w : Fin 118 × Contents) : (commit s w).his = s.his := rfl
@[simp] theorem commit_sysp (s : State) (w : Fin 118 × Contents) : (commit s w).sysp = s.sysp := rfl
@[simp] theorem commit_svl (s : State) (w : Fin 118 × Contents) : (commit s w).svl = s.svl := rfl
@[simp] theorem commit_settings (s : State) (w : Fin 118 × Contents) : (commit s w).settings = s.settings := rfl
@[simp] theorem commit_cal (s : State) (w : Fin 118 × Contents) : (commit s w).cal = s.cal := rfl
@[simp] theorem commit_locks (s : State) (w : Fin 118 × Contents) : (commit s w).locks = s.locks := rfl
@[simp] theorem commit_pending (s : State) (w : Fin 118 × Contents) : (commit s w).pending = s.pending := rfl

/-! ### The field an update changes -/

@[simp] theorem modSlot_slots (s : State) (n : SlotId) (f : SlotRec → SlotRec) :
    (modSlot s n f).slots = upd s.slots n f := rfl
@[simp] theorem setAccount_accounts (s : State) (n : SlotId) (a : Option Account) :
    (setAccount s n a).accounts = put s.accounts n a := rfl
@[simp] theorem modAccount_accounts (s : State) (n : SlotId) (f : Account → Account) :
    (modAccount s n f).accounts = upd s.accounts n (Option.map f) := rfl
@[simp] theorem markDirty_sto (s : State) (r : Fin 118) :
    (markDirty s r).sto = { s.sto with dirty := put s.sto.dirty r true } := rfl
@[simp] theorem postEvent_sysp (s : State) (k : EventKind) (n c : Byte) (v : Option Word) :
    (postEvent s k n c v).sysp =
      { s.sysp with
        events := (takeEvent s.sysp.events ⟨s.sysp.seq, k, n, c, v⟩).1
        seq := if (takeEvent s.sysp.events ⟨s.sysp.seq, k, n, c, v⟩).2 then s.sysp.seq + 1 else s.sysp.seq } := rfl
@[simp] theorem reevalGate_engp (s : State) (n : SlotId) :
    (reevalGate s n).engp = { s.engp with gates := put s.engp.gates n (gateCondition s n) } := rfl
@[simp] theorem reevalGates_engp (s : State) :
    (reevalGates s).engp = { s.engp with gates := tab 10 (gateCondition s) } := rfl
@[simp] theorem setIdentity_prf (s : State) (n : SlotId) (i : Option IdRecord) :
    (setIdentity s n i).prf = { s.prf with identity := put s.prf.identity n i } := rfl
@[simp] theorem modSwath_engp (s : State) (i : Byte) (f : Swath → Swath) :
    (modSwath s i f).engp = { s.engp with table := s.engp.table.map fun w => if w.id = i then f w else w } := rfl
@[simp] theorem setUnlock_svl (s : State) (u : Unlock) : (setUnlock s u).svl = { s.svl with unlock := u } := rfl
@[simp] theorem svcReply_svl (s : State) (c : Byte) (st : Status) (b : List Byte) :
    (svcReply s c st b).svl = 
      { s.svl with line := .busy, frame := [], reply := some ⟨replyKind c, st, b⟩ } := rfl
@[simp] theorem commit_sto (s : State) (w : Fin 118 × Contents) :
    (commit s w).sto = { s.sto with stored := put s.sto.stored w.1 (withCheck w.2) } := rfl

@[simp] theorem lowSeen_cbc (s : State) : (lowSeen s).cbc = { s.cbc with idle := 0 } := rfl
@[simp] theorem setLine_cbc (s : State) (tx : Transaction) (k : Nat) :
    (setLine s tx k).cbc = { s.cbc with line := some tx, idle := k } := rfl
@[simp] theorem enqueueOp_cbc (s : State) (n : SlotId) (op : WbOp) :
    (enqueueOp s n op).cbc = { s.cbc with queue := withOp s.cbc.queue n op } := rfl
@[simp] theorem enqueueOp_accounts (s : State) (n : SlotId) (op : WbOp) : (enqueueOp s n op).accounts = s.accounts := rfl
@[simp] theorem enqueueOp_slots (s : State) (n : SlotId) (op : WbOp) : (enqueueOp s n op).slots = s.slots := rfl
@[simp] theorem enqueueOp_prf (s : State) (n : SlotId) (op : WbOp) : (enqueueOp s n op).prf = s.prf := rfl

/-! ### The lamp lines (R21) -/

/-- A part with power drives a lamp line low exactly while the lamp is lit. -/
theorem lampLine_powered {s : State} (h : s.phase ≠ .off) (n : SlotId) : lampLine s n = some (!lampLit s n) := by
  simp [lampLine, h]

/-! ### The message on the line (R43, R45) -/

theorem charBits_length (c : CbusChar) : (charBits c).length = 11 := rfl

theorem idleOver_append (k : Nat) (l m : List Bool) : idleOver k (l ++ m) = idleOver (idleOver k l) m :=
  List.foldl_append

/-- A data character leaves a line idle count of 1: its mark bit is low and its stop bit high (R43, R45). -/
theorem idleOver_dataChar (k : Nat) (b : Byte) : idleOver k (charBits ⟨false, b⟩) = 1 := by
  simp [idleOver, charBits, List.foldl_append]

/-- A reply that ends in a data character, as every accepted one does, leaves a line idle count of 12: its stop bit and the
end-of-reply gap (R45, R53). -/
theorem replyIdle_dataChar (address : Byte) (rest : List CbusChar) (c : CbusChar) (h : rest.getLast? = some c)
    (hc : c.mark = false) : replyIdle address rest = 12 := by
  obtain ⟨mark, b⟩ := c
  subst hc
  rw [replyIdle, h, Option.getD_some, idleOver_append, idleOver_dataChar]
  rfl

/-- A message ends in its check character, and so leaves a line idle count of 1 (R43, R44, R45). -/
theorem idleOver_messageBits (k : Nat) (tx : Transaction) : idleOver k (messageBits tx) = 1 := by
  have h : ∃ pre b, messageChars tx = pre ++ [⟨false, b⟩] := by
    simp only [messageChars, messageBytes, List.cons_append, List.map_append, List.map_cons, List.map_nil]
    exact ⟨_ :: _, _, rfl⟩
  obtain ⟨pre, b, h⟩ := h
  rw [messageBits, h, List.flatMap_append, idleOver_append]
  simpa using idleOver_dataChar _ b

/-! ### The bits of the two ports (R148) -/

theorem msbBits_length (b : Byte) : (msbBits b).length = 8 := rfl

/-- A byte takes eight clocks. -/
theorem wireBits_length (l : List Byte) : (wireBits l).length = 8 * l.length := by
  simp [wireBits, List.length_flatMap, msbBits_length, Nat.mul_comm]

theorem byteOfBits_msbBits (b : Byte) : byteOfBits (msbBits b) = b := by
  revert b
  decide +kernel

/-- The bytes that were put on the line are read from it. -/
theorem wireBytes_wireBits (l : List Byte) : wireBytes (wireBits l) = l := by
  induction l with
  | nil => rfl
  | cons b l ih =>
    have h : wireBytes (msbBits b ++ wireBits l) = byteOfBits (msbBits b) :: wireBytes (wireBits l) := rfl
    rw [wireBits, List.flatMap_cons, ← wireBits, h, byteOfBits_msbBits, ih]

@[simp] theorem sysDo_deselected (s : State) : sysDo s .deselected = none := rfl
@[simp] theorem engDo_deselected (s : State) : engDo s .deselected = none := rfl

/-- Out of service both outputs stay at high impedance (R163, R179). -/
theorem portDo_out_of_service {s : State} (h : s.phase ≠ .running) (sent : List Byte) (p : PortMoment) :
    portDo s sent p = none := by
  cases p <;> simp [portDo, h]

/-! ### The reply on the service line (R165) -/

theorem svcCharBits_length (b : Byte) : (svcCharBits b).length = 10 := rfl

/-- A service reply takes 10 bit-times a byte. -/
theorem svcReply_bits_length (r : SvcReply) : r.bits.length = 10 * r.frame.length := by
  simp [SvcReply.bits, List.length_flatMap, svcCharBits_length, Nat.mul_comm]

@[simp] theorem tick_svl (s : State) (h : s.phase ≠ .off) : (tick s).svl = svcAfter s.svl (s.clock + 1) := by
  simp [tick, h]
@[simp] theorem tick_cbc (s : State) (h : s.phase ≠ .off) : (tick s).cbc = busAfter s.cbc := by simp [tick, h]
@[simp] theorem tick_clock (s : State) (h : s.phase ≠ .off) : (tick s).clock = s.clock + 1 := by simp [tick, h]

/-- Only a reply being sent moves on. -/
theorem svcSent_idle (v : Svl) (now : Nat) (h : v.line ≠ .sending) : svcSent v now = v.sent := by
  unfold svcSent
  split
  · rename_i h1 _ _ _; exact absurd h1 h
  · rfl

/-- The gate condition reads the slot states, the accounts, the power state and the expired flag alone. -/
theorem gateCondition_congr {s t : State} (n : SlotId) (hs : t.slots[n].state = s.slots[n].state)
    (ha : t.accounts[n] = s.accounts[n]) (hp : t.sto.power = s.sto.power) (he : t.engp.expired = s.engp.expired) :
    gateCondition t n = gateCondition s n := by
  simp only [gateCondition, pfailAsserted, hs, ha, hp, he]

end Sys2Proof.Machine
end

