-- ==== Sys2Proof/Laws/Frames.lean ====
section
/-! SUPPORT. For each shared operation, the parts of State it can change. -/

namespace Sys2Proof.Machine

/-! ### The relation -/

theorem OnlyChanges.refl (ps : List Part) (s : State) : OnlyChanges ps s s := by
  intro p _; cases p <;> rfl

theorem OnlyChanges.trans {ps : List Part} {s t u : State} (h : OnlyChanges ps s t) (k : OnlyChanges ps t u) :
    OnlyChanges ps s u := by
  intro p hp
  have a := h p hp
  have b := k p hp
  cases p <;> exact Eq.trans b a

theorem OnlyChanges.mono {ps qs : List Part} {s t : State} (h : OnlyChanges ps s t) (k : ps ⊆ qs) :
    OnlyChanges qs s t := fun p hp => h p fun m => hp (k m)

/-- A fold keeps the parts that each of its steps keeps. -/
theorem OnlyChanges.foldl {ps : List Part} {α : Type} (f : State → α → State) (h : ∀ s a, OnlyChanges ps s (f s a))
    (l : List α) (s : State) : OnlyChanges ps s (l.foldl f s) := by
  induction l generalizing s with
  | nil => exact .refl ps s
  | cons a l ih => exact (h s a).trans (ih _)

theorem forSlots_frame {ps : List Part} (f : State → SlotId → State) (h : ∀ s n, OnlyChanges ps s (f s n)) (s : State) :
    OnlyChanges ps s (forSlots f s) := OnlyChanges.foldl f h allSlots s

/-- A conditional keeps what both of its branches keep. -/
theorem OnlyChanges.ite {ps : List Part} {s t u : State} {c : Prop} [Decidable c] (h : OnlyChanges ps s t)
    (k : OnlyChanges ps s u) : OnlyChanges ps s (if c then t else u) := by
  split
  · exact h
  · exact k

/-! ### Basic updates -/

theorem modSlot_frame (s : State) (n : SlotId) (f : SlotRec → SlotRec) : OnlyChanges [.slots] s (modSlot s n f) := by
  intro p hp; cases p <;> first | rfl | exact (hp (by decide)).elim

theorem setAccount_frame (s : State) (n : SlotId) (a : Option Account) : OnlyChanges [.accounts] s (setAccount s n a) := by
  intro p hp; cases p <;> first | rfl | exact (hp (by decide)).elim

theorem modAccount_frame (s : State) (n : SlotId) (f : Account → Account) :
    OnlyChanges [.accounts] s (modAccount s n f) := by
  intro p hp; cases p <;> first | rfl | exact (hp (by decide)).elim

theorem markDirty_frame (s : State) (r : Fin 118) : OnlyChanges [.sto] s (markDirty s r) := by
  intro p hp; cases p <;> first | rfl | exact (hp (by decide)).elim

theorem postEvent_frame (s : State) (k : EventKind) (n c : Byte) (v : Option Word) :
    OnlyChanges [.sysp] s (postEvent s k n c v) := by
  intro p hp; cases p <;> first | rfl | exact (hp (by decide)).elim

theorem reevalGate_frame (s : State) (n : SlotId) : OnlyChanges [.engp] s (reevalGate s n) := by
  intro p hp; cases p <;> first | rfl | exact (hp (by decide)).elim

theorem reevalGates_frame (s : State) : OnlyChanges [.engp] s (reevalGates s) := by
  intro p hp; cases p <;> first | rfl | exact (hp (by decide)).elim

theorem setIdentity_frame (s : State) (n : SlotId) (i : Option IdRecord) : OnlyChanges [.prf] s (setIdentity s n i) := by
  intro p hp; cases p <;> first | rfl | exact (hp (by decide)).elim

theorem modSwath_frame (s : State) (i : Byte) (f : Swath → Swath) : OnlyChanges [.engp] s (modSwath s i f) := by
  intro p hp; cases p <;> first | rfl | exact (hp (by decide)).elim

theorem setUnlock_frame (s : State) (u : Unlock) : OnlyChanges [.svl] s (setUnlock s u) := by
  intro p hp; cases p <;> first | rfl | exact (hp (by decide)).elim

theorem svcReply_frame (s : State) (c : Byte) (st : Status) (b : List Byte) : OnlyChanges [.svl] s (svcReply s c st b) := by
  intro p hp; cases p <;> first | rfl | exact (hp (by decide)).elim

/-- Another bus controller. -/
theorem cbc_frame (s : State) (c : Cbc) : OnlyChanges [.cbc] s { s with cbc := c } := by
  intro p hp; cases p <;> first | rfl | exact (hp (by decide)).elim

theorem prf_frame (s : State) (x : Prf) : OnlyChanges [.prf] s { s with prf := x } := by
  intro p hp; cases p <;> first | rfl | exact (hp (by decide)).elim

theorem engp_frame (s : State) (x : Engp) : OnlyChanges [.engp] s { s with engp := x } := by
  intro p hp; cases p <;> first | rfl | exact (hp (by decide)).elim

theorem his_frame (s : State) (x : His) : OnlyChanges [.his] s { s with his := x } := by
  intro p hp; cases p <;> first | rfl | exact (hp (by decide)).elim

theorem sysp_frame (s : State) (x : Sysp) : OnlyChanges [.sysp] s { s with sysp := x } := by
  intro p hp; cases p <;> first | rfl | exact (hp (by decide)).elim

theorem svl_frame (s : State) (x : Svl) : OnlyChanges [.svl] s { s with svl := x } := by
  intro p hp; cases p <;> first | rfl | exact (hp (by decide)).elim

theorem sto_frame (s : State) (x : Sto) : OnlyChanges [.sto] s { s with sto := x } := by
  intro p hp; cases p <;> first | rfl | exact (hp (by decide)).elim

theorem settings_frame (s : State) (x : Settings) : OnlyChanges [.settings] s { s with settings := x } := by
  intro p hp; cases p <;> first | rfl | exact (hp (by decide)).elim

/-! ### The queue and the arbiter -/

theorem messageReady_frame (s : State) (tx : Transaction) : OnlyChanges [.cbc] s (messageReady s tx) := cbc_frame s _

theorem beginAttempt_frame (s : State) (tx : Transaction) : OnlyChanges [.cbc] s (beginAttempt s tx) := by
  unfold beginAttempt
  split
  · exact cbc_frame s _
  · exact messageReady_frame s tx

theorem startChallenge_frame {s t : State} {n : SlotId} {first : Bool} {body : List Byte}
    (h : startChallenge s n first = some (body, t)) : OnlyChanges [.prf, .draws] s t := by
  unfold startChallenge at h
  split at h
  · cases h
  · injection h with h
    injection h with _ h
    subst h
    intro p hp; cases p <;> first | rfl | exact (hp (by decide)).elim

theorem releaseContext_frame (s : State) (n : SlotId) : OnlyChanges [.prf] s (releaseContext s n) := by
  unfold releaseContext
  split
  · exact prf_frame s _
  · exact .refl _ s

theorem unbuiltChallenge_frame (s : State) (n : SlotId) : OnlyChanges [.cbc, .prf] s (unbuiltChallenge s n) :=
  ((releaseContext_frame s n).mono (by decide)).trans ((cbc_frame _ _).mono (by decide))

theorem addUsedBody_frame {s t : State} {n : SlotId} {e a : Nat} (h : addUsedBody s n = some (e, a, t)) :
    OnlyChanges [.accounts] s t := by
  unfold addUsedBody at h
  split at h
  · cases h
  · dsimp only at h
    split at h
    · cases h
    · injection h with h
      injection h with _ h
      injection h with _ h
      subst h
      exact setAccount_frame s n _

theorem startTransaction_frame (s : State) (n : SlotId) (c : TxCommand) :
    OnlyChanges arbiterParts s (startTransaction s n c) := by
  unfold startTransaction
  split
  · split
    · exact .refl _ s
    · next h => exact ((addUsedBody_frame h).mono (by decide)).trans ((beginAttempt_frame _ _).mono (by decide))
  · split
    · exact (unbuiltChallenge_frame s n).mono (by decide)
    · next h => exact ((startChallenge_frame h).mono (by decide)).trans ((beginAttempt_frame _ _).mono (by decide))
  · exact (beginAttempt_frame s _).mono (by decide)
  · exact (beginAttempt_frame s _).mono (by decide)

theorem arbitrateUpTo_frame (k : Nat) (s : State) : OnlyChanges arbiterParts s (arbitrateUpTo k s) := by
  induction k generalizing s with
  | zero => exact .refl _ s
  | succ k ih =>
    unfold arbitrateUpTo
    split
    · exact .refl _ s
    · split
      · exact .refl _ s
      · exact (((cbc_frame s _).mono (by decide)).trans (startTransaction_frame _ _ _)).trans (ih _)

theorem arbitrate_frame (s : State) : OnlyChanges arbiterParts s (arbitrate s) := arbitrateUpTo_frame _ s

theorem joinQueue_frame (s : State) (e : QEntry) : OnlyChanges arbiterParts s (joinQueue s e) :=
  ((cbc_frame s _).mono (by decide)).trans (arbitrate_frame _)

theorem enqueueOp_frame (s : State) (n : SlotId) (op : WbOp) : OnlyChanges [.cbc] s (enqueueOp s n op) := cbc_frame s _

theorem placeOp_frame (s : State) (n : SlotId) (op : WbOp) : OnlyChanges arbiterParts s (placeOp s n op) :=
  ((enqueueOp_frame s n op).mono (by decide)).trans (arbitrate_frame _)

theorem arbitrateIfJoined_frame {ps : List Part} {s t : State} (h : OnlyChanges ps s t) (k : arbiterParts ⊆ ps) :
    OnlyChanges ps s (arbitrateIfJoined s t) := by
  unfold arbitrateIfJoined
  split
  · exact h
  · exact h.trans ((arbitrate_frame t).mono k)

/-- With the queue as it was, the arbiter is not called. -/
theorem arbitrateIfJoined_same {s t : State} (h : t.cbc.queue = s.cbc.queue) : arbitrateIfJoined s t = t := if_pos h

theorem placeAdmission_frame (s : State) (n : SlotId) (step : AdmissionStep) :
    OnlyChanges arbiterParts s (placeAdmission s n step) := joinQueue_frame s _

theorem trigger_frame (s : State) (n : SlotId) : OnlyChanges arbiterParts s (trigger s n) := by
  unfold trigger
  split
  · exact placeOp_frame s n _
  · exact .refl _ s

theorem requestAddUsed_frame (s : State) (n : SlotId) : OnlyChanges [.cbc] s (requestAddUsed s n) := by
  unfold requestAddUsed
  split
  · exact enqueueOp_frame s n _
  · exact .refl _ s

theorem spentCheck_frame (s : State) (n : SlotId) : OnlyChanges [.cbc, .accounts] s (spentCheck s n) := by
  unfold spentCheck
  split
  · exact ((modAccount_frame s n _).mono (by decide)).trans ((enqueueOp_frame _ n _).mono (by decide))
  · exact .refl _ s

/-! ### Slot states, alerts and lamps -/

theorem lampAfterChange_frame (s : State) (n : SlotId) : OnlyChanges [.slots] s (lampAfterChange s n) := modSlot_frame s n _

theorem moveSlot_frame (s : State) (n : SlotId) (st : SlotState) : OnlyChanges [.slots, .sysp, .engp] s (moveSlot s n st) :=
  ((((modSlot_frame s n _).trans (lampAfterChange_frame _ n)).mono (by decide)).trans
    ((postEvent_frame _ _ _ _ _).mono (by decide))).trans ((reevalGate_frame _ n).mono (by decide))

theorem raiseAlert_frame (s : State) (n : SlotId) (code : AlertCode) (v : Option Word) :
    OnlyChanges [.slots, .sysp] s (raiseAlert s n code v) :=
  ((modSlot_frame s n _).mono (by decide)).trans ((postEvent_frame _ _ _ _ _).mono (by decide))

theorem changeState_eq_moveSlot (s : State) (n : SlotId) (st : SlotState) (h : st ≠ .exhausted) :
    changeState s n st = moveSlot s n st := by
  simp [changeState, h]

theorem changeState_frame (s : State) (n : SlotId) (st : SlotState) : OnlyChanges debitParts s (changeState s n st) := by
  unfold changeState
  dsimp only
  split
  · exact (((moveSlot_frame s n st).mono (by decide)).trans ((requestAddUsed_frame _ n).mono (by decide))).trans
      ((spentCheck_frame _ n).mono (by decide))
  · exact (moveSlot_frame s n st).mono (by decide)

theorem rejectSlot_frame (s : State) (n : SlotId) (why : Reason) : OnlyChanges debitParts s (rejectSlot s n why) :=
  (changeState_frame s n _).trans ((raiseAlert_frame _ n _ _).mono (by decide))

theorem startReading_frame (s : State) (n : SlotId) : OnlyChanges debitParts s (startReading s n) :=
  (changeState_frame s n _).trans ((placeAdmission_frame _ n _).mono (by decide))

/-! ### Debits -/

theorem refreshLevel_frame (s : State) (n : SlotId) : OnlyChanges [.accounts, .sysp, .slots] s (refreshLevel s n) := by
  unfold refreshLevel
  split
  · exact .refl _ s
  · dsimp only
    refine OnlyChanges.ite ?_ (.refl _ s)
    have h (a : Option Account) (c : Byte) (v : Option Word) :
        OnlyChanges [.accounts, .sysp, .slots] s (postEvent (setAccount s n a) .level (slotByte n) c v) :=
      ((setAccount_frame s n a).mono (by decide)).trans ((postEvent_frame _ _ _ _ _).mono (by decide))
    split
    · exact (h _ _ _).trans ((lampAfterChange_frame _ n).mono (by decide))
    · exact h _ _ _

theorem postCuts_frame (s : State) (n : SlotId) (cuts : List (Byte × Nat)) : OnlyChanges [.sysp] s (postCuts s n cuts) := by
  refine OnlyChanges.foldl _ (fun s c => ?_) cuts s
  split
  · exact .refl _ s
  · exact postEvent_frame s _ _ _ _

theorem clampHolds_frame (s : State) (n : SlotId) : OnlyChanges [.engp, .sysp] s (clampHolds s n) := by
  unfold clampHolds
  split
  · exact .refl _ s
  · split
    · exact ((engp_frame s _).mono (by decide)).trans ((postCuts_frame _ n _).mono (by decide))
    · exact .refl _ s

theorem reportExhaustion_frame (s : State) (n : SlotId) : OnlyChanges debitParts s (reportExhaustion s n) := by
  unfold reportExhaustion
  refine OnlyChanges.trans ?_ ((raiseAlert_frame _ n _ none).mono (by decide))
  refine OnlyChanges.trans ((reevalGate_frame s n).mono (by decide)) ?_
  exact OnlyChanges.ite (changeState_frame _ n _) (.refl _ _)

theorem afterDebit_frame (s : State) (n : SlotId) (before : Nat) : OnlyChanges debitParts s (afterDebit s n before) := by
  unfold afterDebit
  split
  · exact .refl _ s
  · next a _ =>
    refine OnlyChanges.ite ?_ (.refl _ s)
    have h : OnlyChanges debitParts s (if 0 < before ∧ headroom a = 0 then
        reportExhaustion (clampHolds (refreshLevel s n) n) n else clampHolds (refreshLevel s n) n) :=
      (((refreshLevel_frame s n).mono (by decide)).trans ((clampHolds_frame _ n).mono (by decide))).trans
        (OnlyChanges.ite (reportExhaustion_frame _ n) (.refl _ _))
    dsimp only
    split
    · exact OnlyChanges.ite (h.trans ((requestAddUsed_frame _ n).mono (by decide))) h
    · exact h

theorem debitDrops_frame (s : State) (n : SlotId) (id : Byte) (d : Nat) : OnlyChanges debitParts s (debitDrops s n id d) := by
  unfold debitDrops
  split
  · exact .refl _ s
  · split
    · exact .refl _ s
    · exact (((setAccount_frame s n _).mono (by decide)).trans ((modSwath_frame _ id _).mono (by decide))).trans
        (afterDebit_frame _ n _)

theorem debitPurge_frame (s : State) (n : SlotId) (a : Nat) : OnlyChanges debitParts s (debitPurge s n a) := by
  unfold debitPurge
  split
  · exact .refl _ s
  · exact ((setAccount_frame s n _).mono (by decide)).trans (afterDebit_frame _ n _)

theorem openAccount_frame (s : State) (n : SlotId) (a : Account) : OnlyChanges [.cbc, .accounts] s (openAccount s n a) :=
  ((setAccount_frame s n _).mono (by decide)).trans ((requestAddUsed_frame _ n).mono (by decide))

/-! ### Results of transactions -/

theorem contactLoss_frame (s : State) (n : SlotId) : OnlyChanges debitParts s (contactLoss s n) := by
  unfold contactLoss
  split
  · exact rejectSlot_frame s n _
  · exact .refl _ s

theorem reportIfLost_frame (s : State) (n : SlotId) (k : Nat) : OnlyChanges debitParts s (reportIfLost s n k) := by
  unfold reportIfLost
  split
  · exact contactLoss_frame s n
  · exact .refl _ s

theorem counterFell_frame (s : State) (n : SlotId) (a : Account) : OnlyChanges debitParts s (counterFell s n a) :=
  ((setAccount_frame s n _).mono (by decide)).trans ((raiseAlert_frame _ n _ none).mono (by decide))

theorem landed_frame (s : State) (n : SlotId) (a : Account) (k total : Nat) :
    OnlyChanges debitParts s (landed s n a k total) := by
  unfold landed
  dsimp only
  refine OnlyChanges.trans ?_ ((spentCheck_frame _ n).mono (by decide))
  refine OnlyChanges.trans ?_ ((modAccount_frame _ n _).mono (by decide))
  split
  · exact ((setAccount_frame s n _).mono (by decide)).trans (afterDebit_frame _ n _)
  · exact .refl _ s

theorem refusedSpent_frame (s : State) (n : SlotId) (a : Account) (k : Word) :
    OnlyChanges debitParts s (refusedSpent s n a k) :=
  ((setAccount_frame s n _).mono (by decide)).trans ((postEvent_frame _ _ _ _ _).mono (by decide))

theorem addUsedFailed_frame (s : State) (n : SlotId) (a : Account) (e : BusError) :
    OnlyChanges debitParts s (addUsedFailed s n a e) := by
  unfold addUsedFailed
  dsimp only
  have h := (((setAccount_frame s n (some (countFailure { returnInFlight a with doubtful := a.inFlight }))).mono
    (qs := debitParts) (by decide)).trans ((postEvent_frame _ .writebackFailed (slotByte n) e.code
      (some (BitVec.ofNat 32 (countFailure { returnInFlight a with doubtful := a.inFlight }).failures))).mono
        (by decide))).trans (reportIfLost_frame _ n (countFailure { returnInFlight a with doubtful := a.inFlight }).failures)
  split
  · exact (h.trans ((enqueueOp_frame _ n _).mono (by decide))).trans ((requestAddUsed_frame _ n).mono (by decide))
  · exact h

theorem addUsedResult_frame (s : State) (n : SlotId) (e a : Nat) (r : TxResult) :
    OnlyChanges debitParts s (addUsedResult s n e a r) := by
  unfold addUsedResult
  split
  · exact refusedSpent_frame s n _ _
  · dsimp only
    split
    · exact landed_frame s n _ _ _
    · exact counterFell_frame s n _
  · exact addUsedFailed_frame s n _ _
  · exact .refl _ s

theorem settleDoubt_frame (s : State) (n : SlotId) (a : Account) (k : Nat) :
    OnlyChanges debitParts s (settleDoubt s n a k) := by
  unfold settleDoubt
  dsimp only
  split
  · exact (((setAccount_frame s n _).mono (by decide)).trans ((requestAddUsed_frame _ n).mono (by decide))).trans
      ((spentCheck_frame _ n).mono (by decide))
  · split
    · exact (((setAccount_frame s n _).mono (by decide)).trans ((requestAddUsed_frame _ n).mono (by decide))).trans
        ((spentCheck_frame _ n).mono (by decide))
    · split
      · exact (((((setAccount_frame s n _).mono (by decide)).trans (afterDebit_frame _ n _)).trans
          ((modAccount_frame _ n _).mono (by decide))).trans ((requestAddUsed_frame _ n).mono (by decide))).trans
            ((spentCheck_frame _ n).mono (by decide))
      · exact counterFell_frame s n _

theorem readUsageFailed_frame (s : State) (n : SlotId) (a : Account) (e : BusError) :
    OnlyChanges debitParts s (readUsageFailed s n a e) := by
  unfold readUsageFailed
  dsimp only
  have h := (((setAccount_frame s n (some (countFailure a))).mono (qs := debitParts) (by decide)).trans
    ((postEvent_frame _ .writebackFailed (slotByte n) e.code
      (some (BitVec.ofNat 32 (countFailure a).failures))).mono (by decide))).trans
        (reportIfLost_frame _ n (countFailure a).failures)
  split
  · exact h.trans ((enqueueOp_frame _ n _).mono (by decide))
  · exact h

theorem readUsageResult_frame (s : State) (n : SlotId) (r : TxResult) :
    OnlyChanges debitParts s (readUsageResult s n r) := by
  unfold readUsageResult
  split
  · split
    · exact (setAccount_frame s n _).mono (by decide)
    · exact settleDoubt_frame s n _ _
  · exact readUsageFailed_frame s n _ _
  · exact .refl _ s

theorem markSpentFailed_frame (s : State) (n : SlotId) (a : Account) : OnlyChanges debitParts s (markSpentFailed s n a) := by
  unfold markSpentFailed
  have h (b : Account) : OnlyChanges debitParts s (reportIfLost (setAccount s n (some b)) n b.failures) :=
    ((setAccount_frame s n (some b)).mono (by decide)).trans (reportIfLost_frame _ n b.failures)
  exact OnlyChanges.ite ((h _).trans ((spentCheck_frame _ n).mono (by decide))) (h _)

theorem markSpentResult_frame (s : State) (n : SlotId) (r : TxResult) :
    OnlyChanges debitParts s (markSpentResult s n r) := by
  unfold markSpentResult
  split
  · exact (setAccount_frame s n _).mono (by decide)
  · exact markSpentFailed_frame s n _
  · exact .refl _ s

theorem judgeBlock_frame (s : State) (n : SlotId) (raw : List Byte) : OnlyChanges debitParts s (judgeBlock s n raw) := by
  unfold judgeBlock
  split
  · exact rejectSlot_frame s n _
  · exact (((setIdentity_frame s n _).mono (by decide)).trans (changeState_frame _ n _)).trans
      ((placeAdmission_frame _ n _).mono (by decide))

theorem readIdResult_frame (s : State) (n : SlotId) (r : TxResult) : OnlyChanges debitParts s (readIdResult s n r) := by
  unfold readIdResult
  split
  · exact .refl _ s
  · split
    · exact judgeBlock_frame s n _
    · exact rejectSlot_frame s n _
    · exact rejectSlot_frame s n _
    · exact .refl _ s

theorem openOutcome_frame (s : State) (n : SlotId) (id : IdRecord) (c : Nat) (spent empty : Bool) (cls : AccountClass)
    (refill : Option RefillReason) (k : Nat) :
    OnlyChanges debitParts s (openOutcome s n id c spent empty cls refill k) := by
  unfold openOutcome
  dsimp only
  have h := (((openAccount_frame s n (openingAccount s.settings.limits id cls refill c k spent)).mono
    (qs := debitParts) (by decide)).trans (changeState_frame _ n (admittedState (openAccount s n
      (openingAccount s.settings.limits id cls refill c k spent)) n (if empty = true then .exhausted else .ready)))).trans
        ((setIdentity_frame _ n none).mono (by decide))
  have h2 (t : State) : OnlyChanges debitParts t (if empty = true then raiseAlert t n .exhausted none else t) := by
    split
    · exact (raiseAlert_frame t n _ _).mono (by decide)
    · exact .refl _ t
  split
  · exact (h.trans (h2 _)).trans ((raiseAlert_frame _ n _ _).mono (by decide))
  · exact h.trans (h2 _)

theorem reconcileSlot_frame (s : State) (n : SlotId) (id : IdRecord) (c : Nat) (spent : Bool) :
    OnlyChanges debitParts s (reconcileSlot s n id c spent) := by
  unfold reconcileSlot
  split
  · exact ((setIdentity_frame s n _).mono (by decide)).trans (rejectSlot_frame _ n _)
  · exact openOutcome_frame s n id c spent _ _ _ _

theorem provenOutcome_frame (s : State) (n : SlotId) (id : IdRecord) (c : Word) (f : Byte) :
    OnlyChanges debitParts s (provenOutcome s n id c f) :=
  (changeState_frame s n _).trans (reconcileSlot_frame _ n id _ _)

theorem mismatchOutcome_frame (s : State) (n : SlotId) (id : IdRecord) (c : Option Word) (f : Option Byte) :
    OnlyChanges debitParts s (mismatchOutcome s n id c f) := by
  unfold mismatchOutcome
  split
  · exact ((setIdentity_frame s n _).mono (by decide)).trans (rejectSlot_frame _ n _)
  · dsimp only
    exact ((((openAccount_frame s n _).mono (by decide)).trans (changeState_frame _ n _)).trans
      ((setIdentity_frame _ n _).mono (by decide))).trans ((raiseAlert_frame _ n _ _).mono (by decide))

theorem noResponseOutcome_frame (s : State) (n : SlotId) : OnlyChanges debitParts s (noResponseOutcome s n) :=
  ((setIdentity_frame s n _).mono (by decide)).trans (rejectSlot_frame _ n _)

theorem freePrf_frame (s : State) : OnlyChanges [.prf] s (freePrf s) := prf_frame s _

theorem challengeResult_frame (s : State) (n : SlotId) (r : TxResult) :
    OnlyChanges debitParts s (challengeResult s n r) := by
  unfold challengeResult
  split
  · exact .refl _ s
  · have h := (freePrf_frame s).mono (qs := debitParts) (by decide)
    split
    · exact h.trans (mismatchOutcome_frame _ n _ _ _)
    · exact h.trans (noResponseOutcome_frame _ n)
    · exact h
    · exact h

theorem startResponseDigest_frame (s : State) : OnlyChanges [.prf] s (startResponseDigest s) := by
  unfold startResponseDigest
  dsimp only
  split
  · split
    · exact prf_frame s _
    · exact .refl _ s
  · exact .refl _ s

theorem takeChallengeReply_frame (s : State) (body : List Byte) : OnlyChanges [.prf] s (takeChallengeReply s body) :=
  (prf_frame s _).trans (startResponseDigest_frame _)

theorem responseChecked_frame (s : State) (d : BitVec 64) : OnlyChanges debitParts s (responseChecked s d) := by
  have h := (freePrf_frame s).mono (qs := debitParts) (by decide)
  unfold responseChecked
  dsimp only
  split
  · split
    · split
      · exact h.trans (provenOutcome_frame _ _ _ _ _)
      · exact h.trans (mismatchOutcome_frame _ _ _ _ _)
    · exact h
  · exact h

theorem passThroughResult_frame (s : State) (n : SlotId) (o l : Byte) (tag : Nat) (r : TxResult) :
    OnlyChanges [.sysp] s (passThroughResult s n o l tag r) := by
  unfold passThroughResult
  split
  · split
    · exact sysp_frame s _
    · exact .refl _ s
  · exact .refl _ s

theorem handOver_frame (s : State) (tx : Transaction) (r : TxResult) : OnlyChanges debitParts s (handOver s tx r) := by
  unfold handOver
  split
  · exact readIdResult_frame s _ r
  · exact challengeResult_frame s _ r
  · exact addUsedResult_frame s _ _ _ r
  · exact readUsageResult_frame s _ r
  · exact markSpentResult_frame s _ r
  · exact (passThroughResult_frame s _ _ _ _ r).mono (by decide)

/-! ### History -/

theorem markOthers_frame {α : Type} {k : Nat} (s : State) (t : Vector (Option α) k) (rec : Fin k → Fin 118) (p : Fin k) :
    OnlyChanges [.sto] s (markOthers s t rec p) := by
  refine OnlyChanges.foldl _ (fun s j => ?_) _ s
  split
  · exact markDirty_frame s _
  · exact .refl _ s

theorem readyStamp_frame (s : State) (p : Fin 32) : OnlyChanges [.his, .sto] s (readyStamp s p) := by
  unfold readyStamp
  split
  · exact ((his_frame s _).mono (by decide)).trans ((markOthers_frame _ _ _ _).mono (by decide))
  · exact .refl _ s

theorem writeSeen_frame (s : State) (serial : Serial) (c u : Nat) (n : SlotId) (cls : AccountClass) :
    OnlyChanges [.his, .sto] s (writeSeen s serial c u n cls) :=
  ((readyStamp_frame s _).trans ((his_frame _ _).mono (by decide))).trans ((markDirty_frame _ _).mono (by decide))

theorem readyRetire_frame (s : State) (p : Fin 64) : OnlyChanges [.his, .sto] s (readyRetire s p) := by
  unfold readyRetire
  split
  · exact ((his_frame s _).mono (by decide)).trans ((markOthers_frame _ _ _ _).mono (by decide))
  · exact .refl _ s

theorem newRetired_frame (s : State) (serial : Serial) (why : RetiredReason) :
    OnlyChanges [.his, .sto] s (newRetired s serial why) :=
  ((readyRetire_frame s _).trans ((his_frame _ _).mono (by decide))).trans ((markDirty_frame _ _).mono (by decide))

theorem addRetired_frame (s : State) (serial : Serial) (why : RetiredReason) :
    OnlyChanges [.his, .sto] s (addRetired s serial why) := by
  unfold addRetired
  split
  · exact newRetired_frame s serial why
  · split
    · split
      · exact ((his_frame s _).mono (by decide)).trans ((markDirty_frame _ _).mono (by decide))
      · exact .refl _ s
    · exact .refl _ s

theorem seenFromAccount_frame (s : State) (n : SlotId) (a : Account) :
    OnlyChanges [.his, .sto] s (seenFromAccount s n a) := writeSeen_frame s _ _ _ n _

theorem closeIntoHistory_frame (s : State) (n : SlotId) (a : Account) :
    OnlyChanges [.his, .sto] s (closeIntoHistory s n a) := by
  unfold closeIntoHistory
  split
  · dsimp only
    split
    · exact (seenFromAccount_frame s n a).trans (addRetired_frame _ _ _)
    · split
      · exact (seenFromAccount_frame s n a).trans (addRetired_frame _ _ _)
      · exact seenFromAccount_frame s n a
  · exact .refl _ s

theorem closeAccount_frame (s : State) (n : SlotId) : OnlyChanges [.his, .sto, .accounts] s (closeAccount s n) := by
  unfold closeAccount
  split
  · exact .refl _ s
  · exact ((closeIntoHistory_frame s n _).mono (by decide)).trans ((setAccount_frame _ n _).mono (by decide))

theorem provisionalEntries_frame (s : State) : OnlyChanges [.his, .sto] s (provisionalEntries s) := by
  refine forSlots_frame _ (fun s n => ?_) s
  split
  · split
    · exact seenFromAccount_frame s n _
    · exact .refl _ s
  · exact .refl _ s

/-! ### The drained bus and the end of attempts -/

theorem storeFlushCheck_frame (s : State) : OnlyChanges [.sto, .sysp] s (storeFlushCheck s) := by
  unfold storeFlushCheck
  split
  · exact ((postEvent_frame s _ _ _ _).mono (by decide)).trans ((sto_frame _ _).mono (by decide))
  · exact .refl _ s

theorem drainCheck_frame (s : State) : OnlyChanges [.his, .sto, .sysp] s (drainCheck s) := by
  unfold drainCheck
  split
  · dsimp only
    exact (((provisionalEntries_frame s).mono (by decide)).trans ((sto_frame _ _).mono (by decide))).trans
      ((storeFlushCheck_frame _).mono (by decide))
  · exact .refl _ s

theorem leaveLine_frame (s : State) : OnlyChanges resultParts s (leaveLine s) :=
  (((cbc_frame s _).mono (by decide)).trans ((arbitrate_frame _).mono (by decide))).trans
    ((drainCheck_frame _).mono (by decide))

theorem nextAttempt_frame (s : State) (tx : Transaction) : OnlyChanges resultParts s (nextAttempt s tx) := by
  unfold nextAttempt
  split
  · split
    · exact ((unbuiltChallenge_frame s _).mono (by decide)).trans (leaveLine_frame _)
    · next h => exact ((startChallenge_frame h).mono (by decide)).trans ((beginAttempt_frame _ _).mono (by decide))
  · exact (beginAttempt_frame s _).mono (by decide)

theorem failAttempt_frame (s : State) (tx : Transaction) (noted : List BusError) :
    OnlyChanges resultParts s (failAttempt s tx noted) := by
  have h (t : State) (k : OnlyChanges resultParts s t) :
      OnlyChanges resultParts s (if tx.attempt < 3 then
        nextAttempt t { tx with attempt := tx.attempt + 1, noted := [], deadline := none, limit := none }
        else leaveLine (handOver t tx (.failure (reportedError noted)))) :=
    OnlyChanges.ite (k.trans (nextAttempt_frame _ _))
      ((k.trans ((handOver_frame _ tx _).mono (by decide))).trans (leaveLine_frame _))
  exact h _ ((cbc_frame s _).mono (by decide))

theorem acceptReply_frame (s : State) (tx : Transaction) (st : CartStatus) (body : List Byte) :
    OnlyChanges resultParts s (acceptReply s tx st body) := by
  unfold acceptReply
  split
  · exact ((cbc_frame s _).mono (by decide)).trans ((takeChallengeReply_frame _ body).mono (by decide))
  · exact ((handOver_frame s tx _).mono (by decide)).trans (leaveLine_frame _)

theorem cancelEntry_frame (s : State) (e : QEntry) : OnlyChanges [.sysp] s (cancelEntry s e) := by
  unfold cancelEntry
  split
  · exact passThroughResult_frame s _ _ _ _ _
  · exact .refl _ s

theorem abortLine_frame (s : State) (n : SlotId) : OnlyChanges resultParts s (abortLine s n) := by
  unfold abortLine
  split
  · exact .refl _ s
  · split
    · exact ((cbc_frame s _).mono (by decide)).trans ((handOver_frame _ _ _).mono (by decide))
    · exact .refl _ s

theorem cancelSlotWork_frame (s : State) (n : SlotId) : OnlyChanges resultParts s (cancelSlotWork s n) := by
  unfold cancelSlotWork
  refine OnlyChanges.trans ?_ ((drainCheck_frame _).mono (by decide))
  refine OnlyChanges.trans ?_ ((arbitrate_frame _).mono (by decide))
  refine OnlyChanges.trans ?_ (abortLine_frame _ n)
  exact ((cbc_frame s _).mono (by decide)).trans
    ((OnlyChanges.foldl _ (fun s e => cancelEntry_frame s e) _ _).mono (by decide))

theorem endSlotWork_frame (s : State) (n : SlotId) : OnlyChanges resultParts s (endSlotWork s n) :=
  (((closeAccount_frame s n).mono (by decide)).trans (cancelSlotWork_frame _ n)).trans ((engp_frame _ _).mono (by decide))

theorem insertion_frame (s : State) (n : SlotId) : OnlyChanges debitParts s (insertion s n) := by
  unfold insertion
  dsimp only
  split
  · exact (changeState_frame s n _).trans (startReading_frame _ n)
  · exact changeState_frame s n _

theorem removal_frame (s : State) (n : SlotId) : OnlyChanges resultParts s (removal s n) := by
  unfold removal
  dsimp only
  have h := (((endSlotWork_frame s n).trans ((setIdentity_frame _ n none).mono (by decide))).trans
    ((modSlot_frame _ n fun r => { r with target := .online }).mono (by decide))).trans
      ((changeState_frame _ n .vacant).mono (by decide))
  split
  · exact h.trans ((raiseAlert_frame _ n _ _).mono (by decide))
  · exact h

end Sys2Proof.Machine
end

