-- ==== Sys2Proof/Laws/Arbiter.lean ====
section
/-! SUPPORT. What the arbiter does to the accounts: nothing, or one account's pending ink becomes in-flight (R64, R94). -/

namespace Sys2Proof.Machine

theorem arbitrateUpTo_busy (k : Nat) (s : State) (h : s.cbc.line.isSome = true) : arbitrateUpTo k s = s := by
  cases k with
  | zero => rfl
  | succ k => simp [arbitrateUpTo, h]

/-- A busy line keeps the arbiter still (R64). -/
theorem arbitrate_busy (s : State) (h : s.cbc.line.isSome = true) : arbitrate s = s := arbitrateUpTo_busy _ s h

/-- `b` is `a` with some of its pending ink moved to in-flight (R94). -/
def Sent (a b : Account) : Prop :=
  a.suspended = false ∧ a.doubtful = 0 ∧ 0 < a.pendingInk ∧
    ∃ m, 0 < m ∧ m ≤ a.pendingInk ∧ b = { a with inFlight := a.inFlight + m, pendingInk := a.pendingInk - m }

theorem beginAttempt_line (s : State) (tx : Transaction) : (beginAttempt s tx).cbc.line.isSome = true := by
  unfold beginAttempt messageReady; split <;> rfl
theorem beginAttempt_accounts (s : State) (tx : Transaction) : (beginAttempt s tx).accounts = s.accounts := by
  unfold beginAttempt messageReady; split <;> rfl

theorem addUsedBody_spec {s t : State} {n : SlotId} {e m : Nat} (h : addUsedBody s n = some (e, m, t)) :
    ∃ a, s.accounts[n] = some a ∧ e = a.base + a.confirmed ∧ a.suspended = false ∧ a.doubtful = 0 ∧ 0 < a.pendingInk ∧
      contactLost s n = false ∧ e < counterMax ∧ m = min a.pendingInk (counterMax - e) ∧
      t = setAccount s n (some { a with inFlight := a.inFlight + m, pendingInk := a.pendingInk - m }) := by
  unfold addUsedBody at h
  split at h
  · cases h
  · rename_i a ha
    dsimp only at h
    split at h
    · cases h
    · rename_i hc
      simp only [not_or, Nat.not_lt, Nat.not_le] at hc
      injection h with h
      injection h with h1 h
      injection h with h2 h3
      subst h1; subst h2; subst h3
      refine ⟨a, ha, rfl, by simpa using hc.2.1, by omega, by omega, by simpa using hc.2.2.2.1, by omega, rfl, rfl⟩

theorem startTransaction_accounts (s : State) (n : SlotId) (c : TxCommand) (_ : s.cbc.line = none) :
    (startTransaction s n c).accounts = s.accounts ∨
      (startTransaction s n c).cbc.line.isSome = true ∧ ∃ a b, s.accounts[n] = some a ∧ Sent a b ∧
        (startTransaction s n c).accounts = put s.accounts n (some b) := by
  unfold startTransaction
  split
  · split
    · exact .inl rfl
    · rename_i e m t ht
      obtain ⟨a, ha, he, hs, hd, hp, hc, hm, rfl, rfl⟩ := addUsedBody_spec ht
      have hb := beginAttempt_accounts (setAccount s n (some { a with
          inFlight := a.inFlight + min a.pendingInk (counterMax - e), pendingInk := a.pendingInk - min a.pendingInk (counterMax - e) }))
      exact .inr ⟨beginAttempt_line _ _, a, _, ha, ⟨hs, hd, hp, min a.pendingInk (counterMax - e), by omega,
        Nat.min_le_left _ _, rfl⟩, hb _⟩
  · split
    · left; simp only [unbuiltChallenge, releaseContext]; split <;> rfl
    · rename_i body t ht
      left; rw [beginAttempt_accounts]
      have := startChallenge_frame ht .accounts (by decide); exact this
  · left; exact beginAttempt_accounts _ _
  · left; exact beginAttempt_accounts _ _

theorem arbitrateUpTo_accounts (k : Nat) (s : State) :
    (arbitrateUpTo k s).accounts = s.accounts ∨
      s.cbc.line = none ∧ (arbitrateUpTo k s).cbc.line.isSome = true ∧ ∃ n a b, s.accounts[n] = some a ∧ Sent a b ∧
        (arbitrateUpTo k s).accounts = put s.accounts n (some b) := by
  induction k generalizing s with
  | zero => exact .inl rfl
  | succ k ih =>
    by_cases hl : s.cbc.line.isSome = true
    · rw [arbitrateUpTo_busy _ _ hl]; exact .inl rfl
    · rw [arbitrateUpTo, if_neg hl]
      split
      · exact .inl rfl
      · rename_i n c q hq
        have hn : s.cbc.line = none := by simpa using hl
        rcases startTransaction_accounts { s with cbc := { s.cbc with queue := q } } n c hn with h | ⟨h1, a, b, ha, hs, h2⟩
        · rcases ih (startTransaction { s with cbc := { s.cbc with queue := q } } n c) with h3 | ⟨h3, h4, m, a, b, ha, hs, h5⟩
          · exact .inl (h3.trans h)
          · rw [h] at ha h5
            exact .inr ⟨hn, h4, m, a, b, ha, hs, h5⟩
        · rw [arbitrateUpTo_busy _ _ h1]
          exact .inr ⟨hn, h1, n, a, b, ha, hs, h2⟩

/-- The arbiter leaves the accounts alone, or moves pending ink of one account to in-flight as the line becomes busy (R94). -/
theorem arbitrate_accounts (s : State) :
    (arbitrate s).accounts = s.accounts ∨
      s.cbc.line = none ∧ (arbitrate s).cbc.line.isSome = true ∧ ∃ n a b, s.accounts[n] = some a ∧ Sent a b ∧
        (arbitrate s).accounts = put s.accounts n (some b) := arbitrateUpTo_accounts _ s

end Sys2Proof.Machine
end

