-- ==== Sys2Proof/Laws/Requests.lean ====
section
/-! SUPPORT. What the frames of requests and service commands can change, given what the command they carry changes. -/

namespace Sys2Proof.Machine

theorem sysRequest_frame {ps : List Part} (hm : .sysp ∈ ps) (s : State) (sel : Selection) (k : Byte) (len : Nat)
    (act : State → Answer) (h : ∀ t, OnlyChanges ps t (act t).1) : OnlyChanges ps s (sysRequest s sel k len act) := by
  have hs : [Part.sysp] ⊆ ps := by simpa using hm
  unfold sysRequest
  refine OnlyChanges.ite ?_ (.refl _ s)
  exact ((((sysp_frame s _).mono hs).trans ((sysp_frame _ _).mono hs)).trans (h _)).trans ((sysp_frame _ _).mono hs)

theorem forSlot_frame {ps : List Part} (slot : Byte) (act : SlotId → State → Answer)
    (h : ∀ n t, OnlyChanges ps t (act n t).1) (s : State) : OnlyChanges ps s (forSlot slot act s).1 := by
  unfold forSlot
  split
  · exact .refl _ s
  · exact h _ s

theorem engRequest_frame {ps : List Part} (hm : .engp ∈ ps) (s : State) (sel : Selection) (k : Byte) (len : Nat)
    (act : State → EngAnswer) (h : ∀ t, OnlyChanges ps t (act t).state) : OnlyChanges ps s (engRequest s sel k len act) := by
  have hs : [Part.engp] ⊆ ps := by simpa using hm
  unfold engRequest
  refine OnlyChanges.ite ?_ (.refl _ s)
  exact (((engp_frame s _).mono hs).trans (h _)).trans ((engp_frame _ _).mono hs)

theorem openCommand_frame (s : State) (k : Byte) (act : State → Answer) (h : ∀ t, (act t).1 = t) :
    OnlyChanges [.svl] s (openCommand s k act) := by
  unfold openCommand
  refine OnlyChanges.ite ?_ (.refl _ s)
  dsimp only
  rw [h s]
  exact (setUnlock_frame s _).trans (svcReply_frame _ _ _ _)

theorem privileged_frame {ps : List Part} (hm : .svl ∈ ps) (s : State) (k : Byte)
    (act : State → Answer) (h : ∀ t, OnlyChanges ps t (act t).1) : OnlyChanges ps s (privileged s k act) := by
  have hs : [Part.svl] ⊆ ps := by simpa using hm
  unfold privileged
  refine OnlyChanges.ite (OnlyChanges.ite ?_ ?_) (.refl _ s)
  · exact (((setUnlock_frame s _).mono hs).trans (h _)).trans ((svcReply_frame _ _ _ _).mono hs)
  · exact ((setUnlock_frame s _).mono hs).trans ((svcReply_frame _ _ _ _).mono hs)

theorem takeEntries_frame (id : Byte) (k : Nat) (es : List DropEntry) (s : State) :
    OnlyChanges debitParts s (takeEntries id k s es).1 := by
  induction es generalizing s with
  | nil => exact .refl _ s
  | cons e es ih =>
    unfold takeEntries
    refine OnlyChanges.trans ?_ (ih _)
    unfold takeEntry
    dsimp only
    split
    · exact ((setAccount_frame s _ _).mono (by decide)).trans (debitDrops_frame _ _ _ _)
    · exact .refl _ s

theorem onLine_frame {ps : List Part} (s : State) (f : Transaction → State) (h : ∀ tx, OnlyChanges ps s (f tx)) :
    OnlyChanges ps s (onLine s f) := by
  unfold onLine
  split
  · exact OnlyChanges.ite (h _) (.refl _ s)
  · exact .refl _ s

theorem setLine_frame (s : State) (tx : Transaction) (i : Nat) : OnlyChanges [.cbc] s (setLine s tx i) := cbc_frame s _

theorem fullReset_frame (s : State) (p : Phase) : OnlyChanges resetParts s (fullReset s p) := by
  intro p hp; cases p <;> first | rfl | exact (hp (by decide)).elim

theorem clearSeen_frame (s : State) (f : SeenEntry → Bool) : OnlyChanges [.his, .sto] s (clearSeen s f).1 :=
  ((his_frame s _).mono (by decide)).trans (OnlyChanges.foldl _ (fun s p => (markDirty_frame s _).mono (by decide)) _ _)

theorem clearRetired_frame (s : State) (f : RetiredEntry → Bool) : OnlyChanges [.his, .sto] s (clearRetired s f).1 :=
  ((his_frame s _).mono (by decide)).trans (OnlyChanges.foldl _ (fun s p => (markDirty_frame s _).mono (by decide)) _ _)

theorem refreshLevels_frame (s : State) : OnlyChanges [.settings, .sto, .sysp, .accounts, .slots] s (refreshLevels s) :=
  forSlots_frame _ (fun t n => (refreshLevel_frame t n).mono (by decide)) s

theorem leaveHeld_frame (s : State) : OnlyChanges resultParts s (leaveHeld s) := by
  unfold leaveHeld
  split
  · exact OnlyChanges.ite (leaveLine_frame _) (.refl _ _)
  · exact .refl _ _

theorem actFlush_frame (s : State) : OnlyChanges (arbiterParts ++ [.sysp]) s (actFlush s).1 := by
  have h := forSlots_frame trigger trigger_frame s
  unfold actFlush
  dsimp only
  exact h.mono (by decide)

theorem takeCartRead_frame (s : State) (a b c : Byte) : OnlyChanges (arbiterParts ++ [.sysp]) s (takeCartRead s a b c) := by
  unfold takeCartRead
  split
  · exact ((sysp_frame _ _).mono (by decide)).trans ((joinQueue_frame _ _).mono (by decide))
  · exact (sysp_frame _ _).mono (by decide)
  · exact .refl _ _

/-- The state a system request with `len` body bytes acts on: its selection has ended and the earlier reply is dropped. -/
def reqState (s : State) (sel : Selection) (len : Nat) : State :=
  clearHolder (endSysSelection s sel.ready (len + 3 + sel.filler))

/-- A system request completes: it leaves what its action leaves, with its reply placed (R150 to R152). -/
theorem sysRequest_next (s : State) (sel : Selection) (k : Byte) (len : Nat) (act : State → Answer) {ps : List Part}
    (hr : s.phase = .running) (hm : .sysp ∈ ps) (h : OnlyChanges ps (reqState s sel len) (act (reqState s sel len)).1) :
    ∃ t, (Host.Outcome.next (sysRequest s sel k len act) : Outcome) = .next t ∧ OnlyChanges ps s t ∧
      t = { (act (reqState s sel len)).1 with
        sysp := { (act (reqState s sel len)).1.sysp with holder := t.sysp.holder } } ∧
      SysReplied (holderMet s sel len) k (act (reqState s sel len)).2.1 (act (reqState s sel len)).2.2 t := by
  have hs : [Part.sysp] ⊆ ps := by simpa using hm
  refine ⟨_, rfl, ?_, ?_, ?_⟩
  · simp only [sysRequest, hr, if_true]
    exact ((((sysp_frame s _).mono hs).trans ((sysp_frame _ _).mono hs)).trans h).trans ((sysp_frame _ _).mono hs)
  · simp only [sysRequest, hr, if_true]
    rfl
  · simp only [SysReplied, sysRequest, hr, if_true]
    rfl

theorem forSlot_some {slot : Byte} {n : SlotId} (h : slotOf slot = some n) (act : SlotId → State → Answer) (s : State) :
    forSlot slot act s = act n s := by simp [forSlot, h]

theorem forSlot_none {slot : Byte} (h : slotOf slot = none) (act : SlotId → State → Answer) (s : State) :
    forSlot slot act s = (s, .range, []) := by simp [forSlot, h]

/-- An engine request completes: it leaves what its action leaves, with its reply placed (R106). -/
theorem engRequest_next (s : State) (sel : Selection) (k : Byte) (len : Nat) (act : State → EngAnswer) {ps : List Part}
    (hr : s.phase = .running) (hm : .engp ∈ ps)
    (h : OnlyChanges ps (endEngSelection s sel.ready (len + 3 + sel.filler))
      (act (endEngSelection s sel.ready (len + 3 + sel.filler))).state) :
    ∃ t, (Host.Outcome.next (engRequest s sel k len act) : Outcome) = .next t ∧ OnlyChanges ps s t ∧
      t = { (act (endEngSelection s sel.ready (len + 3 + sel.filler))).state with
        engp := { (act (endEngSelection s sel.ready (len + 3 + sel.filler))).state.engp with reply := t.engp.reply } } ∧
      EngReplied (replyMet s sel len) k (act (endEngSelection s sel.ready (len + 3 + sel.filler))).status
        (act (endEngSelection s sel.ready (len + 3 + sel.filler))).clamped
        (act (endEngSelection s sel.ready (len + 3 + sel.filler))).temp
        (act (endEngSelection s sel.ready (len + 3 + sel.filler))).body t := by
  have hs : [Part.engp] ⊆ ps := by simpa using hm
  refine ⟨_, rfl, ?_, ?_, ?_⟩
  · simp only [engRequest, hr, if_true]
    exact (((engp_frame s _).mono hs).trans h).trans ((engp_frame _ _).mono hs)
  · simp only [engRequest, hr, if_true]
    rfl
  · simp only [EngReplied, engRequest, hr, if_true]
    rfl

end Sys2Proof.Machine
end

