-- ==== Sys2Proof/Laws/Slots.lean ====
section
/-! SUPPORT. What the shared operations do to slot records: only the slot they name changes, and what its record then is. -/

namespace Sys2Proof.Machine

theorem OtherSlotsKept.refl (n : SlotId) (s : State) : OtherSlotsKept n s s := fun _ _ => rfl

theorem OtherSlotsKept.trans {n : SlotId} {s t u : State} (h : OtherSlotsKept n s t) (k : OtherSlotsKept n t u) :
    OtherSlotsKept n s u := fun m hm => (k m hm).trans (h m hm)

theorem OtherSlotsKept.of_eq {n : SlotId} {s t : State} (h : t.slots = s.slots) : OtherSlotsKept n s t :=
  fun m _ => by rw [h]

theorem OtherSlotsKept.of_frame {n : SlotId} {s t : State} {ps : List Part} (h : OnlyChanges ps s t) (hp : .slots ∉ ps) :
    OtherSlotsKept n s t := .of_eq (h .slots hp)

theorem OtherSlotsKept.ite {n : SlotId} {s t u : State} {c : Prop} [Decidable c] (h : OtherSlotsKept n s t)
    (k : OtherSlotsKept n s u) : OtherSlotsKept n s (if c then t else u) := by
  split
  · exact h
  · exact k

theorem modSlot_others (s : State) (n : SlotId) (f : SlotRec → SlotRec) : OtherSlotsKept n s (modSlot s n f) :=
  fun m hm => by rw [modSlot_slots, upd_other _ _ _ _ hm]

theorem modSlot_same (s : State) (n : SlotId) (f : SlotRec → SlotRec) : (modSlot s n f).slots[n] = f s.slots[n] := by
  rw [modSlot_slots, upd_same]

theorem lampAfterChange_others (s : State) (n : SlotId) : OtherSlotsKept n s (lampAfterChange s n) := modSlot_others s n _

theorem moveSlot_others (s : State) (n : SlotId) (st : SlotState) : OtherSlotsKept n s (moveSlot s n st) :=
  (modSlot_others s n _).trans (lampAfterChange_others _ n)

theorem raiseAlert_others (s : State) (n : SlotId) (c : AlertCode) (v : Option Word) :
    OtherSlotsKept n s (raiseAlert s n c v) := modSlot_others s n _

theorem changeState_slots (s : State) (n : SlotId) (st : SlotState) : (changeState s n st).slots = (moveSlot s n st).slots := by
  unfold changeState
  dsimp only
  split
  · rw [(spentCheck_frame _ n) .slots (by decide), (requestAddUsed_frame _ n) .slots (by decide)]
  · rfl

theorem changeState_others (s : State) (n : SlotId) (st : SlotState) : OtherSlotsKept n s (changeState s n st) :=
  (moveSlot_others s n st).trans (.of_eq (changeState_slots s n st))

theorem rejectSlot_others (s : State) (n : SlotId) (w : Reason) : OtherSlotsKept n s (rejectSlot s n w) :=
  (changeState_others s n _).trans (raiseAlert_others _ n _ _)

theorem startReading_others (s : State) (n : SlotId) : OtherSlotsKept n s (startReading s n) :=
  (changeState_others s n _).trans (.of_frame (placeAdmission_frame _ _ _) (by decide))

/-- The record of a slot that takes a state: the state, the lamp of that state, no override; the rest as it was (R20, R22). -/
theorem moveSlot_same (s : State) (n : SlotId) (st : SlotState) :
    (moveSlot s n st).slots[n] =
      { s.slots[n] with
        state := st
        override := none
        shown := statePattern st (s.accounts[n].map (·.level))
        lampPhase :=
          if s.slots[n].override.isSome || s.slots[n].shown != statePattern st (s.accounts[n].map (·.level)) then 0
          else s.slots[n].lampPhase } := by
  have hp : patternOf (modSlot s n fun r => { r with state := st }) n = statePattern st (s.accounts[n].map (·.level)) := by
    simp only [patternOf, modSlot_same, modSlot_accounts]
  show (modSlot (modSlot s n fun r => { r with state := st }) n _).slots[n] = _
  rw [modSlot_same, modSlot_same, hp]
  dsimp only
  split
  · simp [*]
  · rename_i h
    simp only [Bool.or_eq_true, not_or, Bool.not_eq_true, bne_eq_false_iff_eq, Option.isSome_eq_false_iff, Option.isNone_iff_eq_none] at h
    cases hs : s.slots[n] with
    | mk => simp_all

theorem changeState_same (s : State) (n : SlotId) (st : SlotState) :
    (changeState s n st).slots[n] = (moveSlot s n st).slots[n] := by rw [changeState_slots]

theorem raiseAlert_state (s : State) (n : SlotId) (c : AlertCode) (v : Option Word) :
    (raiseAlert s n c v).slots[n].state = s.slots[n].state ∧ (raiseAlert s n c v).slots[n].target = s.slots[n].target ∧
    (raiseAlert s n c v).slots[n].alert = some (s.slots[n].alert.getD c) ∧
    (raiseAlert s n c v).slots[n].override = s.slots[n].override ∧
    (raiseAlert s n c v).slots[n].present = s.slots[n].present ∧
    (raiseAlert s n c v).slots[n].shown = s.slots[n].shown := by
  have : (raiseAlert s n c v).slots[n] = (match s.slots[n].alert with
    | none => { s.slots[n] with alert := some c, alertCount := 0 }
    | some _ => { s.slots[n] with alertCount := min 15 (s.slots[n].alertCount + 1) }) := modSlot_same s n _
  rw [this]
  cases h : s.slots[n].alert
  · exact ⟨rfl, rfl, rfl, rfl, rfl, rfl⟩
  · exact ⟨rfl, rfl, h, rfl, rfl, rfl⟩

end Sys2Proof.Machine
end

