-- ==== Sys2Proof/Tests/Slice0.lean ====
section
/-! SUPPORT. Tests: ill-formed commands refused, words and figures worked out by hand from the manual, one small step for
each family of commands, and for each obligation with hypotheses a state that meets them. -/

set_option Elab.async false

namespace Sys2Proof.Tests

open Sys2Proof.Machine

/-! ### Small states -/

/-- A part in service with every slot VACANT. -/
def idle : State := { State.reset with phase := .running }

/-- The state a command leaves. -/
def after (o : Outcome) : State := match o with
  | .next t => t
  | .fault _ => idle
  | .refused _ => idle

/-- A selection with no reply ready and no filler. -/
def plain : Selection := ⟨false, 0⟩

/-- A metered account: capacity 1,000 µL, counter 100, 50 µL pending, headroom 850. -/
def acct : Account :=
  ⟨0x0102030405060708, 1000, 1, 1, .genuine, none, true, 100, 0, 0, 0, 50, 0, 0, 50, 0, 0, false, .none, .normal⟩

/-- The same account with its pending ink in flight. -/
def sentAcct : Account := { acct with inFlight := 50, pendingInk := 0 }

/-- Slot 9 in a state, its presence line high. -/
def slot9 (st : SlotState) : State :=
  let s := { idle with lines := { idle.lines with presence := put idle.lines.presence 9 true } }
  modSlot s 9 fun r => { r with state := st, present := true, shown := statePattern st none }

/-- Slot 9 in a state with an open account. -/
def fed (st : SlotState) (a : Account) : State :=
  let s := setAccount (slot9 st) 9 (some a)
  { s with engp := { s.engp with gates := put s.engp.gates 9 (gateCondition s 9) } }

/-- A transaction of slot 9 on the line. -/
def tx9 (c : TxCommand) (attempt : Nat) (a : LineAction) : Transaction := ⟨9, c, attempt, [], 100, 50, a, [], none, none⟩

/-- A state with a transaction of slot 9 on the line. -/
def busy (s : State) (c : TxCommand) (attempt : Nat) (a : LineAction) : State :=
  { s with cbc := { s.cbc with line := some (tx9 c attempt a) } }

/-- A state with a swath of slot 9. -/
def swathing (s : State) (id : Byte) (st : SwathState) : State :=
  { s with engp := { s.engp with
      table := [⟨id, st, [⟨9, if st = .opened then 100 else 0, 0⟩], if st = .opened then some ⟨0, 800000⟩ else none⟩]
      watchdog := if st = .opened then some ⟨0, 2500⟩ else none } }

/-- A state with a purge of slot 9 held. -/
def purging (s : State) (amount : Nat) : State :=
  { s with engp := { s.engp with purges := put s.engp.purges 9 (some ⟨amount, amount, ⟨0, 2000000⟩⟩) } }

/-- The bus flush with the ADD_USED of slot 9 alone outstanding, its reply being taken. -/
def flushing : State :=
  let s := busy (fed .ready sentAcct) (.writeBack .addUsed) 1 (.taking 0x90)
  { s with sto := { s.sto with power := .flushingBus }, cbc := { s.cbc with flush := true } }

/-- The characters of a reply after its address character. -/
def chars (l : List Byte) : List CbusChar := l.map fun b => ⟨false, b⟩

/-- The service line ready, with an unlock state. -/
def served (u : Unlock) : State := { idle with svl := { idle.svl with line := .ready, rate := some 700000, unlock := u } }

/-- The service line in SENDING, its reply one of UNLOCK_A begun at clock 0, a bit-time lasting 100 µs. -/
def replying : State :=
  { idle with svl := { idle.svl with line := .sending, rate := some 700000, reply := some ⟨0xC6, .ok, []⟩ } }

/-! ### Figures of the manual -/

/-- The check values 00_scope.md gives for the nine characters "123456789". -/
theorem test_check_codes :
    crc8 [0x31, 0x32, 0x33, 0x34, 0x35, 0x36, 0x37, 0x38, 0x39] = 0xF4 ∧
      crc16 [0x31, 0x32, 0x33, 0x34, 0x35, 0x36, 0x37, 0x38, 0x39] = 0x29B1 := by decide +kernel

/-- A TAKE_EVENTS for 8 records with one filler byte (R186); the check byte was computed outside the model. -/
theorem test_decode_system :
    Decode.systemSelection [0x0A, 0x01, 0x08, 0xAA, 0x00] true = some (.takeEvents 8 ⟨true, 1⟩) := by decide +kernel

/-- An OPEN_SWATH of id 7 for slot 9 with an estimate of 0x0102 µL, most significant byte first (R1, R186). -/
theorem test_decode_engine :
    Decode.engineSelection [0x21, 0x05, 0x07, 0x01, 0x09, 0x01, 0x02, 0xED] false =
      some (.openSwath 7 [⟨9, 258⟩] ⟨false, 0⟩) := by decide +kernel

/-- An UNLOCK_A with its code: command, two length bytes, body, check byte (R186). -/
theorem test_decode_service :
    Decode.serviceFrameTaken [0x46, 0x00, 0x01, 0xA7, 0x86] = some (.unlockA 0xA7) := by decide +kernel

/-- The bits of a TAKE_EVENTS for 8 records as they are clocked in, most significant first (R148, R186). -/
theorem test_clocked_system :
    Decode.systemClocked
        [false, false, false, false, true, false, true, false, false, false, false, false, false, false, false, true,
          false, false, false, false, true, false, false, false, true, false, true, false, true, false, true, false]
        true = some (.takeEvents 8 ⟨true, 0⟩) ∧
      Decode.systemClocked [true] true = none := by decide +kernel

/-- The same frames with one bit of the check byte turned are BAD_CHECK; a kind of no request is UNKNOWN_KIND. -/
theorem test_decode_failed :
    Decode.systemSelection [0x0A, 0x01, 0x08, 0xAB] false = some (.sysFrameRejected [0x0A, 0x01, 0x08, 0xAB] plain) ∧
      judgeSystem plain [0x0A, 0x01, 0x08, 0xAB] = .failed .badCheck ∧
      judgeService [0x4F, 0x00, 0x00, 0xC1] = .failed .unknownKind ∧
      Decode.systemSelection [0x0A, 0x01] false = some (.sysPartialSelection [0x0A, 0x01] false) ∧
      Decode.systemSelection [] false = none := by decide +kernel

/-- Worked case 4.10: P, F, Q, d and r of one entry at 41 °C. -/
theorem test_metering_worked_case :
    let c : Calibration := ⟨48, 112, 288, 20, true⟩
    let e : DropEntry := ⟨3, 10000, 5000, 2000⟩
    rawVolume c e = 1616000 ∧ temperatureFactor c.kappa (workingTemperature 41) = 4316 ∧
      fineVolume c e (workingTemperature 41) = 6974656000 ∧ carry 65500000000 6974656000 = (1, 6938656000) := by
  decide +kernel

/-- Section 4.12: the factor clamped low, with κ = −64 at 95 °C, and at its edge at 62 °C and 63 °C. -/
theorem test_factor_clamped :
    temperatureFactor 0xC0 95 = 2048 ∧ unclampedFactor 0xC0 95 = -64 ∧ unclampedFactor 0xC0 62 = 2048 ∧
      unclampedFactor 0xC0 63 = 1984 := by decide +kernel

/-- Report C of 4.11: 65,535 drops of each size at 25 °C, on the residue report B leaves. -/
theorem test_metering_sequence :
    let c : Calibration := ⟨48, 112, 288, 20, true⟩
    carry 10494656000 (fineVolume c ⟨3, 65535, 65535, 65535⟩ (workingTemperature 25)) = (1, 62279937280) := by
  decide +kernel

/-! ### Ill-formed commands -/

/-- A backoff run of no bit-time, or longer than any backoff: 8 bit-times for each attempt before, at most three (R58). -/
theorem test_wf_backoff : Instr.wf (.backoffComplete 0) = false ∧ Instr.wf (.backoffComplete 25) = false ∧
    Instr.wf (.backoffComplete 24) = true := by decide +kernel

/-- A rejected frame that fails no check, that is not whole, or that begins with 0x00. -/
theorem test_wf_sysFrameRejected :
    Instr.wf (.sysFrameRejected [0x0A, 0x01, 0x08, 0xAA] plain) = false ∧
      Instr.wf (.sysFrameRejected [0x0A, 0x01, 0x08] plain) = false ∧
      Instr.wf (.sysFrameRejected [0x00, 0x00, 0x01] plain) = false ∧
      Instr.wf (.sysFrameRejected [0x0A, 0x01, 0x08, 0xAB] plain) = true := by decide +kernel

/-- A partial selection that holds a whole frame, nothing, or begins with 0x00. -/
theorem test_wf_sysPartialSelection :
    Instr.wf (.sysPartialSelection [0x0A, 0x01, 0x08, 0xAA] false) = false ∧
      Instr.wf (.sysPartialSelection [] false) = false ∧ Instr.wf (.sysPartialSelection [0x00] false) = false ∧
      Instr.wf (.sysPartialSelection [0x0A] false) = true := by decide +kernel

/-- The same checks on the engine port. -/
theorem test_wf_engine_selections :
    Instr.wf (.engFrameRejected [0x26, 0x00, crc8 [0x26, 0x00]] plain) = false ∧
      Instr.wf (.engFrameRejected [0x26, 0x00, ~~~(crc8 [0x26, 0x00])] plain) = true ∧
      Instr.wf (.engPartialSelection [0x26, 0x00, crc8 [0x26, 0x00]] false) = false ∧
      Instr.wf (.engPartialSelection [0x26, 0x00] false) = true := by decide +kernel

/-- A collect selection without a clock. -/
theorem test_wf_collect : Instr.wf (.sysCollectSelection 0 true) = false ∧ Instr.wf (.engCollectSelection 0 true) = false ∧
    Instr.wf (.sysCollectSelection 1 true) = true := by decide +kernel

/-- A list no length byte can count. -/
theorem test_wf_openSwath : Instr.wf (.openSwath 7 (List.replicate 85 ⟨9, 1⟩) plain) = false ∧
    Instr.wf (.openSwath 7 (List.replicate 84 ⟨9, 1⟩) plain) = true := by decide +kernel

/-- A report of no entries, and one of eleven. -/
theorem test_wf_dropReport : Instr.wf (.dropReport 7 30 [] plain) = false ∧
    Instr.wf (.dropReport 7 30 (List.replicate 11 ⟨9, 1, 0, 0⟩) plain) = false ∧
    Instr.wf (.dropReport 7 30 (List.replicate 10 ⟨9, 1, 0, 0⟩) plain) = true := by decide +kernel

/-- A low run of no length, and a service frame that fails no check, is empty, or runs on past its check byte; one that
fails a check, and the first characters of one. -/
theorem test_wf_service : Instr.wf (.syncLowRunEnd 0) = false ∧
    Instr.wf (.svcFrameRejected [0x46, 0x00, 0x01, 0xA7, 0x86]) = false ∧ Instr.wf (.svcFrameRejected []) = false ∧
    Instr.wf (.svcFrameRejected [0x46, 0x00, 0x01, 0xA7, 0x87, 0x00]) = false ∧
    Instr.wf (.svcFrameRejected [0x46, 0x00, 0x01, 0xA7, 0x87]) = true ∧
    Instr.wf (.svcFrameRejected [0x46, 0x00]) = true := by decide +kernel

/-! ### One step of each family -/

/-- An insertion in AUTO goes to READING and starts READ_ID on the free line, break first (R4, R7, R46). -/
theorem test_insertion :
    let s := { idle with lines := { idle.lines with presence := put idle.lines.presence 9 true } }
    let t := after (exec (.presenceTimerExpiry 9) (modSlot s 9 fun r => { r with presenceTimer := some ⟨0, 5000⟩ }))
    t.slots[9].state = .reading ∧ t.cbc.line = some (newTransaction 9 (.admission .readId) [] |> fun x =>
      { x with action := .breaking }) ∧ t.sysp.events.length = 2 := by decide +kernel

/-- Attempt 2 waits for its preamble with the limit of 5 ms after its backoff of 16 bit-times (R56, R58). -/
theorem test_backoff :
    (after (exec (.backoffComplete 10) (busy idle (.admission .readId) 2 .backoff))).cbc.line =
      some { tx9 (.admission .readId) 2 .preamble with limit := some ⟨0, 500⟩ } := by decide +kernel

/-- TAKE_EVENTS with nothing held replies with a count of 0 and none left (R161). -/
theorem test_take_events :
    (after (exec (.takeEvents 8 plain) idle)).sysp.holder = .ready ⟨0x8A, .ok, 0, [0, 0]⟩ := by decide +kernel

/-- SET_LIMITS clamps: low 60 to 50, reserve 255 to the low 50, threshold 0 to 16 (R156). -/
theorem test_set_limits :
    (after (exec (.setLimits 60 255 0 4 0 61 plain) idle)).settings.limits = ⟨50, 50, 16, 5, 1, 60⟩ := by decide +kernel

/-- OPEN_SWATH for a READY slot holds the estimate; the next for the same id is a duplicate (R109). -/
theorem test_open_swath :
    let t := after (exec (.openSwath 7 [⟨9, 850⟩] plain) (fed .ready acct))
    holds t 9 = 850 ∧ t.engp.watchdog = some ⟨0, 2500⟩ ∧
      ((after (exec (.openSwath 7 [⟨9, 1⟩] plain) t)).engp.reply.map (·.status)) = some .duplicateSwath := by decide +kernel

/-- A purge that takes the last ink starves the open swath and closes the gate (R90, R120). -/
theorem test_exhaustion :
    let t := after (exec (.purgeTimerExpiry 9) (purging (swathing (fed .ready acct) 7 .opened) 4000))
    t.slots[9].state = .exhausted ∧ t.slots[9].alert = some .starved ∧ t.engp.gates[9] = false ∧ holds t 9 = 0 := by
  decide +kernel

/-- Both unlock codes open the line to a privileged command; SET_REGION then takes effect and uses the unlock up (R167). -/
theorem test_unlock :
    let t := after (exec (.unlockB 0x3C) (served .half))
    t.svl.unlock = .opened ∧
      (after (exec (.setRegion 5) { t with svl := { t.svl with line := .ready } })).settings.region = 5 ∧
      (after (exec (.setRegion 5) (served .half))).settings.region = 0 := by decide +kernel

/-- The first character of the reply, 0xC6, as 8N1: a low start bit, the data bits least significant first, a high stop bit
(R165). After 29 bit-times of 10 µs two of its bits are over, and the third is on SVC. -/
theorem test_reply_bits :
    (SvcReply.bits ⟨0xC6, .ok, []⟩).take 10 = [false, false, true, true, false, false, false, true, true, true] ∧
      svcLevel replying = false ∧ (tick { replying with clock := 28 }).svl.sent = [false, false] ∧
      svcLevel (tick { replying with clock := 28 }) = true := by decide +kernel

/-- A character on a free line in the load zeroes the idle count (R45, R179). -/
theorem test_character_in_loading :
    let s := { State.reset with cbc := { State.reset.cbc with idle := 40 } }
    (after (exec (.replyAddressCharacter 0xFF) s)).cbc.idle = 0 ∧ (after (exec .cbusFramingError s)).cbc.idle = 0 := by
  decide +kernel

/-- A part with a blank store comes up with its defaults and record 0 dirty (R177, R178). -/
theorem test_first_load :
    let t := after (exec .startUpLoadComplete State.reset)
    t.phase = .running ∧ t.settings = defaultSettings ∧ t.sto.dirty[0] = true ∧
      t.sysp.events = [⟨0, .settingsDefaulted, 15, 0, none⟩] := by decide +kernel

/-- A write cut by the loss of power leaves its record broken, and the next load counts it bad (R178, R181). -/
theorem test_broken_write :
    let s := { idle with sto := { idle.sto with writer := some (11, .locks (Vector.replicate 10 true)) } }
    let t := after (exec .startUpLoadComplete (after (exec .powerOn (after (exec .powerLoss s)))))
    t.sto.stored[11] = .broken ∧ t.sysp.events.length = 2 ∧ t.locks = Vector.replicate 10 false := by decide +kernel

/-! ### The hypotheses of the obligations can be met

Each theorem is named after its obligation and shows, clause by clause, states and operands that meet the hypotheses. -/

/-- An off part, a quiet line, a backoff, a break, the first and the last bit of a message (its stop bit is high), and
every other action. -/
theorem witness_AnEmptyQueueLetsABitTimePass :
    let c : TxCommand := .admission .readId
    State.reset.pending = [] ∧ { idle with phase := .off }.phase = .off ∧ (idle.phase ≠ .off ∧ idle.cbc.line = none) ∧
      (busy idle c 3 .backoff).cbc.line = some (tx9 c 3 .backoff) ∧ (tx9 c 3 .backoff).action = .backoff ∧
      (tx9 c 1 .breaking).action = .breaking ∧ (messageBits (tx9 c 1 (.sending 0)))[0]? = some false ∧
      (messageBits (tx9 c 1 (.sending 0)))[(messageBits (tx9 c 1 (.sending 0))).length - 1]? = some true ∧
      (tx9 c 1 .awaiting).action ≠ .breaking ∧ (∀ k, (tx9 c 1 .awaiting).action ≠ .sending k) ∧
      (messageBytes (tx9 c 1 .awaiting))[0]? = some 0x91 ∧
      (replying.svl.line = .sending ∧ replying.svl.error = .none ∧ replying.svl.reply = some ⟨0xC6, .ok, []⟩ ∧
        replying.svl.rate = some 700000 ∧ replying.pending = [] ∧ replying.phase ≠ .off) ∧
      (SvcReply.frame ⟨0xC6, .ok, []⟩)[0]? = some 0xC6 ∧ idle.svl.line ≠ .sending := by
  refine ⟨by decide +kernel, by decide +kernel, by decide +kernel, rfl, rfl, rfl, by decide +kernel, by decide +kernel,
    by decide, ?_, by decide +kernel, by decide +kernel, by decide +kernel, by decide⟩
  intro k h
  cases h

theorem witness_SystemFramesRoundTrip :
    systemBody (.cartRead 9 63 32 ⟨true, 2⟩) = some (0x0B, [9, 63, 32]) ∧
      Instr.selection (.cartRead 9 63 32 ⟨true, 2⟩) = some ⟨true, ([0, 0] : List Byte).length⟩ := by decide +kernel

theorem witness_EngineFramesRoundTrip :
    let i : Instr := .openSwath 254 (List.replicate 84 ⟨9, 1⟩) plain
    i.wf = true ∧ (engineBody i).isSome = true ∧ i.selection = some ⟨false, ([] : List Byte).length⟩ := by decide +kernel

theorem witness_ServiceFramesRoundTrip : serviceBody (.loadKey 3 0) = some (0x4E, 3 :: be128 0) := by decide +kernel

/-- Kinds next to each range, a wrong check byte on each link, bodies one byte off their length, and two bytes that differ. -/
theorem witness_FailedChecksAreReportedInOrder :
    ((0x0A : Byte) ≠ 0 ∧ (0xAB : Byte) ≠ crc8 [0x0A, 0x01, 0x08] ∧ [(0x08 : Byte)].length ≤ 255) ∧
      (0x87 : Byte) ≠ crc8 (0x46 :: (be16 (BitVec.ofNat 16 [(0xA7 : Byte)].length) ++ [0xA7])) ∧
      0x10 < (0x11 : Byte).toNat ∧ ((0x20 : Byte).toNat < 0x21 ∧ 0x27 < (0x28 : Byte).toNat) ∧
      ((0x40 : Byte).toNat < 0x41 ∧ 0x4E < (0x4F : Byte).toNat) ∧
      (([1, 0, 2, 1, 1, 1, 1, 1, 2, 1, 3, 2, 7, 0, 2, 1] : List Nat)[(0x10 : Byte).toNat - 1]? = some 1 ∧
        ([] : List Byte).length ≠ 1) ∧
      [(7 : Byte), 1].length ≠ 2 + 3 * (byteAt [(7 : Byte), 1] 1).toNat ∧
      (∀ n : Nat, 1 ≤ n → n ≤ 10 → [(7 : Byte), 30].length ≠ 2 + 7 * n) ∧
      (([1, 3, 3, 0, 0] : List Nat)[(0x27 : Byte).toNat - 0x23]? = some 0 ∧ [(0 : Byte)].length ≠ 0) ∧
      (([0, 0, 0, 0, 0, 1, 1, 8, 2, 10, 1, 11, 10, 17] : List Nat)[(0x4E : Byte).toNat - 0x41]? = some 17 ∧
        (List.replicate 16 (0 : Byte)).length ≠ 17) ∧ (0x00 : Byte) ≠ 0x01 := by
  refine ⟨by decide +kernel, by decide +kernel, by decide, by decide, by decide, by decide, by decide, ?_, by decide,
    by decide, by decide⟩
  intro n h _ e
  simp at e
  omega

/-- A READY slot with its gate high: what the invariants ask of it holds. -/
theorem witness_gate : GateSafe (fed .ready acct) ∧ (fed .ready acct).engp.gates[9] = true := by
  unfold GateSafe; decide +kernel

theorem witness_accounts (st : SlotState) : AccountsSafe (fed st acct) := by
  intro n a h
  have h : (put idle.accounts 9 (some acct))[n] = some a := h
  by_cases hn : n = 9
  · subst hn
    rw [show (put idle.accounts 9 (some acct))[(9 : SlotId)] = some acct from rfl] at h
    injection h with h
    subst h
    unfold AccountSafe
    decide +kernel
  · rw [put_other _ _ _ _ hn] at h
    simp [idle, State.reset] at h

theorem witness_EveryStepKeepsGateLinesSafe :
    AccountsSafe (fed .ready acct) ∧ GateSafe (fed .ready acct) ∧ ∃ t, step (fed .ready acct) = .next t :=
  ⟨witness_accounts _, witness_gate.1, _, rfl⟩

theorem witness_LedgersBalance : LedgersBalance (fed .ready acct) := by
  intro n a h
  have h : (put idle.accounts 9 (some acct))[n] = some a := h
  by_cases hn : n = 9
  · subst hn
    rw [show (put idle.accounts 9 (some acct))[(9 : SlotId)] = some acct from rfl] at h
    injection h with h
    subst h
    decide
  · rw [put_other _ _ _ _ hn] at h
    simp [idle, State.reset] at h

/-- The open slot's serial is the only one claimed. -/
theorem witness_claimed : ∀ n : SlotId, (claimed (fed .ready acct) n).isSome = true → n = 9 := by decide +kernel

theorem witness_AdmissionsSafe : AdmissionsSafe (fed .ready acct) := by
  refine ⟨by decide +kernel, by decide +kernel, by decide +kernel, ?_, by decide +kernel, by decide +kernel, ?_, ?_, ?_⟩
  · intro m n x hm hn
    rw [witness_claimed m (by rw [hm]; rfl), witness_claimed n (by rw [hn]; rfl)]
  · intro _
    refine ⟨by decide +kernel, by decide +kernel, ?_⟩
    intro tx h
    cases h
  · intro n h
    cases h
  · intro tx h
    cases h

/-- An account with a swath that holds 100 µL of its headroom of 850 µL. -/
theorem witness_EveryStepKeepsAccountsInRange :
    let s := fed .ready acct
    (AccountsSafe s ∧ LedgersBalance s ∧ AdmissionsSafe s ∧ SwathsSafe s ∧ HoldsSafe s ∧ ∃ t, step s = .next t) ∧
      HoldsSafe (swathing s 7 .opened) ∧ holds (swathing s 7 .opened) 9 = 100 :=
  ⟨⟨witness_accounts _, witness_LedgersBalance, witness_AdmissionsSafe, by unfold SwathsSafe; decide +kernel,
    by unfold HoldsSafe; decide +kernel, _, rfl⟩, by unfold HoldsSafe; decide +kernel, by decide +kernel⟩

/-- A queue of 24 records with an OVERFLOW record as its newest. -/
def fullQueue : State :=
  { idle with sysp := { idle.sysp with
      events := List.replicate 23 ⟨0, .alert, 9, 14, none⟩ ++ [⟨23, .overflow, 15, 0, some 255⟩] } }

theorem witness_EveryStepKeepsTheEventQueueInBounds : EventsSafe fullQueue ∧ ∃ t, step fullQueue = .next t := by
  refine ⟨⟨by decide +kernel, by decide +kernel, ?_⟩, _, rfl⟩
  intro e he hk
  have : e ∈ List.replicate 23 (⟨0, .alert, 9, 14, none⟩ : Event) ++ [⟨23, .overflow, 15, 0, some 255⟩] := he
  rw [List.mem_append, List.mem_replicate, List.mem_singleton] at this
  rcases this with ⟨_, rfl⟩ | rfl
  · cases hk
  · exact ⟨255, rfl, by decide, by decide⟩

theorem witness_HistorySafe : HistorySafe State.reset := by
  refine ⟨?_, ?_, ?_⟩ <;> intro p <;> intros <;> simp_all [State.reset]

theorem witness_EveryStepKeepsHistorySerialsDistinct : HistorySafe State.reset ∧ ∃ t, step State.reset = .next t :=
  ⟨witness_HistorySafe, _, rfl⟩

theorem witness_SwathsSafe : SwathsSafe (purging (swathing (fed .ready acct) 7 .opened) 4000) := by
  unfold SwathsSafe; decide +kernel

theorem witness_EveryStepKeepsTheSwathTableCoherent :
    SwathsSafe (swathing (fed .ready acct) 7 .opened) ∧ ∃ t, step (swathing (fed .ready acct) 7 .opened) = .next t :=
  ⟨by unfold SwathsSafe; decide +kernel, _, rfl⟩

theorem witness_EveryStepKeepsSettingsInRange : SettingsSafe State.reset ∧ ∃ t, step State.reset = .next t :=
  ⟨by unfold SettingsSafe LimitsSafe; decide +kernel, _, rfl⟩

theorem witness_EveryStepKeepsTheBusInBounds :
    BusSafe (busy idle (.admission .readId) 3 (.sending 0)) ∧
      (∃ t, step (busy idle (.admission .readId) 3 (.sending 0)) = .next t) ∧
      BusSafe (fed .ready acct) ∧ AdmissionsSafe (fed .ready acct) ∧ PlacesSafe (fed .ready acct) ∧
      FlushSafe (fed .ready acct) ∧ ∃ t, step (fed .ready acct) = .next t := by
  refine ⟨⟨?_, by decide +kernel⟩, ⟨_, rfl⟩, ⟨?_, by decide +kernel⟩, witness_AdmissionsSafe, ⟨by decide +kernel,
    by decide +kernel, ?_, by decide +kernel⟩, by unfold FlushSafe; decide +kernel, _, rfl⟩
  · intro tx h
    have h : some (tx9 (.admission .readId) 3 (.sending 0)) = some tx := h
    injection h with h
    subst h
    decide
  · intro tx h
    cases h
  · intro n ops h
    cases h

/-- The bus flush with its last ADD_USED on the line: FLUSHING_BUS stands while that is so. -/
theorem witness_FlushSafe : FlushSafe flushing ∧ AdmissionsSafe flushing ∧ flushing.sto.power = .flushingBus := by
  refine ⟨by unfold FlushSafe; decide +kernel, ⟨by decide +kernel, by decide +kernel, by decide +kernel, ?_,
    by decide +kernel, by decide +kernel, ?_, ?_, ?_⟩, by decide +kernel⟩
  · intro m n x hm hn
    have h : ∀ k : SlotId, (claimed flushing k).isSome = true → k = 9 := by decide +kernel
    rw [h m (by rw [hm]; rfl), h n (by rw [hn]; rfl)]
  · intro _
    refine ⟨by decide +kernel, by decide +kernel, ?_⟩
    intro tx h
    have h : some (tx9 (.writeBack .addUsed) 1 (.taking 0x90)) = some tx := h
    injection h with h
    subst h
    decide
  · intro n h
    cases h
  · intro tx h
    have h : some (tx9 (.writeBack .addUsed) 1 (.taking 0x90)) = some tx := h
    injection h with h
    subst h
    decide

theorem witness_EveryStepKeepsAlertsAndLampsCoherent :
    SlotsSafe (slot9 .seated) ∧ (∃ t, step (slot9 .seated) = .next t) ∧ AdmissionsSafe (fed .ready acct) ∧
      ∃ t, step (fed .ready acct) = .next t :=
  ⟨by unfold SlotsSafe; decide +kernel, ⟨_, rfl⟩, witness_AdmissionsSafe, _, rfl⟩

theorem witness_EveryCommandChangesOnlyItsParts : ∃ t, exec (.levels plain) idle = .next t := ⟨_, rfl⟩

/-- The calibration locks' record being written. -/
def writing : State := { idle with sto := { idle.sto with writer := some (11, .locks (Vector.replicate 10 false)) } }

theorem witness_AStoredRecordChangesOnlyByItsWrite :
    (∃ t, exec .writeComplete writing = .next t ∧ t.sto.stored[11] ≠ writing.sto.stored[11]) ∧
      ∃ t, exec .powerLoss writing = .next t ∧ t.sto.stored[11] ≠ writing.sto.stored[11] :=
  ⟨⟨_, rfl, by decide +kernel⟩, _, rfl, by decide +kernel⟩

theorem witness_LoadedKeysAndLockedCalibrationStay :
    let s := { idle with prf := { idle.prf with keys := put idle.prf.keys 3 (some 5) }, locks := put idle.locks 9 true }
    reloads (.levels plain) = false ∧ (∃ t, exec (.levels plain) s = .next t) ∧ s.prf.keys[3] = some 5 ∧
      s.locks[9] = true :=
  ⟨rfl, ⟨_, rfl⟩, by decide +kernel, by decide +kernel⟩

/-- A presence timer running for slot 9. -/
def timed (s : State) : State := modSlot s 9 fun r => { r with presenceTimer := some ⟨0, 500⟩ }

theorem witness_ThePresenceFilterFollowsTheLine :
    idle.phase = .running ∧ idle.lines.presence[9] ≠ true ∧ (slot9 .ready).lines.presence[9] ≠ false ∧
      (timed idle).slots[9].presenceTimer.isSome = true := by decide +kernel

/-- A cartridge at slot 9's line, its timer run out; the line busy in AUTO and in CLOSED, and free in AUTO. -/
theorem witness_AnInsertionActsOnTheMode :
    let s := timed (busy (slot9 .vacant) (.admission .readId) 1 .awaiting)
    let u := { s with settings := { s.settings with modes := put s.settings.modes 9 .closed } }
    let v := timed (slot9 .vacant)
    (v.phase = .running ∧ v.slots[9].presenceTimer.isSome = true ∧ v.lines.presence[9] = true ∧ v.slots[9].state = .vacant ∧
        v.settings.modes[9] = .auto ∧ v.cbc.line = none ∧ v.cbc.queue = [] ∧ v.cbc.flush = false) ∧
      { v.cbc with flush := true }.flush = true ∧ s.phase = .running ∧ s.slots[9].presenceTimer.isSome = true ∧ s.lines.presence[9] = true ∧ s.slots[9].state = .vacant ∧
      s.cbc.line.isSome = true ∧ s.settings.modes[9] = .auto ∧ u.settings.modes[9] ≠ .auto ∧ u.phase = .running ∧
      u.slots[9].presenceTimer.isSome = true ∧ u.lines.presence[9] = true ∧ u.slots[9].state = .vacant ∧
      u.cbc.line.isSome = true := by decide +kernel

/-- An insertion in AUTO on a free line starts READ_ID at once (R4, R64). -/
theorem test_insertion_starts_read :
    ((after (exec (.presenceTimerExpiry 9) (timed (slot9 .vacant)))).cbc.line.map (·.command)) =
      some (.admission .readId) := by decide +kernel

/-- Slot 9's pass-through read awaited under tag 4, waiting in the queue or on the line. -/
def awaited (waiting : Bool) (s : State) : State :=
  let s := busy s (if waiting then .writeBack .addUsed else .readArea 1 2 4) 1 .awaiting
  { s with
    sysp := { s.sysp with holder := .waiting 4 true }
    cbc := { s.cbc with queue := if waiting then [.passThrough 9 1 2 4] else [] } }

/-- A removal answers the awaited read with NO_CARTRIDGE, slot, offset and length, and owes a break (R46, R66, R154). -/
theorem test_removal_answers_read :
    ∀ waiting : Bool,
      let t := after (exec (.presenceTimerExpiry 9) (timed { awaited waiting (fed .ready acct) with lines := idle.lines }))
      t.sysp.holder = .ready ⟨0x8B, .noCartridge, replyFlags true false false false, [9, 1, 2]⟩ ∧ t.cbc.breakOwed = true := by
  decide +kernel

theorem witness_ARemovalLeavesNothingOfTheCartridge_bus :
    let s (w : Bool) := timed { awaited w (fed .ready acct) with lines := idle.lines }
    ∀ w : Bool, (s w).phase = .running ∧ (s w).slots[9].presenceTimer.isSome = true ∧ (s w).lines.presence[9] = false ∧
      (s w).slots[9].state ≠ .vacant ∧ (s w).sysp.holder = .waiting 4 true ∧
      (s true).cbc.queue = [] ++ .passThrough 9 1 2 4 :: [] ∧ (s false).cbc.queue = [] ∧
      ((s false).cbc.line.map (·.command)) = some (.readArea 1 2 4) ∧ ((s false).cbc.line.map (·.slot)) = some 9 ∧
      idle.cbc.line = none ∧ idle.cbc.queue = [] ∧ idle.sysp.holder = .empty := by decide +kernel

/-- A READY slot whose line went low, with unwritten ink, its mark found, and an alert in the second state; an exhausted
slot that was never marked; and a bus flush during which the seen entry lasts. -/
theorem witness_ARemovalLeavesNothingOfTheCartridge :
    let s := timed { fed .ready { acct with spent := .found } with lines := idle.lines }
    let u := timed { fed .exhausted acct with lines := idle.lines }
    let v := { u with sto := { u.sto with power := .flushingBus } }
    s.phase = .running ∧ s.slots[9].presenceTimer.isSome = true ∧ s.lines.presence[9] = false ∧ s.slots[9].state ≠ .vacant ∧
      s.slots[9].alert = none ∧ removedInUse s 9 = true ∧ s.sto.power = .normal ∧
      s.accounts[9] = some { acct with spent := .found } ∧ acct.metered = true ∧
      (raiseAlert s 9 .starved none).slots[9].alert = some .starved ∧
      (u.slots[9].state = .exhausted ∧ u.accounts[9] = some acct ∧ acct.spent = .none ∧ isRetired u acct.serial = false) ∧
      (v.sto.power = .flushingBus ∧ v.his.stamp + 10 ≤ 4294967295 ∧ (∀ q : Fin 32, v.his.seen[q] = none) ∧
        ∀ m : SlotId, m ≠ 9 → v.accounts[m] = none) := by decide +kernel

theorem witness_AlertsAndLampsAreSetAsAsked :
    idle.phase = .running ∧ slotOf 10 = none ∧ slotOf 9 = some 9 ∧ LampPattern.ofCode 4 = some .flash2 ∧ 4 < (5 : Byte).toNat ∧
      (State.reset.phase ≠ .off ∧ State.reset.phase ≠ .running) ∧
      LampPattern.flash2.cycle[3]? = some (false, 1600) ∧ idle.slots[9].shown.cycle[idle.slots[9].lampPhase]? = some (false, 0) := by
  decide +kernel

/-- The second interval of BLINK_SLOW is dark: the lamp line goes low, then high (R21). -/
theorem test_lamp_line :
    let s := after (exec (.setLamp 9 2 plain) idle)
    lampLine s 9 = some false ∧ lampLine (after (exec (.lampPhaseExpiry 9) s)) 9 = some true := by decide +kernel

/-- A part whose slot 9 is in CONFIRM. -/
def confirming (s : State) : State := { s with settings := { s.settings with modes := put s.settings.modes 9 .confirm } }

theorem witness_SetSlotModeStoresTheMode :
    idle.phase = .running ∧ slotOf 9 = some 9 ∧ Mode.ofCode 2 = some .closed ∧ slotOf 10 = none ∧ 2 < (3 : Byte).toNat ∧
      Mode.ofCode 0 = some .auto ∧ (confirming (slot9 .seated)).slots[9].state = .seated ∧
      (confirming (slot9 .seated)).settings.modes[9] ≠ .auto := by
  decide +kernel

/-- The same state with an alert on slot 9. -/
def alerted (s : State) : State := raiseAlert s 9 .malformed none

theorem witness_AdmitAndRetryStartAnAdmission :
    idle.phase = .running ∧ slotOf 10 = none ∧ slotOf 9 = some 9 ∧ idle.cbc.queue = [] ∧ idle.cbc.flush = false ∧
      idle.cbc.line = none ∧ (busy (slot9 (.rejected .malformed)) (.admission .readId) 1 .awaiting).cbc.line.isSome = true ∧ idle.slots[9].state ≠ .seated ∧
      ((confirming (slot9 .seated)).slots[9].state = .seated ∧ (confirming (slot9 .seated)).settings.modes[9] = .confirm ∧
        (confirming (slot9 .seated)).slots[9].alert = none) ∧
      ((alerted (confirming (slot9 .seated))).slots[9].state = .seated ∧
        (alerted (confirming (slot9 .seated))).slots[9].alert ≠ none) ∧
      idle.slots[9].state.reason = none ∧
      ((busy (slot9 (.rejected .contactLost)) (.admission .readId) 1 .awaiting).cbc.line.map (·.slot)) = some 9 ∧
      ((slot9 (.rejected .contactLost)).slots[9].state = .rejected .contactLost ∧
        (slot9 (.rejected .contactLost)).slots[9].alert = none) ∧
      ((alerted (slot9 (.rejected .malformed))).slots[9].state = .rejected .malformed ∧
        (alerted (slot9 (.rejected .malformed))).slots[9].alert ≠ none) := by decide +kernel

theorem witness_ParkAndUnparkMoveTheSlot :
    slotOf 10 = none ∧ slotOf 9 = some 9 ∧ (fed .ready acct).phase = .running ∧ (fed .ready acct).slots[9].state = .ready ∧
      idle.slots[9].state ≠ .ready ∧ idle.slots[9].state ≠ .parked ∧
      ((fed .parked acct).slots[9].state = .parked ∧ (fed .parked acct).slots[9].alert = none ∧
        (fed .parked acct).accounts[9] = some acct) ∧
      ((alerted (fed .parked acct)).slots[9].state = .parked ∧ (alerted (fed .parked acct)).slots[9].alert ≠ none) := by
  decide +kernel

/-- UNPARK raises the gate line of a slot with headroom, and leaves it low while PFAIL is asserted (R14, R107). -/
theorem test_unpark_gate :
    let s := fed .parked acct
    (after (exec (.unpark 9 plain) s)).engp.gates[9] = true ∧
      (after (exec (.unpark 9 plain) { s with sto := { s.sto with power := .flushed } })).engp.gates[9] = false := by
  decide +kernel

theorem witness_SystemQueriesReportAndChangeNothing :
    idle.phase = .running ∧ slotOf 10 = none ∧ slotOf 9 = some 9 ∧ (fed .ready acct).phase = .running ∧ (fed .ready acct).accounts[9] = some acct ∧
      idle.accounts[9] = none ∧ (31 : Byte).toNat = (31 : Fin 32).val ∧ (63 : Byte).toNat < 64 ∧ 1 < (2 : Byte).toNat ∧
      31 < (32 : Byte).toNat ∧ 63 < (64 : Byte).toNat := by decide +kernel

theorem witness_TakeEventsTakesTheOldestRecords : idle.phase = .running ∧ (8 : Byte).toNat ≤ 8 ∧ 8 < (9 : Byte).toNat := by
  decide +kernel

theorem witness_CartReadJoinsTheQueue :
    readRefusal idle 9 0 1 = some .wrongState ∧ slotOf 9 = some 9 ∧
      (readable (fed .ready acct).slots[9].state = true ∧ (63 : Byte).toNat ≤ 63 ∧ 1 ≤ (32 : Byte).toNat ∧
        (32 : Byte).toNat ≤ 32 ∧ ((fed .ready acct).cbc.queue.filter QEntry.isPassThrough).length < 4 ∧
        (fed .ready acct).cbc.line = none ∧ (fed .ready acct).cbc.queue = [] ∧ (fed .ready acct).cbc.flush = false) ∧
      readable (busy (fed .parked acct) (.writeBack .addUsed) 1 .awaiting).slots[9].state = true ∧
      (busy (fed .parked acct) (.writeBack .addUsed) 1 .awaiting).cbc.line.isSome = true ∧
      readRefusal (fed .ready acct) 9 64 1 = some .range ∧ readRefusal (fed .ready acct) 9 0 33 = some .range := by
  decide +kernel

theorem witness_SettingsRequestsTakeEffect :
    idle.phase = .running ∧ NonGenuinePolicy.ofCode 1 = some .allowUnmetered ∧ SuspectPolicy.ofCode 1 = some .block ∧
      1 < (2 : Byte).toNat ∧
      (⟨50, 50, 4000, 255, 60, 60⟩ : Limits) = ⟨max 1 (min 50 (50 : Byte).toNat), min (max 1 (min 50 (50 : Byte).toNat)) (50 : Byte).toNat,
        max 16 (min 4000 (4000 : Half).toNat), max 5 (min 255 (255 : Byte).toNat), max 1 (min 60 (60 : Byte).toNat),
        max 1 (min 60 (60 : Byte).toNat)⟩ ∧
      ((fed .ready { acct with pendingInk := 450 }).accounts[9] = some { acct with pendingInk := 450 } ∧
        acct.metered = true ∧ (50 : Nat) ≠ idle.settings.limits.low ∧ acct.level = .normal ∧
        lowerLevel .normal (levelComputed ⟨50, 5, 250, 25, 8, 20⟩ 1000 (headroom { acct with pendingInk := 450 })) = .low) := by
  decide +kernel

/-- A low percentage raised to 50 takes a headroom of 450 µL in 1,000 to LOW, and posts it (R87, R157). -/
theorem test_limits_lower_level :
    let s := fed .ready { acct with pendingInk := 450 }
    (after (exec (.setLimits 50 5 250 25 8 20 plain) s)).sysp.events = [⟨0, .level, 9, Level.low.code, some 450⟩] := by
  decide +kernel

/-- The account of `fed` can send its pending ink. -/
theorem witness_canSend : canSend (fed .ready acct) 9 acct := by unfold canSend; decide +kernel

/-- A line taken, a free line with one slot served, and a free line with none. -/
theorem witness_FlushAsksForEveryWriteBack :
    let s := busy (fed .ready acct) (.admission .readId) 1 .awaiting
    s.phase = .running ∧ s.cbc.line.isSome = true ∧ triggerDue s 9 = true ∧
      ((fed .ready acct).phase = .running ∧ (fed .ready acct).cbc.line = none ∧ (fed .ready acct).cbc.queue = [] ∧
        (fed .ready acct).cbc.flush = false ∧ triggerDue (fed .ready acct) 9 = true ∧
        ∀ m : SlotId, triggerDue (fed .ready acct) m = true → (9 : SlotId).val ≤ m.val) ∧
      ∀ n : SlotId, triggerDue idle n = false := by decide +kernel

/-- The NONE reply on SYS_DO: 0x80 from its most significant bit, in a collect selection of two bytes; then deselected
(R148, R150). -/
theorem test_sys_do :
    let t := after (exec (.sysCollectSelection 2 false) idle)
    (List.range 17).map (fun k => sysDo t (.selected k)) =
        some true :: List.replicate 15 (some false) ++ [none] ∧ sysDo t .deselected = none := by decide +kernel

/-- A failed frame, a partial one, and replies held. -/
theorem witness_SelectionsWithoutARequest :
    (State.reset.phase ≠ .running ∧ systemBody (.levels plain) = some (0x02, []) ∧
        engineBody (.gateStatus plain) = some (0x26, []) ∧ Instr.selection (.levels plain) = some plain ∧
        Instr.selection (.gateStatus plain) = some plain) ∧
      idle.phase = .running ∧ judgeSystem plain [0x0A, 0x01, 0x08, 0xAB] = .failed .badCheck ∧
      byteAt [0x0A, 0x01, 0x08, 0xAB] 0 ≠ 0 ∧ judgeEngine plain [0x0A, 0x01, 0x08, 0xAB] = .failed .badCheck ∧
      judgeSystem ⟨true, 0⟩ [0x0A] = .notWhole ∧ judgeEngine ⟨true, 0⟩ [0x26] = .notWhole ∧
      ([0x0A] : List Byte).head? ≠ some 0 ∧ 0 < 5 ∧ sysRdy idle = false ∧ idle.engp.reply = none ∧
      (after (exec (.ackAlert 9 plain) idle)).sysp.holder = .ready ⟨0x88, .ok, 0, []⟩ ∧
      (⟨0x88, .ok, 0, []⟩ : Reply).frame.length = 5 ∧
      (after (exec (.closeSwath 9 plain) idle)).engp.reply = some ⟨0xA3, .unknownSwath, 0, []⟩ := by decide +kernel

/-- Each line action, the ends of the backoff's run (0, 10, 11 and 16 bit-times), a noted deadline, and a free line. -/
theorem witness_LineActionsFollowOneAnother :
    let s := busy idle (.admission .readId) 1
    let u := busy idle (.admission .readId) 2
    (s .breaking).phase = .running ∧ idle.cbc.line = none ∧ (State.reset.phase ≠ .off ∧ State.reset.cbc.line = none) ∧
      (s .breaking).cbc.line = some (tx9 (.admission .readId) 1 .breaking) ∧
      (u .breaking).cbc.line = some (tx9 (.admission .readId) 2 .breaking) ∧
      (u .backoff).cbc.line = some (tx9 (.admission .readId) 2 .backoff) ∧
      (0 ≤ 8 * 2 ∧ ¬ 11 ≤ 10 ∧ 11 ≤ 8 * 2 ∧ 16 ≤ 8 * 2) ∧
      (s .preamble).cbc.line = some (tx9 (.admission .readId) 1 .preamble) ∧
      (s (.sending 0)).cbc.line = some (tx9 (.admission .readId) 1 (.sending 0)) ∧
      (s .awaiting).cbc.line = some (tx9 (.admission .readId) 1 .awaiting) ∧
      (s (.taking 0x90)).cbc.line = some (tx9 (.admission .readId) 1 (.taking 0x90)) ∧
      (s .held).cbc.line = some (tx9 (.admission .readId) 1 .held) ∧
      (s (.discarding true)).cbc.line = some (tx9 (.admission .readId) 1 (.discarding true)) ∧
      { tx9 (.admission .readId) 1 (.discarding false) with deadline := some ⟨0, 300⟩ }.deadline.isSome = true := by
  decide +kernel

/-- Every way an attempt can fail, and a failed CHALLENGE of a slot with an identity record. -/
theorem witness_AFailedAttemptStartsTheNext :
    let c : TxCommand := .admission .readId
    let id := readBlock []
    let s := setIdentity (busy idle (.admission .challenge) 2 (.sending 0)) 9 (some id)
    (busy idle c 2 (.sending 0)).phase = .running ∧ (tx9 c 2 (.sending 0)).attempt < 3 ∧ c ≠ .admission .challenge ∧
      attemptErrors .collision (tx9 c 2 (.sending 0)) = some [.collision] ∧
      attemptErrors .cbusFramingError (tx9 c 2 (.sending 109)) = some [.collision] ∧
      attemptErrors .replyDeadlineExpiry (tx9 c 2 .awaiting) = some [.timeout] ∧
      attemptErrors .framingDiscardEnd { tx9 c 2 (.discarding true) with noted := [.framing] } = some [.framing] ∧
      attemptErrors .replyLengthLimitExpiry (tx9 c 2 (.taking 0)) = some [.length] ∧
      attemptErrors .idleWaitLimitExpiry (tx9 c 2 .backoff) = some [.collision] ∧
      attemptErrors .idleWaitLimitExpiry (tx9 c 2 .preamble) = some [.collision] ∧
      attemptErrors (.cbusReplyEnd []) (tx9 c 2 (.taking 0x90)) = some [.check, .length] ∧
      s.cbc.line = some (tx9 (.admission .challenge) 2 (.sending 0)) ∧ s.prf.identity[9] = some id := by decide +kernel

/-- A third ADD_USED that loses contact, by TIMEOUT and by CHECK; a READ_USAGE with doubt, and a MARK_SPENT that is due and one
that is not. -/
theorem witness_AThirdFailureOfAddUsedLeavesDoubt :
    let s := busy (fed .ready { sentAcct with failures := 2 }) (.writeBack .addUsed) 3 .awaiting
    let d := busy (fed .ready { acct with doubtful := 50 }) (.writeBack .readUsage) 3 .awaiting
    let m := busy (fed .exhausted { acct with pendingInk := 0, spent := .requested }) (.writeBack .markSpent) 3 .awaiting
    s.phase = .running ∧ s.cbc.line = some (tx9 (.writeBack .addUsed) 3 .awaiting) ∧
      attemptErrors .replyDeadlineExpiry (tx9 (.writeBack .addUsed) 3 .awaiting) = some [.timeout] ∧
      attemptErrors (.cbusReplyEnd (chars [0])) (tx9 (.writeBack .addUsed) 3 (.taking 0x90)) = some [.check, .length] ∧
      s.accounts[9] = some { sentAcct with failures := 2 } ∧ 0 < sentAcct.inFlight ∧ s.sysp.events = [] ∧
      inAccountState s 9 = true ∧ s.sto.power ≠ .flushingBus ∧
      (d.phase = .running ∧ d.cbc.line = some (tx9 (.writeBack .readUsage) 3 .awaiting) ∧
        d.accounts[9] = some { acct with doubtful := 50 } ∧ min 3 (acct.failures + 1) < 3 ∧ contactLost d 9 = false) ∧
      (m.phase = .running ∧ m.cbc.line = some (tx9 (.writeBack .markSpent) 3 .awaiting) ∧
        m.accounts[9] = some { acct with pendingInk := 0, spent := .requested } ∧ m.slots[9].state = .exhausted) := by
  decide +kernel

/-- A failed ADD_USED: the ink in flight returns to pending as doubtful, and READ_USAGE starts (R98). -/
theorem test_add_used_failed :
    let t := after (exec .replyDeadlineExpiry (busy (fed .ready sentAcct) (.writeBack .addUsed) 3 .awaiting))
    t.accounts[9] = some { sentAcct with pendingInk := 50, doubtful := 50, inFlight := 0, failures := 1 } ∧
      t.cbc.line.map (·.command) = some (.writeBack .readUsage) := by decide +kernel

/-- ADD_USED replies with the counter at the sum, below it, and refused; and a MARK_SPENT reply. -/
theorem witness_AnAddUsedReplyIsSettled :
    let tx := tx9 (.writeBack .addUsed) 1 (.taking 0x90)
    let s := { fed .ready sentAcct with cbc := { idle.cbc with line := some tx } }
    let high := chars (be32 150 ++ [crc8 (0x90 :: be32 150)])
    let low := chars (be32 149 ++ [crc8 (0x90 :: be32 149)])
    let spent := chars (be32 100 ++ [crc8 (0x92 :: be32 100)])
    let ms := tx9 (.writeBack .markSpent) 1 (.taking 0x90)
    s.phase = .running ∧ s.cbc.line = some tx ∧ s.accounts[9] = some sentAcct ∧
      tx.expected = sentAcct.base + sentAcct.confirmed ∧ tx.amount = sentAcct.inFlight ∧
      (replyErrors tx 0x90 high = [] ∧ replyStatus 0x90 = some .done ∧
        tx.expected + tx.amount ≤ (counterOf (replyData high)).toNat) ∧
      (replyErrors tx 0x90 low = [] ∧ (counterOf (replyData low)).toNat < tx.expected + tx.amount) ∧
      (replyErrors tx 0x92 spent = [] ∧ replyStatus 0x92 = some .refusedSpent ∧ s.sysp.events = [] ∧
        s.sto.power ≠ .flushingBus) ∧
      replyErrors ms 0x90 (chars [crc8 [0x90]]) = [] := by decide +kernel

/-- A READ_USAGE reply with a counter. -/
def usage (k : Word) : List CbusChar := chars (be32 k ++ [0] ++ [crc8 (0x90 :: (be32 k ++ [0]))])

/-- READ_USAGE replies to 50 µL of doubt above 100 µL: the counter at 100, 149, 150 and 151. -/
theorem witness_AnAddUsedReplyIsSettled_usage :
    let ru := tx9 (.writeBack .readUsage) 1 (.taking 0x90)
    let d := { acct with doubtful := 50 }
    let u := busy (fed .ready d) (.writeBack .readUsage) 1 (.taking 0x90)
    u.phase = .running ∧ u.cbc.line = some ru ∧ u.accounts[9] = some d ∧ 0 < d.doubtful ∧ d.doubtful ≤ d.pendingInk ∧
      d.base + d.confirmed = 100 ∧
      (replyErrors ru 0x90 (usage 100) = [] ∧ (counterOf (replyData (usage 100))).toNat = 100) ∧
      (replyErrors ru 0x90 (usage 149) = [] ∧ (counterOf (replyData (usage 149))).toNat = 149) ∧
      (replyErrors ru 0x90 (usage 150) = [] ∧ (counterOf (replyData (usage 150))).toNat = 150) ∧
      (replyErrors ru 0x90 (usage 151) = [] ∧ (counterOf (replyData (usage 151))).toNat = 151) := by decide +kernel

/-- READ_USAGE after a doubt of 50 µL: at E + D the doubtful ink has landed (R99). -/
theorem test_read_usage_settles :
    let d := { acct with doubtful := 50 }
    let s := busy (fed .ready d) (.writeBack .readUsage) 1 (.taking 0x90)
    let body : List Byte := be32 150 ++ [0]
    (after (exec (.cbusReplyEnd (chars (body ++ [crc8 (0x90 :: body)]))) s)).accounts[9] =
      some { d with confirmed := 50, pendingInk := 0, doubtful := 0 } := by decide +kernel

/-- A read whose reply is awaited and one that is not, in normal service and in flush mode, with an entry of each shape at
the head of the queue. -/
theorem witness_APassThroughReplyIsPlaced :
    let tx := tx9 (.readArea 0 1 4) 1 (.taking 0x90)
    let s := { fed .ready acct with cbc := { idle.cbc with line := some tx }
                                    sysp := { idle.sysp with holder := .waiting 4 true } }
    let q (flush : Bool) (l : List QEntry) : State := { s with cbc := { s.cbc with queue := l, flush := flush } }
    let p : State := setIdentity (q false [.admission 9 .challenge]) 9 (some (readBlock []))
    s.phase = .running ∧ s.cbc.line = some tx ∧ replyErrors tx 0x90 (chars [0x55, crc8 [0x90, 0x55]]) = [] ∧
      replyStatus 0x90 = some .done ∧ s.sysp.holder = .waiting 4 true ∧
      replyErrors tx 0x93 (chars [crc8 [0x93]]) = [] ∧ replyStatus 0x93 = some .badCommand ∧
      attemptErrors .replyDeadlineExpiry (tx9 (.readArea 0 1 4) 3 .awaiting) = some [.timeout] ∧ s.cbc.queue = [] ∧
      s.cbc.flush = false ∧ (q false [.admission 9 .readId]).cbc.queue = .admission 9 .readId :: [] ∧
      p.prf.identity[9] = some (readBlock []) ∧ (q false [.passThrough 9 0 4 5]).cbc.queue = .passThrough 9 0 4 5 :: [] ∧
      (q false [.writeBack 9 [.addUsed, .markSpent]]).accounts[9] = some acct ∧ contactLost s 9 = false ∧
      (q true [.admission 0 .readId, .writeBack 9 [.addUsed]]).cbc.queue =
        [.admission 0 .readId] ++ .writeBack 9 [.addUsed] :: [] ∧
      (q true [.admission 0 .readId]).cbc.flush = true ∧ idle.accounts[0] = none := by decide +kernel

/-- In flush mode the write-back entry is served before the admission step that is older (R65). -/
theorem test_flush_mode :
    let s := fed .ready acct
    let t := arbitrate { s with cbc := { s.cbc with flush := true, queue := [.admission 0 .readId, .writeBack 9 [.markSpent, .addUsed]] } }
    t.cbc.queue = [.admission 0 .readId, .writeBack 9 [.markSpent]] ∧
      t.cbc.line.map (·.command) = some (.writeBack .addUsed) := by decide +kernel

/-- An identity block of version 1: colour 10, serial 01 to 08, capacity 1,000, key index 1; its CRC-16 was computed
outside the model. -/
def block : List Byte :=
  [1, 10, 0, 0, 1, 2, 3, 4, 5, 6, 7, 8, 0, 0, 3, 0xE8, 0, 0, 0, 1] ++ List.replicate 42 0 ++ [0x5A, 0xBA]

/-- A part with key slot 1 LOADED and slot 9 calibrated, slot 9 READING with its reply being taken. -/
def reading (attempt : Nat) : State :=
  let s := busy (slot9 .reading) (.admission .readId) attempt (.taking 0x90)
  { s with prf := { s.prf with keys := put s.prf.keys 1 (some 7) }, cal := put s.cal 9 ⟨48, 112, 288, 20, true⟩ }

/-- A block that passes every check, one whose key is not loaded, a status alone, and a third failure. -/
theorem witness_AnIdentityBlockIsJudged :
    (reading 1).phase = .running ∧ (reading 1).cbc.line = some (tx9 (.admission .readId) 1 (.taking 0x90)) ∧
      (reading 1).slots[9].state = .reading ∧
      replyErrors (tx9 (.admission .readId) 1 (.taking 0x90)) 0x90 (chars (block ++ [130])) = [] ∧
      replyStatus 0x90 = some .done ∧ identityFailure (reading 1) 9 (replyData (chars (block ++ [130]))) = none ∧
      identityFailure { reading 1 with prf := idle.prf } 9 (replyData (chars (block ++ [130]))) = some .keyMissing ∧
      replyErrors (tx9 (.admission .readId) 1 (.taking 0x91)) 0x91 (chars [0xFE]) = [] ∧
      replyStatus 0x91 = some .mismatch ∧
      (reading 3).cbc.line = some (tx9 (.admission .readId) 3 (.taking 0x90)) ∧
      attemptErrors .replyLengthLimitExpiry (tx9 (.admission .readId) 3 (.taking 0x90)) = some [.length] := by decide +kernel

/-- A proof context bound to slot 9, its reply taken. -/
def proving : State :=
  let s := setIdentity (slot9 .proving) 9 (some (readBlock block))
  { s with prf := { s.prf with
      ctx := ⟨some 9, .checking, some 5, .computing, .absent, some 0, some 150, some 0⟩
      digest := some (.derivedKey 7 []) } }

theorem witness_TheDerivedKeyServesTheResponseDigest :
    ((reading 1).cbc.queue = [] ∧ (reading 1).cbc.flush = false ∧ (readBlock block).keyIndex.toNat = (1 : Fin 4).val ∧
        (reading 1).prf.keys[1] = some 7) ∧
      proving.phase = .running ∧ proving.prf.digest = some (.derivedKey 7 []) ∧ proving.prf.ctx.phase = .checking ∧
      proving.prf.ctx.slot = some 9 ∧ proving.prf.ctx.challenge = some 5 ∧ proving.prf.ctx.counter = some 150 ∧
      proving.prf.ctx.flags = some 0 ∧ proving.prf.identity[9] = some (readBlock block) ∧
      { proving with prf := { proving.prf with ctx := { proving.prf.ctx with phase := .awaitingReply } } }.prf.ctx.phase ≠
        .checking := by decide +kernel

/-- The CHALLENGE after a block that passes: the derived key is computed under key slot 1 over serial and key index
(R35). -/
theorem test_derived_key :
    (after (exec (.cbusReplyEnd (chars (block ++ [130]))) (reading 1))).prf.digest =
      some (.derivedKey 7 [1, 2, 3, 4, 5, 6, 7, 8, 1]) := by decide +kernel

/-- The response digest under way, with the response the cartridge should have given: an OPEN and a refusal, and the
non-genuine policies. The digest's value is opaque, so the response is written as it. -/
def answered (response : Option (BitVec 64)) : State :=
  { proving with prf := { proving.prf with
      ctx := { proving.prf.ctx with response := response }, digest := some (.response 7 []) } }

/-- A CHALLENGE whose reply is taken, the derived key ready or not. -/
def challenged (key : DigestField) (attempt : Nat) (a : LineAction) : State :=
  let s := busy (setIdentity (slot9 .proving) 9 (some (readBlock block))) (.admission .challenge) attempt a
  { s with prf := { s.prf with ctx := ⟨some 9, .awaitingReply, some 5, key, .absent, none, none, none⟩ } }

/-- A CHALLENGE on the line with its context bound, as the admission invariant asks (R34). -/
theorem witness_AdmissionsSafe_challenge : AdmissionsSafe (challenged (.value 3) 3 .awaiting) := by
  refine ⟨by decide +kernel, by decide +kernel, by decide +kernel, ?_, by decide +kernel, by decide +kernel, ?_, ?_, ?_⟩
  · intro m n x hm hn
    have h : ∀ k : SlotId, (claimed (challenged (.value 3) 3 .awaiting) k).isSome = true → k = 9 := by decide +kernel
    rw [h m (by rw [hm]; rfl), h n (by rw [hn]; rfl)]
  · intro h
    cases h
  · intro n h
    have h : some (9 : SlotId) = some n := h
    injection h with h
    subst h
    exact ⟨_, rfl, rfl, rfl, by decide +kernel, fun key message h => by cases h⟩
  · intro tx h _
    have h : some (tx9 (.admission .challenge) 3 .awaiting) = some tx := h
    injection h with h
    subst h
    rfl

theorem witness_TheResponseDecidesTheProof :
    let s := answered (some (Config.kd 7 []))
    s.phase = .running ∧ s.prf.digest = some (.response 7 []) ∧ s.prf.ctx.slot = some 9 ∧ s.prf.ctx.counter = some 150 ∧
      s.prf.ctx.flags = some 0 ∧ s.prf.identity[9] = some (readBlock block) ∧ s.accounts[9] = none ∧
      s.prf.ctx.response = some (Config.kd 7 []) ∧ (answered none).prf.ctx.response ≠ some (Config.kd 7 []) ∧
      s.settings.nonGenuine = .block := by
  refine ⟨rfl, rfl, rfl, rfl, rfl, rfl, rfl, rfl, ?_, rfl⟩
  intro h
  cases h

/-- A whole reply with the derived key ready and not, a status alone, and a third failure. -/
theorem witness_TheResponseDecidesTheProof_replies :
    let tx := tx9 (.admission .challenge) 3 (.taking 0x90)
    let s := challenged (.value 3) 3 (.taking 0x90)
    let body := List.replicate 13 (0 : Byte)
    (s.phase = .running ∧ s.cbc.line = some tx ∧ s.prf.ctx.slot = some 9 ∧ s.prf.identity[9] = some (readBlock block) ∧
        s.accounts[9] = none ∧ s.prf.ctx.derivedKey = .value 3 ∧ s.prf.ctx.challenge = some 5) ∧
      (challenged .computing 1 (.taking 0x90)).prf.ctx.derivedKey = .computing ∧
      (replyErrors tx 0x90 (chars (body ++ [crc8 (0x90 :: body)])) = [] ∧ replyStatus 0x90 = some .done) ∧
      (replyErrors tx 0x91 (chars [crc8 [0x91]]) = [] ∧ replyStatus 0x91 ≠ some .done ∧ replyStatus 0x91 ≠ none) ∧
      attemptErrors .replyLengthLimitExpiry tx = some [.length] := by decide +kernel

/-- A proven cartridge with nothing left opens EXHAUSTED, raising EXHAUSTED, and a suspect one raises REFILL_SUSPECT with
its reason (R9, R137). -/
theorem test_opening_alerts :
    let t := openOutcome proving 9 (readBlock block) 1000 true true .suspectRefill (some .spentButFull) 0
    t.slots[9].alert = some .exhausted ∧ t.slots[9].alertCount = 1 ∧
      t.sysp.events.map (fun e => (e.kind, e.code, e.value)) =
        [(.slotState, SlotState.exhausted.code, none), (.alert, AlertCode.exhausted.code, none),
          (.alert, AlertCode.refillSuspect.code, some (RefillReason.spentButFull.code.setWidth 32))] := by decide +kernel

/-- What reconciliation can answer: a genuine cartridge, a suspect one, an empty one, and a refusal. -/
theorem witness_reconcile :
    reconcile proving (readBlock block) 150 false = .opens false .genuine none 0 ∧
      reconcile proving (readBlock block) 999 true = .opens false .suspectRefill (some .spentButFull) 0 ∧
      reconcile proving (readBlock block) 1000 false = .opens true .genuine none 0 ∧
      reconcile { proving with settings := { proving.settings with suspect := .block } } (readBlock block) 150 true =
        .reject .refillBlocked := by decide +kernel

theorem witness_MeteringLosesNothing :
    65535999999 < unitsPerMicrolitre ∧ (95 : Byte).toNat ≤ 95 ∧ 95 < (96 : Byte).toNat ∧ calibrationInRange 16 1023 1023 0xC0 = true ∧
      calibrationInRange 1023 16 16 0x40 = true := by decide +kernel

/-- Slots with and without an account, a slot named twice, an account with ink in flight, a swath OPEN with a hold that the
slot is listed by, and a watchdog running and stopped. -/
theorem witness_ADropReportDebitsTheAccount :
    let s := swathing (fed .ready sentAcct) 7 .opened
    s.phase = .running ∧ slotOf 9 = some 9 ∧ s.accounts[9] = some sentAcct ∧ sentAcct.inFlight = 50 ∧
      sentAcct.residue < unitsPerMicrolitre ∧ holds s 9 ≤ holdLimit s 9 ∧ (swathOf s 7).isSome = true ∧
      s.engp.watchdog.isSome = true ∧ (fed .ready acct).engp.watchdog = none ∧
      (1 ≤ [(⟨9, 1, 0, 0⟩ : DropEntry), ⟨0, 1, 0, 0⟩, ⟨9, 0, 0, 1⟩].length ∧ (List.replicate 10 (⟨9, 1, 0, 0⟩ : DropEntry)).length ≤ 10) ∧
      entryAccount s 0 = none ∧ entryAccount s 10 = none := by decide +kernel

theorem witness_ADropReportDebitsTheAccount_swaths : SwathsSafe (swathing (fed .ready sentAcct) 7 .opened) := by
  unfold SwathsSafe; decide +kernel

/-- A list out of range, a duplicate, a slot not READY, one short, and one granted at exactly its available. -/
theorem witness_OpenSwathIsAllOrNothing :
    let s := fed .ready acct
    swathAsks 255 [⟨9, 1⟩] = none ∧ swathAsks 254 [⟨9, 850⟩] = some [(9, 850)] ∧ swathAsks 7 [⟨9, 0⟩] = none ∧
      swathRefusal (swathing s 7 .opened) 7 = some .duplicateSwath ∧ swathRefusal s 7 = none ∧ s.phase = .running ∧
      askStatus s (9, 851) = .short ∧ askStatus s (0, 1) = .notReady ∧ askStatus s (9, 850) = .ok := by decide +kernel

/-- An expired swath, an open one with the line taken, and one on a free line whose slot can send. -/
theorem witness_CloseSwathRemovesTheEntry :
    let s := swathing (fed .ready acct) 7 .opened
    (swathing (fed .ready acct) 7 .expired).phase = .running ∧
      (swathOf (swathing (fed .ready acct) 7 .expired) 7).isSome = true ∧ swathOf idle 7 = none ∧
      (busy s (.admission .readId) 1 .awaiting).cbc.line.isSome = true ∧ triggerDue s 9 = true ∧
      (swathOf s 7).map (·.slots) = some [⟨9, 100, 0⟩] ∧ s.cbc.line = none ∧ s.cbc.queue = [] ∧ s.cbc.flush = false := by
  decide +kernel

/-- Amounts at the ends of 1..4,000, a refusal, and a grant of exactly the available. -/
theorem witness_PurgeStartHoldsThePurge :
    slotOf 10 = none ∧ (0 : Half).toNat < 1 ∧ 4000 < (4001 : Half).toNat ∧ slotOf 9 = some 9 ∧ 1 ≤ (4000 : Half).toNat ∧
      (4000 : Half).toNat ≤ 4000 ∧ purgeRefusal (fed .ready acct) 9 4000 = some .short ∧
      purgeRefusal (fed .ready acct) 9 850 = none ∧ purgeRefusal idle 9 1 = some .notReady ∧
      (fed .ready acct).phase = .running := by decide +kernel

theorem witness_APurgeIsDebitedOnce :
    let s := purging (fed .ready acct) 4000
    s.phase = .running ∧ slotOf 10 = none ∧ slotOf 9 = some 9 ∧ s.engp.purges[9] = some ⟨4000, 4000, ⟨0, 2000000⟩⟩ ∧
      s.accounts[9] = some acct ∧ s.sysp.events.length ≤ 16 ∧ (∀ e ∈ s.sysp.events, e.kind ≠ .overflow) ∧
      idle.engp.purges[9] = none ∧ (purging idle 4000).accounts[9] = none := by decide +kernel

/-- The timer's purge raises pending by the requested amount (R80, R120). -/
theorem test_purge_timer :
    (after (exec (.purgeTimerExpiry 9) (busy (purging (fed .ready acct) 400) (.admission .readId) 1 .awaiting))).accounts[9] =
      some { acct with pendingInk := 450, purgeTotal := 400 } := by decide +kernel

/-- The PURGE_END of the worked sequence 6.14 on a free line: one ADD_USED starts, with E = 399,000 and A = 412, and nothing
waits behind it. -/
theorem test_purge_end :
    let a := { acct with capacity := 400000, base := 398500, confirmed := 500, pendingInk := 12 }
    let t := after (exec (.purgeEnd 9 400 plain) (purging (fed .ready a) 150))
    t.cbc.line.map (fun tx => (tx.command, tx.expected, tx.amount)) = some (.writeBack .addUsed, 399000, 412) ∧
      t.cbc.queue = [] := by decide +kernel

/-- A PURGE_END whose debit passes 4,294,967,295 - E: the purge end trigger is absorbed, and the 312 µL left over wait
(notes/assumptions/34). -/
theorem test_purge_end_bound :
    let a := { acct with capacity := 4294967295, base := 4294967195, pendingInk := 12 }
    let t := after (exec (.purgeEnd 9 400 plain) (purging (fed .ready a) 150))
    t.cbc.line.map (fun tx => (tx.expected, tx.amount)) = some (4294967195, 100) ∧ t.cbc.queue = [] ∧
      t.accounts[9].map (·.pendingInk) = some 312 := by decide +kernel

theorem witness_APurgeIsDebitedOnce_swaths : SwathsSafe (purging (fed .ready acct) 4000) := by
  unfold SwathsSafe; decide +kernel

/-- Each debit at exactly the headroom of 850 µL: a purge by its timer and its end, drops (4,000 µL of them), and rebases by
ADD_USED and READ_USAGE replies. -/
theorem witness_ExhaustionClosesTheGate :
    let s := purging (swathing (fed .ready acct) 7 .opened) 850
    let au := tx9 (.writeBack .addUsed) 1 (.taking 0x90)
    let ru := tx9 (.writeBack .readUsage) 1 (.taking 0x90)
    let d := { acct with doubtful := 50 }
    let body : List Byte := be32 1000
    let usage : List Byte := be32 1000 ++ [0]
    s.phase = .running ∧ s.engp.purges[9] = some ⟨850, 850, ⟨0, 2000000⟩⟩ ∧ s.accounts[9] = some acct ∧ acct.metered = true ∧
      s.slots[9].state = .ready ∧ s.slots[9].alert = none ∧ 0 < headroom acct ∧ acct.capacity ≤ consumedView acct + 850 ∧
      acct.capacity ≤ consumedView acct + min (850 : Half).toNat 4000 ∧ slotOf 9 = some 9 ∧ inOpenSwath s 9 = true ∧
      (replyErrors au 0x90 (chars (body ++ [crc8 (0x90 :: body)])) = [] ∧ au.expected = sentAcct.base + sentAcct.confirmed ∧
        au.amount = sentAcct.inFlight ∧ au.expected + au.amount < (counterOf body).toNat ∧
        sentAcct.capacity ≤ (counterOf body).toNat + sentAcct.pendingInk ∧ 0 < headroom sentAcct) ∧
      (replyErrors ru 0x90 (chars (usage ++ [crc8 (0x90 :: usage)])) = [] ∧ 0 < d.doubtful ∧ 0 < headroom d ∧
        d.base + d.confirmed + d.doubtful < (counterOf usage).toNat ∧
        d.capacity ≤ (counterOf usage).toNat - d.doubtful + d.inFlight + d.pendingInk) := by decide +kernel

/-- One report of ten entries of 65,535 drops of each size, slot 9 calibrated and with 10 µL of headroom left. -/
theorem witness_ExhaustionClosesTheGate_drops :
    let a := { acct with base := 940 }
    let s := { fed .ready a with cal := put idle.cal 9 ⟨48, 112, 288, 20, true⟩ }
    let l := List.replicate 10 (⟨9, 65535, 65535, 65535⟩ : DropEntry)
    s.accounts[9] = some a ∧ 0 < headroom a ∧ l.length ≤ 10 ∧ a.residue < unitsPerMicrolitre ∧
      a.capacity ≤ consumedView a + (a.residue + fineSum s 9 (min (30 : Byte).toNat 95) l) / unitsPerMicrolitre := by
  decide +kernel

theorem witness_ExhaustionClosesTheGate_swaths : SwathsSafe (purging (swathing (fed .ready acct) 7 .opened) 850) := by
  unfold SwathsSafe; decide +kernel

theorem witness_GateStatusAndEngineRestart : (purging (swathing (fed .ready acct) 7 .opened) 850).phase = .running := rfl

theorem witness_EngineTimersExpireSwaths :
    let s := swathing (fed .ready acct) 254 .opened
    s.phase = .running ∧ s.engp.watchdog.isSome = true ∧
      ((swathOf s 254).map fun w => w.timer.isSome) = some true := by decide +kernel

/-- Low runs at both ends of the range a seventh of which is a bit-time. -/
theorem witness_TheSyncFixesTheRate :
    idle.phase = .running ∧ idle.svl.line = .waitSync ∧
      { idle with svl := { idle.svl with candidate := some 700000 } }.svl.candidate = some 700000 ∧
      7000000000 ≤ 230400 * 30382 ∧ ¬ 7000000000 ≤ 230400 * 30381 ∧ 9600 * 729166 ≤ 7000000000 ∧
      ¬ 9600 * 729167 ≤ 7000000000 := by decide +kernel

/-- A line at rest, a failed frame, a check under way with a record written while it runs. -/
theorem witness_OpenCommandsAnswer :
    let s := { served .none with svl := { (served .none).svl with line := .busy, check := some [.good] } }
    let w := { s with sto := { s.sto with writer := some (recLocks, .locks (Vector.replicate 10 false)) } }
    listening (served .opened) = true ∧ judgeService [0x46, 0x00, 0x01, 0xA7, 0x87] = .failed .badCheck ∧
      (s.phase = .running ∧ s.svl.check = some [.good] ∧ (markDirty s recSettings).sto.writer = none ∧
        anyDirty (markDirty s recSettings) = true ∧ (markDirty s recSettings).svl.check = some [.good]) ∧
      (w.phase = .running ∧ w.svl.error = .none ∧ w.svl.line = .busy ∧ w.svl.check = some [.good] ∧
        w.sto.writer = some (recLocks, .locks (Vector.replicate 10 false))) := by decide +kernel

theorem witness_TheUnlockTakesTwoCodes :
    listening (served .none) = true ∧ listening (served .half) = true ∧ (served .half).svl.unlock = .half ∧
      (served .none).svl.unlock ≠ .half := by decide +kernel

theorem witness_PrivilegedCommandsNeedTheUnlock :
    privilegedCode (.setRegion 5) = some 0x4B ∧ listening (served .opened) = true ∧ (served .opened).svl.unlock = .opened ∧
      listening (served .half) = true ∧ (served .half).svl.unlock ≠ .opened := by decide +kernel

/-- Values at and past the ends of their ranges; a locked slot and an INVALID record. -/
theorem witness_SettingCommandsTakeEffect :
    let s := served .opened
    listening s = true ∧ s.svl.unlock = .opened ∧ slotOf 10 = none ∧ calibrationInRange 15 16 16 0 = false ∧
      calibrationInRange 16 1023 16 0xC0 = true ∧ anyOpen s = false ∧ s.locks[9] = false ∧
      anyOpen { s with engp := (swathing idle 7 .opened).engp } = true ∧
      { s with locks := put s.locks 9 true }.locks[9] = true ∧ 1024 ≤ (1024 : Half).toNat ∧ (512 : Half).toNat < 1024 ∧
      (512 : Half).getLsbD 9 = true ∧ s.cal[9].valid = false ∧
      { s with cal := put s.cal 9 ⟨16, 16, 16, 0, true⟩ }.cal[9].valid = true ∧
      (∀ n : SlotId, 1 ≤ defaultSettings.colours[n].toNat ∧ defaultSettings.colours[n].toNat ≤ 15) ∧
      (Vector.replicate 10 (16 : Byte))[9].toNat > 15 ∧ (5 : Byte).toNat = (5 : Fin 6).val ∧ (63 : Byte).toNat ≤ 63 ∧
      FilterAction.ofCode 2 = some .reject ∧ 5 < (6 : Byte).toNat ∧ 63 < (64 : Byte).toNat ∧ 2 < (3 : Byte).toNat := by
  decide +kernel

theorem witness_HistoryAndKeyCommandsTakeEffect :
    let s := served .opened
    listening s = true ∧ s.svl.unlock = .opened ∧ Scope.ofCode 1 = some .all ∧ 1 < (2 : Byte).toNat ∧ 3 < (4 : Byte).toNat ∧
      (3 : Byte).toNat = (3 : Fin 4).val ∧ s.prf.keys[3] = none ∧
      { s with prf := { s.prf with keys := put s.prf.keys 3 (some 0) } }.prf.keys[3].isSome = true := by decide +kernel

/-- A service line in each of the states its clauses ask for. -/
theorem witness_TheServiceLineTurns :
    let s := served .opened
    let r : Option SvcReply := some ⟨0xC5, .ok, []⟩
    s.phase = .running ∧ listening s = true ∧ s.svl.error = .none ∧ s.svl.line ≠ .waitSync ∧
      (([0x46, 0x00] : List Byte) ≠ [] ∧ judgeService [0x46, 0x00] = .notWhole) ∧
      listening { s with svl := { s.svl with line := .receiving, frame := [0x46] } } = true ∧ s.svl.line ≠ .receiving ∧
      { s with svl := { s.svl with line := .busy, reply := r } }.svl.reply = r ∧
      { s with svl := { s.svl with line := .sending, reply := r } }.svl.line = .sending ∧ s.svl.restart = false ∧
      { s with svl := { s.svl with restart := true } }.svl.restart = true ∧
      { s with svl := { s.svl with error := .breakDue } }.svl.error = .breakDue ∧
      { s with svl := { s.svl with error := .breaking } }.svl.error = .breaking := by decide +kernel

theorem witness_ThePowerFailWarningIsTaken :
    let s := { fed .ready acct with lines := { idle.lines with pfailN := false } }
    let u := { idle with sto := { idle.sto with power := .flushed } }
    idle.lines.pfailN ≠ false ∧ (s.phase = .running ∧ s.lines.pfailN = false ∧ s.sto.power = .normal) ∧
      (u.phase = .running ∧ u.lines.pfailN = true ∧ u.sto.power ≠ .normal) ∧ triggerDue s 9 = true ∧
      (busy s (.admission .readId) 1 .awaiting).cbc.line.isSome = true ∧ s.cbc.line = none ∧ canSend s 9 acct := by
  unfold canSend; decide +kernel

/-- A flush with a metered account and its ADD_USED done, a store with one dirty record, a write under way. -/
theorem witness_TheFlushAndTheWriter :
    let s := { fed .ready acct with sto := { idle.sto with power := .flushingBus } }
    let u := { idle with sto := { idle.sto with power := .flushingStore } }
    s.phase = .running ∧ s.sto.power = .flushingBus ∧ addUsedOutstanding s = false ∧ s.accounts[9] = some acct ∧
      s.his.stamp + 10 ≤ 4294967295 ∧ (∀ q : Fin 32, s.his.seen[q] = none) ∧
      (∀ m : SlotId, m ≠ 9 → s.accounts[m] = none) ∧
      { idle with sto := { idle.sto with power := .flushingBus } }.accounts = idle.accounts ∧
      (∀ n : SlotId, idle.accounts[n] = none) ∧ anyDirty idle = false ∧ idle.sto.writer = none ∧
      u.sto.power = .flushingStore ∧ u.sto.writer = none ∧ anyDirty u = false ∧
      ((markDirty idle 117).sto.writer = none ∧ anyDirty (markDirty idle 117) = true ∧
        (markDirty idle 117).svl.check = none) ∧
      writing.sto.writer = some (11, .locks (Vector.replicate 10 false)) := by decide +kernel

/-- The reply to the last ADD_USED of a flush: 50 µL in flight onto a counter of 100. -/
theorem witness_TheFlushAndTheWriter_drained :
    let s := flushing
    let tx := tx9 (.writeBack .addUsed) 1 (.taking 0x90)
    let rest := chars (be32 150 ++ [crc8 (0x90 :: be32 150)])
    s.phase = .running ∧ s.sto.power = .flushingBus ∧ s.cbc.flush = true ∧ s.cbc.line = some tx ∧
      replyErrors tx 0x90 rest = [] ∧ replyStatus 0x90 = some .done ∧ s.accounts[9] = some sentAcct ∧
      sentAcct.metered = true ∧ tx.expected = sentAcct.base + sentAcct.confirmed ∧ tx.amount = sentAcct.inFlight ∧
      (counterOf (replyData rest)).toNat = tx.expected + tx.amount ∧ s.cbc.queue = [] := by decide +kernel

theorem witness_SeenEntryLasts : SeenEntryLasts flushing 9 sentAcct.serial := by
  refine ⟨?_, ?_, by decide +kernel⟩
  · intro m b hm h
    have h : (put idle.accounts 9 (some sentAcct))[m] = some b := h
    rw [put_other _ _ _ _ hm] at h
    simp [idle, State.reset] at h
  · intro q x h
    simp [flushing, busy, fed, slot9, modSlot, setAccount, idle, State.reset] at h

/-- That reply ends the bus phase (R183). -/
theorem test_flush_drained :
    (after (exec (.cbusReplyEnd (chars (be32 150 ++ [crc8 (0x90 :: be32 150)]))) flushing)).sto.power = .flushingStore := by
  decide +kernel

theorem witness_ResetsAndPowerLoss :
    let off := { idle with phase := .off }
    let held := { idle with phase := .resetHeld }
    off.phase = .off ∧ (writing.phase ≠ .off ∧ writing.lines.resetN = true ∧ writing.sto.writer.isSome = true) ∧
      held.phase = .resetHeld ∧ idle.sto.writer = none ∧ idle.sto.carried = none := by decide +kernel

/-- The part as manufactured, and with a cartridge in slot 9. -/
theorem witness_TheLoadTakesTheGoodRecords :
    let s := { State.reset with lines := { State.reset.lines with presence := put State.reset.lines.presence 9 true } }
    State.reset.phase = .loading ∧ State.reset.sto.carried = none ∧ State.reset.lines.pfailN = true ∧
      (loadedSettings State.reset).isNone = true ∧ s.phase = .loading ∧ s.lines.presence[9] = true ∧
      State.reset.sto.power = .normal ∧ State.reset.sto.writer = none ∧ s.slots = State.reset.slots :=
  ⟨rfl, rfl, rfl, rfl, rfl, rfl, rfl, rfl, rfl⟩

/-- Bit-times of the load that have passed raise the idle count and meet the hypotheses on the bus (R45, R67). -/
theorem witness_TheLoadTakesTheGoodRecords_later :
    let s := tick (tick State.reset)
    s.phase = .loading ∧ s.cbc.idle = 2 ∧ s.cbc.line = none ∧ s.cbc.queue = [] ∧ s.cbc.breakOwed = true ∧
      s.cbc.flush = false ∧ s.sysp = State.reset.sysp ∧ s.engp = State.reset.engp ∧ s.slots = State.reset.slots ∧
      s.accounts = State.reset.accounts :=
  ⟨rfl, rfl, rfl, rfl, rfl, rfl, rfl, rfl, rfl, rfl⟩

/-- A store with a good key in key slot 1, a broken seen record, two seen entries of one serial, and a lock record that a
reset met under way. -/
def stocked (pfailN : Bool) : State :=
  let seen (stamp : Word) : Stored := withCheck (.seen (some ⟨5, 60, 10, 3, 1, stamp⟩))
  { State.reset with
    lines := { State.reset.lines with pfailN := pfailN }
    sto := { State.reset.sto with
      stored := put (put (put (put State.reset.sto.stored (recKey 1) (withCheck (.key 7))) (recSeen 0) (seen 3)) (recSeen 1)
        (seen 8)) (recSeen 2) .broken
      carried := some (recLocks, .locks (Vector.replicate 10 false)) } }

theorem witness_TheLoadTakesTheGoodRecords_stocked :
    let u := loadState (stocked true)
    judged u (recKey 1) = .good ∧ judged u (recSeen 2) = .bad ∧ judged u recLocks = .good ∧
      (loadedSeen u 0).map (·.stamp) = some 3 ∧ (loadedSeen u 1).map (·.stamp) = some 8 ∧
      (stocked false).lines.pfailN = false := by decide +kernel

/-- The load of that store under an asserted warning: the key is taken, the lower of the twins is emptied, and the store
flush follows (R147, R175, R177, R182). -/
theorem test_load_stocked :
    let t := after (exec .startUpLoadComplete (stocked false))
    t.prf.keys[1] = some 7 ∧ t.his.seen[0] = none ∧ (t.his.seen[1]).map (·.stamp) = some 8 ∧ t.his.stamp = 9 ∧
      t.sto.dirty[recSeen 0] = true ∧ t.sto.power = .flushingStore := by decide +kernel

end Sys2Proof.Tests
end

section
/-! What the invariants of slots and admission read of a state, and the operations that leave it alone (1.1, R7, R8, R21, R22,
R28, R29, R34, R61). -/

namespace Sys2Proof.Machine

/-! ### Lamps and alerts (R18, R19, R21, R22) -/

/-- The alert record and the lamp's interval of a slot record are in range, whatever pattern it should show. -/
def RecordSound (r : SlotRec) : Prop :=
  r.alertCount ≤ 15 ∧ (r.alert = none → r.alertCount = 0) ∧ r.lampPhase < r.shown.cycle.length

/-- A slot shows its override, or else the pattern of its state and level. -/
def ShowsPattern (s : State) (n : SlotId) : Prop := s.slots[n].shown = s.slots[n].override.getD (patternOf s n)

theorem slotsSafe_iff (s : State) : SlotsSafe s ↔ (∀ n : SlotId, RecordSound s.slots[n]) ∧ ∀ n : SlotId, ShowsPattern s n := by
  constructor
  · intro h
    exact ⟨fun n => ⟨(h n).1, (h n).2.1, (h n).2.2.2⟩, fun n => (h n).2.2.1⟩
  · rintro ⟨hr, hp⟩ n
    obtain ⟨hc, ha, hl⟩ := hr n
    exact ⟨hc, ha, hp n, hl⟩

/-- Every slot record is sound, and every slot but perhaps `n` shows its pattern: so it stands while slot `n` is between two
states. -/
def SafeBut (n : SlotId) (s : State) : Prop :=
  (∀ m : SlotId, RecordSound s.slots[m]) ∧ ∀ m : SlotId, m ≠ n → ShowsPattern s m

theorem SlotsSafe.but {s : State} (h : SlotsSafe s) (n : SlotId) : SafeBut n s :=
  ⟨((slotsSafe_iff s).1 h).1, fun m _ => ((slotsSafe_iff s).1 h).2 m⟩

/-- The slot records and the levels of the accounts are the same. -/
structure SameLamps (s t : State) : Prop where
  slots : t.slots = s.slots
  levels : ∀ n : SlotId, t.accounts[n].map (·.level) = s.accounts[n].map (·.level)

theorem SameLamps.refl (s : State) : SameLamps s s := ⟨rfl, fun _ => rfl⟩

theorem SameLamps.trans {s t u : State} (h : SameLamps s t) (k : SameLamps t u) : SameLamps s u :=
  ⟨k.slots.trans h.slots, fun n => (k.levels n).trans (h.levels n)⟩

theorem SameLamps.of_frame {s t : State} {ps : List Part} (h : OnlyChanges ps s t) (hs : .slots ∉ ps) (ha : .accounts ∉ ps) :
    SameLamps s t := ⟨h .slots hs, fun n => by rw [show t.accounts = s.accounts from h .accounts ha]⟩

theorem SameLamps.showsPattern {s t : State} (h : SameLamps s t) (n : SlotId) : ShowsPattern t n ↔ ShowsPattern s n := by
  simp only [ShowsPattern, patternOf, h.slots, h.levels n]

theorem SameLamps.safe {s t : State} (h : SameLamps s t) (hs : SlotsSafe s) : SlotsSafe t := by
  rw [slotsSafe_iff] at hs ⊢
  refine ⟨fun n => ?_, fun n => (h.showsPattern n).2 (hs.2 n)⟩
  rw [h.slots]; exact hs.1 n

theorem SameLamps.but {s t : State} {n : SlotId} (h : SameLamps s t) (hs : SafeBut n s) : SafeBut n t := by
  refine ⟨fun m => ?_, fun m hm => (h.showsPattern m).2 (hs.2 m hm)⟩
  rw [h.slots]; exact hs.1 m

theorem cycle_pos (p : LampPattern) : 0 < p.cycle.length := by cases p <;> decide

theorem lampAfterChange_state (s : State) (n m : SlotId) : (lampAfterChange s n).slots[m].state = s.slots[m].state := by
  by_cases hm : m = n
  · subst hm
    rw [lampAfterChange, modSlot_same]
    split <;> rfl
  · rw [lampAfterChange_others s n m hm]

/-- A lamp that follows a change shows the pattern, whatever it showed before (R21, R22). -/
theorem lampAfterChange_safe {s : State} {n : SlotId} (h : SafeBut n s) : SlotsSafe (lampAfterChange s n) := by
  rw [slotsSafe_iff]
  refine ⟨fun m => ?_, fun m => ?_⟩ <;> by_cases hm : m = n
  · subst hm
    obtain ⟨hc, ha, hl⟩ := h.1 m
    rw [lampAfterChange, modSlot_same]
    split
    · exact ⟨hc, ha, cycle_pos _⟩
    · exact ⟨hc, ha, hl⟩
  · rw [lampAfterChange_others s n m hm]; exact h.1 m
  · subst hm
    have hp : patternOf (lampAfterChange s m) m = patternOf s m := by
      rw [patternOf, lampAfterChange_state]; rfl
    rw [ShowsPattern, hp, lampAfterChange, modSlot_same]
    split
    · rfl
    · next hk =>
      simp only [Bool.or_eq_true, bne_iff_ne, not_or, ne_eq, not_not, Bool.not_eq_true, Option.isSome_eq_false_iff,
        Option.isNone_iff_eq_none] at hk
      rw [hk.1, hk.2]; rfl
  · have := h.2 m hm
    simp only [ShowsPattern, patternOf, lampAfterChange_others s n m hm] at this ⊢
    exact this

/-- A slot record changed but for its alert and lamp, or an account: only that slot may not show its pattern. -/
theorem SafeBut.congr {n : SlotId} {s t : State} (h : SafeBut n s) (hr : RecordSound s.slots[n] → RecordSound t.slots[n])
    (hs : OtherSlotsKept n s t) (ha : ∀ m : SlotId, m ≠ n → t.accounts[m].map (·.level) = s.accounts[m].map (·.level)) :
    SafeBut n t := by
  refine ⟨fun m => ?_, fun m hm => ?_⟩
  · by_cases hm : m = n
    · subst hm; exact hr (h.1 m)
    · rw [hs m hm]; exact h.1 m
  · have := h.2 m hm
    simp only [ShowsPattern, patternOf, hs m hm, ha m hm] at this ⊢
    exact this

/-- Whatever was between two states, a slot that takes a state shows that state's pattern (R22). -/
theorem moveSlot_safe {s : State} {n : SlotId} (st : SlotState) (h : SafeBut n s) : SlotsSafe (moveSlot s n st) := by
  have hm : SafeBut n (modSlot s n fun r => { r with state := st }) :=
    h.congr (by rw [modSlot_same]; exact id) (modSlot_others _ _ _) fun _ _ => rfl
  exact SameLamps.safe ⟨rfl, fun _ => rfl⟩ (lampAfterChange_safe hm)

end Sys2Proof.Machine
end

section
namespace Sys2Proof.Machine

/-! ### The admission work (R61) -/

/-- The admission step a waiting entry is, with its slot. -/
def QEntry.admissionStep : QEntry → Option (SlotId × AdmissionStep)
  | .admission n step => some (n, step)
  | _ => none

/-- The admission step a transaction is, with its slot. -/
def Transaction.admissionStep (tx : Transaction) : Option (SlotId × AdmissionStep) :=
  match tx.command with
  | .admission step => some (tx.slot, step)
  | _ => none

/-- The admission steps that wait. -/
def queueWork (q : List QEntry) : List (SlotId × AdmissionStep) := q.filterMap QEntry.admissionStep

theorem admissionWork_eq (s : State) :
    admissionWork s = (s.cbc.line.bind Transaction.admissionStep).toList ++ queueWork s.cbc.queue := by
  unfold admissionWork queueWork
  congr 1
  cases s.cbc.line with
  | none => rfl
  | some tx => cases h : tx.command <;> simp [Transaction.admissionStep, h]

@[simp] theorem queueWork_append (p q : List QEntry) : queueWork (p ++ q) = queueWork p ++ queueWork q :=
  List.filterMap_append

/-- An operation of a write-back place is no admission step (R62). -/
theorem queueWork_withOp (q : List QEntry) (n : SlotId) (op : WbOp) : queueWork (withOp q n op) = queueWork q := by
  have hadd (e : QEntry) : (QEntry.addOp n op e).admissionStep = e.admissionStep := by
    cases e with
    | writeBack m ops => simp only [QEntry.addOp]; split <;> rfl
    | _ => rfl
  unfold withOp
  split
  · simp only [queueWork, List.filterMap_map]
    congr 1
    funext e
    exact hadd e
  · simp [queueWork, QEntry.admissionStep]

/-! ### Operations that leave admission alone -/

/-- What admission reads of the transaction on the line. -/
def lineView (tx : Transaction) : SlotId × TxCommand × Bool := (tx.slot, tx.command, decide (tx.action = .held))

/-- From `s` to `t` nothing happens that admission reads: slots stay in their states, or move among those with an open account,
with the same accounts, identity records, admission steps and proof context; and the lamps stay coherent. -/
structure Calm (s t : State) : Prop where
  phase : t.phase = s.phase
  states : ∀ n : SlotId, t.slots[n].state = s.slots[n].state ∨
    holdsAccount s.slots[n].state = true ∧ holdsAccount t.slots[n].state = true
  serials : ∀ n : SlotId, t.accounts[n].map (·.serial) = s.accounts[n].map (·.serial)
  identity : t.prf.identity = s.prf.identity
  ctx : t.prf.ctx = s.prf.ctx
  digest : t.prf.digest = s.prf.digest
  line : t.cbc.line.map lineView = s.cbc.line.map lineView
  queue : queueWork t.cbc.queue = queueWork s.cbc.queue
  lamps : SlotsSafe s → SlotsSafe t

theorem Calm.refl (s : State) : Calm s s := ⟨rfl, fun _ => .inl rfl, fun _ => rfl, rfl, rfl, rfl, rfl, rfl, id⟩

theorem Calm.trans {s t u : State} (h : Calm s t) (k : Calm t u) : Calm s u where
  phase := k.phase.trans h.phase
  states n := by
    rcases h.states n with h1 | ⟨h1, h2⟩ <;> rcases k.states n with k1 | ⟨k1, k2⟩
    · exact .inl (k1.trans h1)
    · exact .inr ⟨h1 ▸ k1, k2⟩
    · exact .inr ⟨h1, k1 ▸ h2⟩
    · exact .inr ⟨h1, k2⟩
  serials n := (k.serials n).trans (h.serials n)
  identity := k.identity.trans h.identity
  ctx := k.ctx.trans h.ctx
  digest := k.digest.trans h.digest
  line := k.line.trans h.line
  queue := k.queue.trans h.queue
  lamps := k.lamps ∘ h.lamps

theorem Calm.ite {s t u : State} {c : Prop} [Decidable c] (h : Calm s t) (k : Calm s u) : Calm s (if c then t else u) := by
  split
  · exact h
  · exact k

/-- The parts that admission and the lamps read. -/
def admissionParts : List Part := [.phase, .slots, .prf, .cbc, .accounts]

theorem Calm.of_frame {s t : State} {ps : List Part} (h : OnlyChanges ps s t) (hp : ∀ p ∈ admissionParts, p ∉ ps) : Calm s t := by
  have hph : t.phase = s.phase := h .phase (hp _ (by decide))
  have hsl : t.slots = s.slots := h .slots (hp _ (by decide))
  have hpr : t.prf = s.prf := h .prf (hp _ (by decide))
  have hcb : t.cbc = s.cbc := h .cbc (hp _ (by decide))
  have hac : t.accounts = s.accounts := h .accounts (hp _ (by decide))
  refine ⟨hph, fun n => ?_, fun n => ?_, ?_, ?_, ?_, ?_, ?_, (SameLamps.of_frame h (hp _ (by decide)) (hp _ (by decide))).safe⟩
  all_goals simp only [hsl, hpr, hcb, hac, true_or]

/-- A change of the bus controller alone that keeps its admission steps. -/
theorem Calm.of_cbc {s t : State} (h : OnlyChanges [.cbc] s t) (hl : t.cbc.line.map lineView = s.cbc.line.map lineView)
    (hq : queueWork t.cbc.queue = queueWork s.cbc.queue) : Calm s t where
  phase := h .phase (by decide)
  states n := by rw [show t.slots = s.slots from h .slots (by decide)]; exact .inl rfl
  serials n := by rw [show t.accounts = s.accounts from h .accounts (by decide)]
  identity := by rw [show t.prf = s.prf from h .prf (by decide)]
  ctx := by rw [show t.prf = s.prf from h .prf (by decide)]
  digest := by rw [show t.prf = s.prf from h .prf (by decide)]
  line := hl
  queue := hq
  lamps := (SameLamps.of_frame h (by decide) (by decide)).safe

theorem put_map_eq {α β : Type} {k : Nat} (v : Vector (Option α) k) (n m : Fin k) (x : Option α) (f : α → β)
    (h : x.map f = v[n].map f) : (put v n x)[m].map f = v[m].map f := by
  rw [put_get]
  split
  · next hm => subst hm; exact h
  · rfl

theorem setAccount_sameLamps {s : State} {n : SlotId} {a b : Account} (h : s.accounts[n] = some a) (hl : b.level = a.level) :
    SameLamps s (setAccount s n (some b)) :=
  ⟨rfl, fun m => put_map_eq _ _ _ _ _ (by simp [h, hl])⟩

/-- An account written anew keeps its serial and level. -/
theorem setAccount_calm {s : State} {n : SlotId} {a b : Account} (h : s.accounts[n] = some a) (hs : b.serial = a.serial)
    (hl : b.level = a.level) : Calm s (setAccount s n (some b)) :=
  ⟨rfl, fun _ => .inl rfl, fun m => put_map_eq _ _ _ _ _ (by simp [h, hs]), rfl, rfl, rfl, rfl, rfl,
    (setAccount_sameLamps h hl).safe⟩

theorem modAccount_calm (s : State) (n : SlotId) {f : Account → Account} (hs : ∀ a, (f a).serial = a.serial)
    (hl : ∀ a, (f a).level = a.level) : Calm s (modAccount s n f) := by
  have hget (β : Type) (g : Account → β) (hg : ∀ a, g (f a) = g a) (m : SlotId) :
      ((modAccount s n f).accounts)[m].map g = s.accounts[m].map g :=
    put_map_eq _ _ _ _ _ (by rw [Option.map_map]; exact congrArg (Option.map · s.accounts[n]) (funext hg))
  exact ⟨rfl, fun _ => .inl rfl, hget _ _ hs, rfl, rfl, rfl, rfl, rfl, SameLamps.safe ⟨rfl, hget _ _ hl⟩⟩

theorem enqueueOp_calm (s : State) (n : SlotId) (op : WbOp) : Calm s (enqueueOp s n op) :=
  .of_cbc (enqueueOp_frame s n op) rfl (queueWork_withOp _ _ _)

theorem requestAddUsed_calm (s : State) (n : SlotId) : Calm s (requestAddUsed s n) :=
  .ite (enqueueOp_calm s n _) (.refl s)

theorem spentCheck_calm (s : State) (n : SlotId) : Calm s (spentCheck s n) :=
  .ite ((modAccount_calm s n (f := fun a => { a with spent := .requested }) (fun _ => rfl) fun _ => rfl).trans
    (enqueueOp_calm _ n _)) (.refl s)

/-- A slot record that keeps its state, with the lamps coherent. -/
theorem modSlot_calm {s : State} {n : SlotId} {f : SlotRec → SlotRec} (hf : ∀ r, (f r).state = r.state)
    (hl : SlotsSafe s → SlotsSafe (modSlot s n f)) : Calm s (modSlot s n f) := by
  refine ⟨rfl, fun m => .inl ?_, fun _ => rfl, rfl, rfl, rfl, rfl, rfl, hl⟩
  rw [modSlot_slots, upd_get]
  split
  · exact hf _
  · rfl

/-- A slot record changed alone: the slot stays sound, and shows its pattern as before. -/
theorem modSlot_safe {s : State} {n : SlotId} {f : SlotRec → SlotRec} (hr : ∀ r, RecordSound r → RecordSound (f r))
    (hp : ∀ r p, (f r).state = r.state ∧ (r.shown = r.override.getD p → (f r).shown = (f r).override.getD p))
    (h : SlotsSafe s) : SlotsSafe (modSlot s n f) := by
  rw [slotsSafe_iff] at h ⊢
  refine ⟨fun m => ?_, fun m => ?_⟩
  · rw [modSlot_slots, upd_get]
    split
    · exact hr _ (h.1 m)
    · exact h.1 m
  · have := h.2 m
    by_cases hm : m = n
    · subst hm
      simp only [ShowsPattern, patternOf, modSlot_same, modSlot_accounts, (hp _ .off).1] at this ⊢
      exact (hp _ _).2 this
    · simp only [ShowsPattern, patternOf, modSlot_slots, modSlot_accounts, upd_other _ _ _ _ hm] at this ⊢
      exact this

theorem raiseAlert_calm (s : State) (n : SlotId) (c : AlertCode) (v : Option Word) : Calm s (raiseAlert s n c v) := by
  refine (modSlot_calm (n := n) (fun r => ?_) (modSlot_safe (fun r hr => ?_) fun r p => ?_)).trans
    (.of_frame (postEvent_frame _ _ _ _ _) (by decide))
  · split <;> rfl
  · obtain ⟨hc, ha, hl⟩ := hr
    split
    · exact ⟨by simp, fun _ => rfl, hl⟩
    · next h => exact ⟨Nat.min_le_left _ _, fun h' => by simp [h] at h', hl⟩
  · split <;> exact ⟨rfl, id⟩

/-- Slot `n` moves from one state with an open account to another (1.1). -/
theorem moveSlot_calm {s : State} {n : SlotId} {st : SlotState} (h : holdsAccount s.slots[n].state = true)
    (k : holdsAccount st = true) : Calm s (moveSlot s n st) := by
  have hf := moveSlot_frame s n st
  refine ⟨rfl, fun m => ?_, fun _ => rfl, rfl, rfl, rfl, rfl, rfl, fun hs => moveSlot_safe st (hs.but n)⟩
  by_cases hm : m = n
  · subst hm
    refine .inr ⟨h, ?_⟩
    rw [moveSlot_same]; exact k
  · rw [moveSlot_others s n st m hm]; exact .inl rfl

/-- What a change of state asks for beside the move itself (R90, R91, R92). -/
theorem changeState_after_moveSlot (s : State) (n : SlotId) (st : SlotState) : Calm (moveSlot s n st) (changeState s n st) :=
  .ite ((requestAddUsed_calm _ n).trans (spentCheck_calm _ n)) (.refl _)

theorem changeState_calm {s : State} {n : SlotId} {st : SlotState} (h : holdsAccount s.slots[n].state = true)
    (k : holdsAccount st = true) : Calm s (changeState s n st) :=
  (moveSlot_calm h k).trans (changeState_after_moveSlot s n st)

theorem changeState_slotsSafe {s : State} {n : SlotId} (st : SlotState) (h : SafeBut n s) : SlotsSafe (changeState s n st) :=
  (changeState_after_moveSlot s n st).lamps (moveSlot_safe st h)

theorem contactLoss_calm (s : State) (n : SlotId) : Calm s (contactLoss s n) := by
  unfold contactLoss
  split
  · next h =>
    refine (changeState_calm ?_ (by decide)).trans (raiseAlert_calm _ n _ _)
    simp only [inAccountState] at h
    simp only [holdsAccount, h, Bool.true_or]
  · exact .refl s

theorem reportIfLost_calm (s : State) (n : SlotId) (k : Nat) : Calm s (reportIfLost s n k) :=
  .ite (contactLoss_calm s n) (.refl s)

/-! ### Debits (R87 to R90) -/

theorem statePattern_level {st : SlotState} (h : st ≠ .ready) (l l' : Option Level) : statePattern st l = statePattern st l' := by
  cases st <;> first | rfl | exact (h rfl).elim

theorem refreshLevel_calm (s : State) (n : SlotId) : Calm s (refreshLevel s n) := by
  unfold refreshLevel
  split
  · exact .refl s
  · next a ha =>
    dsimp only
    refine .ite ?_ (.refl s)
    generalize hb : ({ a with level := _ } : Account) = b
    have hserial (m : SlotId) : (put s.accounts n (some b))[m].map (·.serial) = s.accounts[m].map (·.serial) :=
      put_map_eq _ _ _ _ _ (by simp [ha, ← hb])
    have hbut (h : SlotsSafe s) : SafeBut n (setAccount s n (some b)) :=
      SafeBut.congr (h.but n) id (fun _ _ => rfl) fun m hm => by rw [setAccount_accounts, put_other _ _ _ _ hm]
    split
    · exact ⟨rfl, fun m => .inl (lampAfterChange_state _ n m), hserial, rfl, rfl, rfl, rfl, rfl,
        fun h => lampAfterChange_safe (SameLamps.but ⟨rfl, fun _ => rfl⟩ (hbut h))⟩
    · next hst =>
      refine ⟨rfl, fun _ => .inl rfl, hserial, rfl, rfl, rfl, rfl, rfl, fun h => ?_⟩
      have hk := (slotsSafe_iff s).1 h
      refine (slotsSafe_iff _).2 ⟨hk.1, fun m => ?_⟩
      by_cases hm : m = n
      · subst hm
        exact (hk.2 m).trans (congrArg _ (statePattern_level hst _ _))
      · exact (hbut h).2 m hm

theorem clampHolds_calm (s : State) (n : SlotId) : Calm s (clampHolds s n) := .of_frame (clampHolds_frame s n) (by decide)

theorem reportExhaustion_calm (s : State) (n : SlotId) : Calm s (reportExhaustion s n) := by
  unfold reportExhaustion
  refine Calm.trans ?_ (raiseAlert_calm _ n _ none)
  refine (Calm.of_frame (reevalGate_frame s n) (by decide)).trans ?_
  split
  · next h => exact changeState_calm (by rw [h]; decide) (by decide)
  · exact .refl _

theorem afterDebit_calm (s : State) (n : SlotId) (before : Nat) : Calm s (afterDebit s n before) := by
  unfold afterDebit
  split
  · exact .refl s
  · next a _ =>
    refine .ite ?_ (.refl s)
    have h : Calm s (if 0 < before ∧ headroom a = 0 then
        reportExhaustion (clampHolds (refreshLevel s n) n) n else clampHolds (refreshLevel s n) n) :=
      ((refreshLevel_calm s n).trans (clampHolds_calm _ n)).trans (.ite (reportExhaustion_calm _ n) (.refl _))
    dsimp only
    split
    · exact .ite (h.trans (requestAddUsed_calm _ n)) h
    · exact h

theorem modSwath_calm (s : State) (id : Byte) (f : Swath → Swath) : Calm s (modSwath s id f) :=
  .of_frame (modSwath_frame s id f) (by decide)

theorem debitDrops_calm (s : State) (n : SlotId) (id : Byte) (d : Nat) : Calm s (debitDrops s n id d) := by
  unfold debitDrops
  split
  · exact .refl s
  · next a ha =>
    split
    · exact .refl s
    · exact ((setAccount_calm ha (by rfl) (by rfl)).trans (modSwath_calm _ id _)).trans (afterDebit_calm _ n _)

theorem debitPurge_calm (s : State) (n : SlotId) (d : Nat) : Calm s (debitPurge s n d) := by
  unfold debitPurge
  split
  · exact .refl s
  · next a ha => exact (setAccount_calm ha (by rfl) (by rfl)).trans (afterDebit_calm _ n _)

/-! ### Results of write-back operations (R91, R95 to R101) -/

theorem suspect_serial (a : Account) (why : RefillReason) : (suspect a why).serial = a.serial := by
  unfold suspect; split <;> rfl

theorem suspect_level (a : Account) (why : RefillReason) : (suspect a why).level = a.level := by
  unfold suspect; split <;> rfl

theorem counterFell_calm {s : State} {n : SlotId} {a b : Account} (h : s.accounts[n] = some a) (hs : b.serial = a.serial)
    (hl : b.level = a.level) : Calm s (counterFell s n b) := by
  refine Calm.trans (setAccount_calm h ?_ ?_) (raiseAlert_calm _ n _ none)
  · exact (suspect_serial b .counterFell).trans hs
  · exact (suspect_level b .counterFell).trans hl

theorem refusedSpent_calm {s : State} {n : SlotId} {a : Account} (h : s.accounts[n] = some a) (k : Word) :
    Calm s (refusedSpent s n a k) := by
  refine Calm.trans (setAccount_calm h ?_ ?_) (.of_frame (postEvent_frame _ _ _ _ _) (by decide)) <;> dsimp only <;> split
  · rfl
  · exact suspect_serial _ _
  · rfl
  · exact suspect_level _ _

theorem landed_calm {s : State} {n : SlotId} {a : Account} (h : s.accounts[n] = some a) (k total : Nat) :
    Calm s (landed s n a k total) := by
  unfold landed
  refine Calm.trans (Calm.trans ?_ (modAccount_calm _ n
    (f := fun b => { b with confirmed := b.confirmed + b.inFlight, inFlight := 0, failures := 0 })
    (fun _ => rfl) fun _ => rfl)) (spentCheck_calm _ n)
  exact .ite ((setAccount_calm h (by rfl) (by rfl)).trans (afterDebit_calm _ n _)) (.refl s)

/-- A write-back operation that failed counts a failure, and may lose contact (R57, R100). -/
theorem failure_calm {s : State} {n : SlotId} {a b : Account} (h : s.accounts[n] = some a) (hs : b.serial = a.serial)
    (hl : b.level = a.level) (c : Byte) (v : Option Word) (k : Nat) :
    Calm s (reportIfLost (postEvent (setAccount s n (some b)) .writebackFailed (slotByte n) c v) n k) :=
  ((setAccount_calm h hs hl).trans (.of_frame (postEvent_frame _ _ _ _ _) (by decide))).trans (reportIfLost_calm _ n _)

theorem addUsedFailed_calm {s : State} {n : SlotId} {a : Account} (h : s.accounts[n] = some a) (e : BusError) :
    Calm s (addUsedFailed s n a e) := by
  have hk := failure_calm (b := countFailure { returnInFlight a with doubtful := a.inFlight }) h rfl rfl
  exact .ite (((hk _ _ _).trans (enqueueOp_calm _ n _)).trans (requestAddUsed_calm _ n)) (hk _ _ _)

theorem readUsageFailed_calm {s : State} {n : SlotId} {a : Account} (h : s.accounts[n] = some a) (e : BusError) :
    Calm s (readUsageFailed s n a e) := by
  have hk := failure_calm (b := countFailure a) h rfl rfl
  exact .ite ((hk _ _ _).trans (enqueueOp_calm _ n _)) (hk _ _ _)

theorem addUsedResult_calm (s : State) (n : SlotId) (e m : Nat) (r : TxResult) : Calm s (addUsedResult s n e m r) := by
  unfold addUsedResult
  split
  · next h => exact refusedSpent_calm h _
  · next h => exact .ite (landed_calm h _ _) (counterFell_calm h (by rfl) (by rfl))
  · next h => exact addUsedFailed_calm h _
  · exact .refl s

theorem settleDoubt_calm {s : State} {n : SlotId} {a : Account} (h : s.accounts[n] = some a) (k : Nat) :
    Calm s (settleDoubt s n a k) := by
  have ask (t : State) : Calm t (spentCheck (requestAddUsed t n) n) := (requestAddUsed_calm t n).trans (spentCheck_calm _ n)
  unfold settleDoubt
  dsimp only
  refine .ite ((setAccount_calm h (by rfl) (by rfl)).trans (ask _)) ?_
  refine .ite ((setAccount_calm h (by rfl) (by rfl)).trans (ask _)) ?_
  refine .ite (Calm.trans ?_ (ask _)) (counterFell_calm h (by rfl) (by rfl))
  exact ((setAccount_calm h (by rfl) (by rfl)).trans (afterDebit_calm _ n _)).trans
    (modAccount_calm _ n (fun _ => rfl) fun _ => rfl)

theorem readUsageResult_calm (s : State) (n : SlotId) (r : TxResult) : Calm s (readUsageResult s n r) := by
  unfold readUsageResult
  split
  · next h => exact .ite (setAccount_calm h (by rfl) (by rfl)) (settleDoubt_calm h _)
  · next h => exact readUsageFailed_calm h _
  · exact .refl s

theorem markSpentFailed_calm {s : State} {n : SlotId} {a : Account} (h : s.accounts[n] = some a) :
    Calm s (markSpentFailed s n a) := by
  unfold markSpentFailed
  have hb : Calm s (reportIfLost (setAccount s n (some (countFailure (if a.spent = .requested then { a with spent := .none } else a))))
      n (countFailure (if a.spent = .requested then { a with spent := .none } else a)).failures) := by
    refine (setAccount_calm h ?_ ?_).trans (reportIfLost_calm _ n _) <;> split <;> rfl
  exact .ite (hb.trans (spentCheck_calm _ n)) hb

theorem markSpentResult_calm (s : State) (n : SlotId) (r : TxResult) : Calm s (markSpentResult s n r) := by
  unfold markSpentResult
  split
  · next h => exact setAccount_calm h (by rfl) (by rfl)
  · next h => exact markSpentFailed_calm h
  · exact .refl s

theorem passThroughResult_calm (s : State) (n : SlotId) (o l : Byte) (tag : Nat) (r : TxResult) :
    Calm s (passThroughResult s n o l tag r) := .of_frame (passThroughResult_frame s n o l tag r) (by decide)

/-- The result of a transaction that is no admission step leaves admission alone (R59). -/
theorem handOver_calm (s : State) (tx : Transaction) (r : TxResult) (h : tx.admissionStep = none) : Calm s (handOver s tx r) := by
  unfold Transaction.admissionStep at h
  unfold handOver
  split <;> simp_all only [reduceCtorEq]
  · exact addUsedResult_calm s _ _ _ r
  · exact readUsageResult_calm s _ r
  · exact markSpentResult_calm s _ r
  · exact passThroughResult_calm s _ _ _ _ r

theorem drainCheck_calm (s : State) : Calm s (drainCheck s) := .of_frame (drainCheck_frame s) (by decide)

end Sys2Proof.Machine
end

section
namespace Sys2Proof.Machine

/-! ### The proof context and the line (R34) -/

/-- The proof context is free, and the line carries no CHALLENGE. -/
def ProofFree (s : State) : Prop :=
  s.prf.ctx = freeContext ∧ s.prf.digest = none ∧
    ∀ v ∈ s.cbc.line.map lineView, v.2.1 ≠ .admission .challenge ∧ v.2.2 = false

/-- The proof context serves slot `n`, whose CHALLENGE is on the line. -/
def ProofBound (s : State) (n : SlotId) : Prop :=
  s.prf.ctx.slot = some n ∧
    s.cbc.line.map lineView = some (n, .admission .challenge, decide (s.prf.ctx.phase = .checking)) ∧
    ∀ key message, s.prf.digest = some (.response key message) → s.prf.ctx.phase = .checking

theorem line_view {s : State} {v : SlotId × TxCommand × Bool} :
    s.cbc.line.map lineView = some v ↔
      ∃ tx, s.cbc.line = some tx ∧ tx.slot = v.1 ∧ tx.command = v.2.1 ∧ decide (tx.action = .held) = v.2.2 := by
  rw [Option.map_eq_some_iff]
  refine exists_congr fun tx => and_congr_right fun _ => ?_
  rw [lineView, Prod.ext_iff, Prod.ext_iff]

theorem proofSafe_iff (s : State) : ProofSafe s ↔ ProofFree s ∨ ∃ n, ProofBound s n := by
  constructor
  · rintro ⟨hfree, hbound, hline⟩
    cases hslot : s.prf.ctx.slot with
    | none =>
      obtain ⟨hctx, hdig, hheld⟩ := hfree hslot
      refine .inl ⟨hctx, hdig, fun v hv => ?_⟩
      obtain ⟨tx, htx, -, hc, hh⟩ := line_view.1 hv
      refine ⟨fun h => ?_, ?_⟩
      · have := hline tx htx (hc.trans h)
        rw [hslot] at this; cases this
      · rw [← hh, decide_eq_false_iff_not]; exact hheld tx htx
    | some n =>
      obtain ⟨tx, htx, hn, hc, hp, hd⟩ := hbound n hslot
      exact .inr ⟨n, hslot, line_view.2 ⟨tx, htx, hn, hc, decide_eq_decide.2 hp.symm⟩, hd⟩
  · rintro (⟨hctx, hdig, hl⟩ | ⟨n, hslot, hv, hd⟩)
    · have hnone : s.prf.ctx.slot = none := by rw [hctx]; rfl
      refine ⟨fun _ => ⟨hctx, hdig, fun tx htx hh => ?_⟩, fun n hn => ?_, fun tx htx hc => ?_⟩
      · have := (hl (lineView tx) (by rw [htx]; rfl)).2
        simp [lineView, hh] at this
      · rw [hnone] at hn; cases hn
      · exact absurd hc (hl (lineView tx) (by rw [htx]; rfl)).1
    · obtain ⟨tx, htx, hn, hc, hp⟩ := line_view.1 hv
      refine ⟨fun h => ?_, fun m hm => ?_, fun tx' htx' hc' => ?_⟩
      · rw [hslot] at h; cases h
      · obtain rfl : n = m := by rw [hslot] at hm; exact Option.some.inj hm
        exact ⟨tx, htx, hn, hc, (decide_eq_decide.1 hp).symm, hd⟩
      · obtain rfl : tx = tx' := by rw [htx] at htx'; exact Option.some.inj htx'
        rw [hslot, hn]

theorem ProofSafe.congr {s t : State} (h : ProofSafe s) (hc : t.prf.ctx = s.prf.ctx) (hd : t.prf.digest = s.prf.digest)
    (hl : t.cbc.line.map lineView = s.cbc.line.map lineView) : ProofSafe t := by
  rw [proofSafe_iff] at h ⊢
  simpa only [ProofFree, ProofBound, hc, hd, hl] using h

/-- On a free line the proof context is free (R34). -/
theorem ProofSafe.free {s : State} (h : ProofSafe s) (hl : s.cbc.line = none) : ProofFree s := by
  rcases (proofSafe_iff s).1 h with h | ⟨n, -, hv, -⟩
  · exact h
  · rw [hl] at hv; cases hv

/-- The admission step a transaction is, read from what admission sees of it. -/
def viewStep : SlotId × TxCommand × Bool → Option (SlotId × AdmissionStep)
  | (n, .admission step, _) => some (n, step)
  | _ => none

theorem admissionStep_eq (tx : Transaction) : tx.admissionStep = viewStep (lineView tx) := by
  unfold Transaction.admissionStep lineView
  cases h : tx.command <;> rfl

theorem admissionWork_view (s : State) :
    admissionWork s = ((s.cbc.line.map lineView).bind viewStep).toList ++ queueWork s.cbc.queue := by
  rw [admissionWork_eq, Option.bind_map]
  congr 3
  funext tx
  exact admissionStep_eq tx

theorem admissionWork_congr {s t : State} (hl : t.cbc.line.map lineView = s.cbc.line.map lineView)
    (hq : queueWork t.cbc.queue = queueWork s.cbc.queue) : admissionWork t = admissionWork s := by
  rw [admissionWork_view, admissionWork_view, hl, hq]

theorem admissionWork_free {s : State} (h : s.cbc.line = none) : admissionWork s = queueWork s.cbc.queue := by
  rw [admissionWork_view, h]; rfl

/-! ### The arbiter and the admission work (R64) -/

theorem beginAttempt_view (s : State) (tx : Transaction) :
    (beginAttempt s tx).cbc.line.map lineView = some (tx.slot, tx.command, false) := by
  unfold beginAttempt messageReady
  split
  · rfl
  · dsimp only
    split <;> rfl

theorem beginAttempt_queue (s : State) (tx : Transaction) : (beginAttempt s tx).cbc.queue = s.cbc.queue := by
  unfold beginAttempt messageReady
  split <;> rfl

theorem beginAttempt_prf (s : State) (tx : Transaction) : (beginAttempt s tx).prf = s.prf :=
  beginAttempt_frame s tx .prf (by decide)

/-- The entry the arbiter takes, and what it leaves, are the admission steps that waited (R64, R65). -/
theorem oldestEntry_work {q q' : List QEntry} {n : SlotId} {c : TxCommand} (h : oldestEntry q = some (n, c, q')) :
    (queueWork q).Perm ((viewStep (n, c, false)).toList ++ queueWork q') := by
  induction q with
  | nil => cases h
  | cons e q ih =>
    cases e with
    | admission m step => cases h; exact .refl _
    | passThrough m o l tag => cases h; exact .refl _
    | writeBack m ops =>
      cases ops with
      | nil => exact ih h
      | cons op ops =>
        cases h
        have : queueWork (leftover n ops) = [] := by unfold leftover; split <;> rfl
        show (queueWork q).Perm ([] ++ queueWork (q ++ leftover n ops))
        rw [queueWork_append, this, List.append_nil]
        exact .refl _

theorem splitAddUsed_work {q q' : List QEntry} {n : SlotId} {ops : List WbOp} (h : splitAddUsed q = some (n, ops, q')) :
    queueWork q = queueWork q' := by
  induction q generalizing q' with
  | nil => cases h
  | cons e q ih =>
    have hskip (k : splitAddUsed (e :: q) = (splitAddUsed q).map fun (m, o, r) => (m, o, e :: r)) :
        queueWork (e :: q) = queueWork q' := by
      rw [k] at h
      obtain ⟨⟨m, o, r⟩, hr, hq⟩ := Option.map_eq_some_iff.1 h
      cases hq
      rw [queueWork, queueWork, List.filterMap_cons, List.filterMap_cons, ← queueWork, ← queueWork, ih hr]
    cases e with
    | admission m step => exact hskip rfl
    | passThrough m o l tag => exact hskip rfl
    | writeBack m os =>
      rw [splitAddUsed] at h
      split at h
      · cases h; rfl
      · next hc => exact hskip (by rw [splitAddUsed, if_neg hc])

theorem nextEntry_work {flush : Bool} {q q' : List QEntry} {n : SlotId} {c : TxCommand} (h : nextEntry flush q = some (n, c, q')) :
    (queueWork q).Perm ((viewStep (n, c, false)).toList ++ queueWork q') := by
  unfold nextEntry at h
  split at h
  · obtain ⟨⟨m, ops, rest⟩, hr, hq⟩ := Option.map_eq_some_iff.1 h
    cases hq
    have : queueWork (leftover n ops) = [] := by unfold leftover; split <;> rfl
    rw [splitAddUsed_work hr]
    simp [queueWork_append, this, viewStep]
  · exact oldestEntry_work h

theorem startChallenge_identity {s t : State} {n : SlotId} {first : Bool} {body : List Byte}
    (h : startChallenge s n first = some (body, t)) :
    t.prf.identity = s.prf.identity ∧ t.cbc = s.cbc ∧ t.prf.digest = (if first then t.prf.digest else s.prf.digest) ∧
      t.prf.ctx.phase = (if first then .awaitingReply else s.prf.ctx.phase) ∧
      t.prf.ctx.slot = (if first then some n else s.prf.ctx.slot) ∧
      (first = true → ∃ key message, t.prf.digest = some (.derivedKey key message)) := by
  unfold startChallenge at h
  split at h
  · cases h
  · cases h
    cases first
    · exact ⟨rfl, rfl, rfl, rfl, rfl, nofun⟩
    · exact ⟨rfl, rfl, rfl, rfl, rfl, fun _ => ⟨_, _, rfl⟩⟩

theorem startChallenge_isSome {s : State} {n : SlotId} (first : Bool) (h : s.prf.identity[n].isSome = true) :
    ∃ body t, startChallenge s n first = some (body, t) := by
  obtain ⟨id, hid⟩ := Option.isSome_iff_exists.1 h
  unfold startChallenge
  rw [hid]
  exact ⟨_, _, rfl⟩

/-- A transaction begun for a CHALLENGE binds the free proof context to its slot (R34). -/
theorem startChallenge_bound {s t : State} {n : SlotId} {c : TxCommand} {body b : List Byte} (h : startChallenge s n true = some (body, t))
    (hc : c = .admission .challenge) : ProofBound (beginAttempt t (newTransaction n c b)) n := by
  obtain ⟨-, -, -, hphase, hslot, hdig⟩ := startChallenge_identity h
  obtain ⟨key, message, hdig⟩ := hdig rfl
  simp only [if_true] at hphase hslot
  refine ⟨?_, ?_, ?_⟩
  · rw [beginAttempt_prf, hslot]
  · rw [beginAttempt_view, beginAttempt_prf, hphase, hc]; rfl
  · rw [beginAttempt_prf, hdig]; nofun

theorem beginAttempt_free {s : State} (h : ProofFree s) (tx : Transaction) (hc : tx.command ≠ .admission .challenge) :
    ProofFree (beginAttempt s tx) := by
  refine ⟨?_, ?_, ?_⟩
  · rw [beginAttempt_prf]; exact h.1
  · rw [beginAttempt_prf]; exact h.2.1
  · rw [beginAttempt_view]
    rintro v ⟨⟩
    exact ⟨hc, rfl⟩

/-- A transaction started on a free line: its step is on the line, the queue is left alone, and the proof context serves it. -/
theorem startTransaction_work {s : State} {n : SlotId} {c : TxCommand} (hl : s.cbc.line = none) (hp : ProofFree s)
    (hid : c = .admission .challenge → s.prf.identity[n].isSome = true) :
    (startTransaction s n c).cbc.queue = s.cbc.queue ∧
      ((startTransaction s n c).cbc.line.map lineView).bind viewStep = viewStep (n, c, false) ∧
      ProofSafe (startTransaction s n c) := by
  have hbegin (t : State) (tx : Transaction) (ht : t.cbc = s.cbc) (hpr : t.prf = s.prf) (hn : tx.slot = n)
      (hcmd : tx.command = c) (hne : c ≠ .admission .challenge) :
      (beginAttempt t tx).cbc.queue = s.cbc.queue ∧
        ((beginAttempt t tx).cbc.line.map lineView).bind viewStep = viewStep (n, c, false) ∧ ProofSafe (beginAttempt t tx) := by
    refine ⟨by rw [beginAttempt_queue, ht], by rw [beginAttempt_view, hn, hcmd]; rfl, ?_⟩
    refine (proofSafe_iff _).2 (.inl (beginAttempt_free ?_ tx (hcmd ▸ hne)))
    simpa only [ProofFree, ht, hpr] using hp
  unfold startTransaction
  split
  · split
    · exact ⟨rfl, by rw [hl]; rfl, (proofSafe_iff s).2 (.inl hp)⟩
    · next h =>
      have hf := addUsedBody_frame h
      exact hbegin _ _ (hf .cbc (by decide)) (hf .prf (by decide)) rfl rfl (by decide)
  · obtain ⟨body, t, ht⟩ := startChallenge_isSome true (hid rfl)
    rw [ht]
    obtain ⟨-, hcbc, -⟩ := startChallenge_identity ht
    exact ⟨by rw [beginAttempt_queue, hcbc], by rw [beginAttempt_view]; rfl,
      (proofSafe_iff _).2 (.inr ⟨n, startChallenge_bound ht rfl⟩)⟩
  · exact hbegin s _ rfl rfl rfl rfl nofun
  · next _ hne _ => exact hbegin s _ rfl rfl rfl rfl hne

theorem unbuiltChallenge_identity (s : State) (n : SlotId) : (unbuiltChallenge s n).prf.identity = s.prf.identity := by
  unfold unbuiltChallenge releaseContext
  dsimp only
  split <;> rfl

theorem startTransaction_identity (s : State) (n : SlotId) (c : TxCommand) :
    (startTransaction s n c).prf.identity = s.prf.identity := by
  unfold startTransaction
  split
  · split
    · rfl
    · next h => rw [beginAttempt_prf, show _ = s.prf from addUsedBody_frame h .prf (by decide)]
  · split
    · exact unbuiltChallenge_identity s n
    · next h => rw [beginAttempt_prf, (startChallenge_identity h).1]
  · rw [beginAttempt_prf]
  · rw [beginAttempt_prf]

theorem arbitrateUpTo_identity (k : Nat) (s : State) : (arbitrateUpTo k s).prf.identity = s.prf.identity := by
  induction k generalizing s with
  | zero => rfl
  | succ k ih =>
    unfold arbitrateUpTo
    split
    · rfl
    · split
      · rfl
      · rw [ih, startTransaction_identity]

/-- The arbiter leaves the identity records alone. -/
theorem arbitrate_identity (s : State) : (arbitrate s).prf.identity = s.prf.identity := arbitrateUpTo_identity _ s

/-- Every CHALLENGE at work has its identity record (R29). -/
def ChallengesKnown (s : State) : Prop := ∀ n : SlotId, (n, AdmissionStep.challenge) ∈ admissionWork s → s.prf.identity[n].isSome = true

theorem viewStep_challenge (n : SlotId) {c : TxCommand} (hc : c = .admission .challenge) :
    viewStep (n, c, false) = some (n, AdmissionStep.challenge) := by subst hc; rfl

/-- The arbiter moves admission steps from the queue to the line, and the proof context follows (R34, R64). -/
theorem arbitrateUpTo_work (k : Nat) (s : State) (hp : ProofSafe s) (hk : ChallengesKnown s) :
    (admissionWork (arbitrateUpTo k s)).Perm (admissionWork s) ∧ ProofSafe (arbitrateUpTo k s) := by
  induction k generalizing s with
  | zero => exact ⟨.refl _, hp⟩
  | succ k ih =>
    by_cases hl : s.cbc.line.isSome = true
    · rw [arbitrateUpTo_busy _ _ hl]; exact ⟨.refl _, hp⟩
    · have hn : s.cbc.line = none := by simpa using hl
      rw [arbitrateUpTo, if_neg hl]
      split
      · exact ⟨.refl _, hp⟩
      · next n c q hq =>
        have hperm := nextEntry_work hq
        have hwork : admissionWork s = queueWork s.cbc.queue := admissionWork_free hn
        obtain ⟨h1, h2, h3⟩ := startTransaction_work (s := { s with cbc := { s.cbc with queue := q } }) (n := n) (c := c) hn
          (hp.free hn) fun hc => hk n (by
            rw [hwork, hperm.mem_iff, viewStep_challenge n hc]; exact List.mem_cons_self)
        have hnew : (admissionWork (startTransaction { s with cbc := { s.cbc with queue := q } } n c)).Perm (admissionWork s) := by
          rw [admissionWork_view, h1, h2, hwork]; exact hperm.symm
        obtain ⟨hi, hj⟩ := ih _ h3 fun m hm => by rw [startTransaction_identity]; exact hk m (hnew.mem_iff.1 hm)
        exact ⟨hi.trans hnew, hj⟩

theorem arbitrate_work (s : State) (hp : ProofSafe s) (hk : ChallengesKnown s) :
    (admissionWork (arbitrate s)).Perm (admissionWork s) ∧ ProofSafe (arbitrate s) := arbitrateUpTo_work _ s hp hk

theorem sent_put_map {β : Type} {k : Nat} {v : Vector (Option Account) k} {n : Fin k} {a b : Account} (ha : v[n] = some a) (h : Sent a b)
    (f : Account → β) (hf : ∀ x i p, f { x with inFlight := i, pendingInk := p } = f x) (m : Fin k) :
    (put v n (some b))[m].map f = v[m].map f := by
  obtain ⟨-, -, -, d, -, -, rfl⟩ := h
  exact put_map_eq _ _ _ _ _ (by simp [ha, hf])

/-- The arbiter keeps of every account what an ADD_USED's start does not change (R94). -/
theorem arbitrate_account_map {β : Type} (s : State) (f : Account → β)
    (hf : ∀ x i p, f { x with inFlight := i, pendingInk := p } = f x) (m : SlotId) :
    (arbitrate s).accounts[m].map f = s.accounts[m].map f := by
  rcases arbitrate_accounts s with h | ⟨-, -, n, a, b, ha, hs, h⟩
  · rw [h]
  · rw [h]; exact sent_put_map ha hs f hf m

theorem arbitrate_sameLamps (s : State) : SameLamps s (arbitrate s) :=
  ⟨arbitrate_frame s .slots (by decide), arbitrate_account_map s _ fun _ _ _ => rfl⟩

end Sys2Proof.Machine
end

section
namespace Sys2Proof.Machine

/-! ### Admission but for one slot -/

/-- Slot `n` has an account exactly in the states that hold one, and an identity record exactly in PROVING and RECONCILING
(1.1, R29). -/
def SlotFits (s : State) (n : SlotId) : Prop :=
  s.accounts[n].isSome = holdsAccount s.slots[n].state ∧
    s.prf.identity[n].isSome = (s.slots[n].state == .proving || s.slots[n].state == .reconciling)

/-- The admission steps at work are one to a slot, each the one its slot's state awaits, and the proof context serves the
CHALLENGE on the line (R7, R8, R34, R61). -/
structure WorkSafe (s : State) : Prop where
  nodup : ((admissionWork s).map (·.1)).Nodup
  awaited : ∀ x ∈ admissionWork s, s.slots[x.1].state = stepState x.2
  proof : ProofSafe s
  known : ChallengesKnown s

/-- No admission step of slot `n` is at work. -/
def NoWork (n : SlotId) (s : State) : Prop := ∀ x ∈ admissionWork s, x.1 ≠ n

/-- What `AdmissionsSafe` says, slot `n` left out of what it says of each slot: so it stands while slot `n` is between two
states. -/
structure AdmissionsBut (n : SlotId) (s : State) : Prop where
  running : s.phase = .running
  fits : ∀ m : SlotId, m ≠ n → SlotFits s m
  claims : ∀ (m k : SlotId) (x : Serial), m ≠ n → k ≠ n → claimed s m = some x → claimed s k = some x → m = k
  work : WorkSafe s

theorem AdmissionsSafe.slotFits {s : State} (h : AdmissionsSafe s) (n : SlotId) : SlotFits s n := ⟨h.2.1 n, h.2.2.1 n⟩

theorem AdmissionsSafe.work {s : State} (h : AdmissionsSafe s) : WorkSafe s := by
  obtain ⟨-, -, hid, -, hnodup, hstep, hproof⟩ := h
  refine ⟨hnodup, hstep, hproof, fun n hn => ?_⟩
  have := hstep _ hn
  rw [hid n, this]; rfl

theorem AdmissionsSafe.proof {s : State} (h : AdmissionsSafe s) : ProofSafe s := h.work.proof

theorem AdmissionsSafe.but {s : State} (h : AdmissionsSafe s) (hr : s.phase = .running) (n : SlotId) : AdmissionsBut n s :=
  ⟨hr, fun m _ => h.slotFits m, fun m k x _ _ => h.2.2.2.1 m k x, h.work⟩

/-- A slot whose state awaits no admission step has none at work (R61). -/
theorem WorkSafe.noWork {s : State} (h : WorkSafe s) {n : SlotId} (hr : s.slots[n].state ≠ .reading)
    (hp : s.slots[n].state ≠ .proving) : NoWork n s := by
  rintro ⟨m, step⟩ hx rfl
  have := h.awaited _ hx
  cases step
  · exact hr this
  · exact hp this

/-- The slot that was left out fits again. -/
theorem AdmissionsBut.safe {s : State} {n : SlotId} (h : AdmissionsBut n s) (hf : SlotFits s n)
    (hc : ∀ (m : SlotId) (x : Serial), m ≠ n → claimed s n = some x → claimed s m ≠ some x) : AdmissionsSafe s := by
  have hfit (m : SlotId) : SlotFits s m := by
    by_cases hm : m = n
    · subst hm; exact hf
    · exact h.fits m hm
  refine ⟨fun hr => absurd h.running hr, fun m => (hfit m).1, fun m => (hfit m).2, fun m k x hx hy => ?_, h.work.nodup,
    h.work.awaited, h.work.proof⟩
  by_cases hm : m = n
  · by_cases hk : k = n
    · rw [hm, hk]
    · exact absurd hy (hc k x hk (hm ▸ hx))
  · by_cases hk : k = n
    · exact absurd hx (hc m x hm (hk ▸ hy))
    · exact h.claims m k x hm hk hx hy

theorem claimed_congr {s t : State} {n : SlotId} (hs : t.slots[n].state = s.slots[n].state)
    (ha : t.accounts[n].map (·.serial) = s.accounts[n].map (·.serial)) (hi : t.prf.identity[n] = s.prf.identity[n]) :
    claimed t n = claimed s n := by
  unfold claimed
  rw [hs, hi]
  cases hsa : s.accounts[n] <;> cases hta : t.accounts[n] <;> simp_all

/-- A slot with no account, neither in PROVING nor in RECONCILING, claims no serial (R28). -/
theorem claimed_none {s : State} {n : SlotId} (ha : s.accounts[n] = none) (hp : s.slots[n].state ≠ .proving)
    (hr : s.slots[n].state ≠ .reconciling) : claimed s n = none := by
  unfold claimed
  rw [ha]
  simp only [hp, hr, or_self, if_false]

theorem claimed_account {s : State} {n : SlotId} {a : Account} (ha : s.accounts[n] = some a) : claimed s n = some a.serial := by
  unfold claimed
  rw [ha]

theorem isSome_of_map_eq {α β : Type} {f : α → β} {x y : Option α} (h : x.map f = y.map f) : x.isSome = y.isSome := by
  rw [← Option.isSome_map (f := f), h, Option.isSome_map]

theorem SlotFits.congr {s t : State} {n : SlotId} (h : SlotFits s n) (hs : t.slots[n].state = s.slots[n].state)
    (ha : t.accounts[n].map (·.serial) = s.accounts[n].map (·.serial)) (hi : t.prf.identity[n] = s.prf.identity[n]) :
    SlotFits t n := by
  rw [SlotFits, hs, hi, isSome_of_map_eq ha]; exact h

/-! ### What happens to one slot alone -/

/-- From `s` to `t`, admission sees changes at slot `n` alone, none of them of the admission steps or the proof context. -/
structure OnlyAt (n : SlotId) (s t : State) : Prop where
  phase : t.phase = s.phase
  states : ∀ m : SlotId, m ≠ n → t.slots[m].state = s.slots[m].state
  serials : ∀ m : SlotId, m ≠ n → t.accounts[m].map (·.serial) = s.accounts[m].map (·.serial)
  identity : ∀ m : SlotId, m ≠ n → t.prf.identity[m] = s.prf.identity[m]
  ctx : t.prf.ctx = s.prf.ctx
  digest : t.prf.digest = s.prf.digest
  line : t.cbc.line.map lineView = s.cbc.line.map lineView
  queue : queueWork t.cbc.queue = queueWork s.cbc.queue

theorem OnlyAt.refl (n : SlotId) (s : State) : OnlyAt n s s :=
  ⟨rfl, fun _ _ => rfl, fun _ _ => rfl, fun _ _ => rfl, rfl, rfl, rfl, rfl⟩

theorem OnlyAt.trans {n : SlotId} {s t u : State} (h : OnlyAt n s t) (k : OnlyAt n t u) : OnlyAt n s u where
  phase := k.phase.trans h.phase
  states m hm := (k.states m hm).trans (h.states m hm)
  serials m hm := (k.serials m hm).trans (h.serials m hm)
  identity m hm := (k.identity m hm).trans (h.identity m hm)
  ctx := k.ctx.trans h.ctx
  digest := k.digest.trans h.digest
  line := k.line.trans h.line
  queue := k.queue.trans h.queue

/-- A calm operation that keeps the states of the other slots. -/
theorem OnlyAt.of_calm {n : SlotId} {s t : State} (h : Calm s t) (hs : OtherSlotsKept n s t) : OnlyAt n s t :=
  ⟨h.phase, fun m hm => by rw [hs m hm], fun m _ => h.serials m, fun m _ => by rw [h.identity], h.ctx, h.digest, h.line, h.queue⟩

theorem NoWork.congr {n : SlotId} {s t : State} (h : NoWork n s) (hw : admissionWork t = admissionWork s) : NoWork n t := by
  rw [NoWork, hw]; exact h

theorem OnlyAt.work {n : SlotId} {s t : State} (h : OnlyAt n s t) : admissionWork t = admissionWork s :=
  admissionWork_congr h.line h.queue

theorem OnlyAt.workSafe {n : SlotId} {s t : State} (h : OnlyAt n s t) (hs : WorkSafe s) (hn : NoWork n s) : WorkSafe t := by
  refine ⟨by rw [h.work]; exact hs.nodup, fun x hx => ?_, hs.proof.congr h.ctx h.digest h.line, fun m hm => ?_⟩
  · rw [h.work] at hx
    rw [h.states _ (hn x hx)]; exact hs.awaited x hx
  · rw [h.work] at hm
    rw [h.identity _ (hn _ hm)]; exact hs.known m hm

theorem OnlyAt.but {n : SlotId} {s t : State} (h : OnlyAt n s t) (hs : AdmissionsBut n s) (hn : NoWork n s) :
    AdmissionsBut n t := by
  have hclaim (m : SlotId) (hm : m ≠ n) : claimed t m = claimed s m :=
    claimed_congr (h.states m hm) (h.serials m hm) (h.identity m hm)
  refine ⟨h.phase.trans hs.running, fun m hm => (hs.fits m hm).congr (h.states m hm) (h.serials m hm) (h.identity m hm),
    fun m k x hm hk hx hy => ?_, h.workSafe hs.work hn⟩
  rw [hclaim m hm] at hx
  rw [hclaim k hk] at hy
  exact hs.claims m k x hm hk hx hy

theorem OnlyAt.noWork {n : SlotId} {s t : State} (h : OnlyAt n s t) (hn : NoWork n s) : NoWork n t := hn.congr h.work

theorem setAccount_onlyAt (s : State) (n : SlotId) (a : Option Account) : OnlyAt n s (setAccount s n a) :=
  ⟨rfl, fun _ _ => rfl, fun m hm => by rw [setAccount_accounts, put_other _ _ _ _ hm], fun _ _ => rfl, rfl, rfl, rfl, rfl⟩

theorem setIdentity_onlyAt (s : State) (n : SlotId) (i : Option IdRecord) : OnlyAt n s (setIdentity s n i) :=
  ⟨rfl, fun _ _ => rfl, fun _ _ => rfl, fun m hm => by rw [setIdentity_prf]; exact put_other _ _ _ _ hm, rfl, rfl, rfl, rfl⟩

theorem modSlot_onlyAt (s : State) (n : SlotId) (f : SlotRec → SlotRec) : OnlyAt n s (modSlot s n f) :=
  ⟨rfl, fun m hm => by rw [modSlot_others s n f m hm], fun _ _ => rfl, fun _ _ => rfl, rfl, rfl, rfl, rfl⟩

theorem moveSlot_onlyAt (s : State) (n : SlotId) (st : SlotState) : OnlyAt n s (moveSlot s n st) :=
  ⟨rfl, fun m hm => by rw [moveSlot_others s n st m hm], fun _ _ => rfl, fun _ _ => rfl, rfl, rfl, rfl, rfl⟩

theorem changeState_onlyAt (s : State) (n : SlotId) (st : SlotState) : OnlyAt n s (changeState s n st) :=
  (moveSlot_onlyAt s n st).trans (.of_calm (changeState_after_moveSlot s n st) (.of_eq (changeState_slots s n st)))

theorem raiseAlert_onlyAt (s : State) (n : SlotId) (c : AlertCode) (v : Option Word) : OnlyAt n s (raiseAlert s n c v) :=
  .of_calm (raiseAlert_calm s n c v) (raiseAlert_others s n c v)

theorem rejectSlot_onlyAt (s : State) (n : SlotId) (why : Reason) : OnlyAt n s (rejectSlot s n why) :=
  (changeState_onlyAt s n _).trans (raiseAlert_onlyAt _ n _ _)

theorem openAccount_onlyAt (s : State) (n : SlotId) (a : Account) : OnlyAt n s (openAccount s n a) :=
  (setAccount_onlyAt s n _).trans (.of_calm (requestAddUsed_calm _ n) (.of_frame (requestAddUsed_frame _ n) (by decide)))

/-! ### Calm operations and the arbiter keep admission coherent -/

theorem ne_of_holdsAccount {st : SlotState} (h : holdsAccount st = true) :
    st ≠ .vacant ∧ st ≠ .reading ∧ st ≠ .proving ∧ st ≠ .reconciling := by
  refine ⟨?_, ?_, ?_, ?_⟩ <;> rintro rfl <;> cases h

theorem Calm.work {s t : State} (h : Calm s t) : admissionWork t = admissionWork s := admissionWork_congr h.line h.queue

theorem Calm.admissions {s t : State} (h : Calm s t) (hs : AdmissionsSafe s) : AdmissionsSafe t := by
  obtain ⟨hvac, hacc, hid, hclaim, hnodup, hstep, hproof⟩ := hs
  have hsome (n : SlotId) : t.accounts[n].isSome = s.accounts[n].isSome := isSome_of_map_eq (h.serials n)
  have hstate (n : SlotId) (hn : holdsAccount s.slots[n].state = false) : t.slots[n].state = s.slots[n].state := by
    rcases h.states n with h1 | ⟨h1, -⟩
    · exact h1
    · rw [hn] at h1; cases h1
  have hc (n : SlotId) : claimed t n = claimed s n := by
    by_cases hn : holdsAccount s.slots[n].state = true
    · obtain ⟨a, ha⟩ := Option.isSome_iff_exists.1 ((hacc n).trans hn)
      obtain ⟨b, hb⟩ := Option.isSome_iff_exists.1 ((hsome n).trans ((hacc n).trans hn))
      have := h.serials n
      rw [ha, hb] at this
      rw [claimed_account ha, claimed_account hb]; exact this
    · exact claimed_congr (hstate n (Bool.not_eq_true _ ▸ hn)) (h.serials n) (by rw [h.identity])
  refine ⟨fun hp n => ?_, fun n => ?_, fun n => ?_, fun m n x hx hy => ?_, by rw [h.work]; exact hnodup, fun x hx => ?_,
    hproof.congr h.ctx h.digest h.line⟩
  · have hv := hvac (h.phase ▸ hp) n
    rw [hstate n (by rw [hv]; rfl), hv]
  · rw [hsome, hacc n]
    rcases h.states n with h1 | ⟨h1, h2⟩
    · rw [h1]
    · rw [h1, h2]
  · rw [h.identity, hid n]
    rcases h.states n with h1 | ⟨h1, h2⟩
    · rw [h1]
    · obtain ⟨-, -, hp, hr⟩ := ne_of_holdsAccount h1
      obtain ⟨-, -, hp', hr'⟩ := ne_of_holdsAccount h2
      rw [beq_eq_false_iff_ne.2 hp, beq_eq_false_iff_ne.2 hr, beq_eq_false_iff_ne.2 hp', beq_eq_false_iff_ne.2 hr']
  · rw [hc] at hx hy
    exact hclaim m n x hx hy
  · rw [h.work] at hx
    rcases h.states x.1 with h1 | ⟨h1, -⟩
    · rw [h1]; exact hstep x hx
    · obtain ⟨-, hr, hp, -⟩ := ne_of_holdsAccount h1
      have := hstep x hx
      rcases x with ⟨n, _ | _⟩
      · exact absurd this hr
      · exact absurd this hp

theorem WorkSafe.arbitrate {s : State} (h : WorkSafe s) : WorkSafe (arbitrate s) := by
  obtain ⟨hperm, hproof⟩ := arbitrate_work s h.proof h.known
  refine ⟨((hperm.map _).nodup_iff).2 h.nodup, fun x hx => ?_, hproof, fun n hn => ?_⟩
  · rw [arbitrate_frame s .slots (by decide)]; exact h.awaited x (hperm.mem_iff.1 hx)
  · rw [arbitrate_identity]; exact h.known n (hperm.mem_iff.1 hn)

theorem NoWork.arbitrate {n : SlotId} {s : State} (hn : NoWork n s) (h : WorkSafe s) : NoWork n (arbitrate s) :=
  fun x hx => hn x ((arbitrate_work s h.proof h.known).1.mem_iff.1 hx)

theorem arbitrate_claimed (s : State) (n : SlotId) : claimed (arbitrate s) n = claimed s n :=
  claimed_congr (by rw [arbitrate_frame s .slots (by decide)]) (arbitrate_account_map s _ (fun _ _ _ => rfl) n)
    (by rw [arbitrate_identity])

theorem arbitrate_slotFits {s : State} {n : SlotId} (h : SlotFits s n) : SlotFits (arbitrate s) n :=
  h.congr (by rw [arbitrate_frame s .slots (by decide)]) (arbitrate_account_map s _ (fun _ _ _ => rfl) n)
    (by rw [arbitrate_identity])

theorem AdmissionsBut.arbitrate {s : State} {n : SlotId} (h : AdmissionsBut n s) : AdmissionsBut n (arbitrate s) := by
  refine ⟨(arbitrate_frame s .phase (by decide)).trans h.running, fun m hm => arbitrate_slotFits (h.fits m hm),
    fun m k x hm hk => ?_, h.work.arbitrate⟩
  rw [arbitrate_claimed, arbitrate_claimed]
  exact h.claims m k x hm hk

theorem AdmissionsSafe.arbitrate {s : State} (h : AdmissionsSafe s) : AdmissionsSafe (arbitrate s) := by
  have hw := h.work.arbitrate
  refine ⟨fun hp n => ?_, fun n => (arbitrate_slotFits (h.slotFits n)).1, fun n => (arbitrate_slotFits (h.slotFits n)).2,
    fun m n x => ?_, hw.nodup, hw.awaited, hw.proof⟩
  · rw [arbitrate_frame s .slots (by decide)]
    exact h.1 (by rwa [arbitrate_frame s .phase (by decide)] at hp) n
  · rw [arbitrate_claimed, arbitrate_claimed]
    exact h.2.2.2.1 m n x

/-! ### The two invariants together -/

/-- From `s` to `t` the coherence of alerts and lamps, and that of admission, are kept. -/
def Keeps (s t : State) : Prop := (SlotsSafe s → SlotsSafe t) ∧ (AdmissionsSafe s → AdmissionsSafe t)

theorem Keeps.refl (s : State) : Keeps s s := ⟨id, id⟩

theorem Keeps.trans {s t u : State} (h : Keeps s t) (k : Keeps t u) : Keeps s u := ⟨k.1 ∘ h.1, k.2 ∘ h.2⟩

theorem Keeps.ite {s t u : State} {c : Prop} [Decidable c] (h : Keeps s t) (k : Keeps s u) : Keeps s (if c then t else u) := by
  split
  · exact h
  · exact k

theorem Calm.keeps {s t : State} (h : Calm s t) : Keeps s t := ⟨h.lamps, h.admissions⟩

theorem Keeps.of_frame {s t : State} {ps : List Part} (h : OnlyChanges ps s t) (hp : ∀ p ∈ admissionParts, p ∉ ps) : Keeps s t :=
  (Calm.of_frame h hp).keeps

theorem Keeps.foldl {α : Type} (f : State → α → State) (h : ∀ s a, Keeps s (f s a)) (l : List α) (s : State) :
    Keeps s (l.foldl f s) := by
  induction l generalizing s with
  | nil => exact .refl s
  | cons a l ih => exact (h s a).trans (ih _)

theorem arbitrate_keeps (s : State) : Keeps s (arbitrate s) := ⟨(arbitrate_sameLamps s).safe, AdmissionsSafe.arbitrate⟩

theorem arbitrateIfJoined_keeps {s t : State} (h : Keeps s t) : Keeps s (arbitrateIfJoined s t) :=
  .ite h (h.trans (arbitrate_keeps t))

theorem trigger_keeps (s : State) (n : SlotId) : Keeps s (trigger s n) :=
  .ite ((enqueueOp_calm s n _).keeps.trans (arbitrate_keeps _)) (.refl s)

/-- An entry at the tail of the queue, before the arbiter acts (R60). -/
def withEntry (s : State) (e : QEntry) : State := { s with cbc := { s.cbc with queue := s.cbc.queue ++ [e] } }

theorem joinQueue_eq (s : State) (e : QEntry) : joinQueue s e = arbitrate (withEntry s e) := rfl

theorem withEntry_frame (s : State) (e : QEntry) : OnlyChanges [.cbc] s (withEntry s e) := cbc_frame s _

theorem joinPassThrough_keeps (s : State) (n : SlotId) (o l : Byte) (tag : Nat) :
    Keeps s (joinQueue s (.passThrough n o l tag)) :=
  (Calm.of_cbc (withEntry_frame s _) rfl (by simp [withEntry, queueWork, QEntry.admissionStep])).keeps.trans (arbitrate_keeps _)

/-! ### Entering an admission state (R7) -/

/-- An admission step joins the queue for a slot whose state awaits it. -/
theorem AdmissionsSafe.join {s : State} {n : SlotId} {step : AdmissionStep} (h : AdmissionsSafe s) (hn : NoWork n s)
    (hs : s.slots[n].state = stepState step) :
    AdmissionsSafe (withEntry s (.admission n step)) := by
  obtain ⟨hvac, hacc, hid, hclaim, hnodup, hstep, hproof⟩ := h
  have hw : admissionWork (withEntry s (.admission n step)) = admissionWork s ++ [(n, step)] := by
    rw [admissionWork_view, admissionWork_view, withEntry, queueWork_append, List.append_assoc]; rfl
  refine ⟨hvac, hacc, hid, hclaim, ?_, fun x hx => ?_, hproof⟩
  · rw [hw, List.map_append, List.nodup_append]
    refine ⟨hnodup, List.nodup_singleton _, fun a ha b hb => ?_⟩
    obtain ⟨x, hx, rfl⟩ := List.mem_map.1 ha
    obtain rfl : b = n := by simpa using hb
    exact hn x hx
  · rw [hw, List.mem_append, List.mem_singleton] at hx
    rcases hx with hx | rfl
    · exact hstep x hx
    · exact hs

theorem AdmissionsSafe.placeAdmission {s : State} {n : SlotId} {step : AdmissionStep} (h : AdmissionsSafe s) (hn : NoWork n s)
    (hs : s.slots[n].state = stepState step) : AdmissionsSafe (placeAdmission s n step) := (h.join hn hs).arbitrate

theorem placeAdmission_sameLamps (s : State) (n : SlotId) (step : AdmissionStep) : SameLamps s (placeAdmission s n step) :=
  (SameLamps.of_frame (withEntry_frame s _) (by decide) (by decide)).trans (arbitrate_sameLamps _)

theorem moveSlot_state (s : State) (n : SlotId) (st : SlotState) : (moveSlot s n st).slots[n].state = st := by
  rw [moveSlot_same]

theorem changeState_state (s : State) (n : SlotId) (st : SlotState) : (changeState s n st).slots[n].state = st := by
  rw [changeState_same, moveSlot_state]

/-- A slot with neither account nor identity record takes a state that has neither. -/
theorem AdmissionsBut.enter {s : State} {n : SlotId} {st : SlotState} (h : AdmissionsBut n s) (hn : NoWork n s)
    (ha : s.accounts[n] = none) (hi : s.prf.identity[n] = none) (hst : holdsAccount st = false) (hp : st ≠ .proving)
    (hr : st ≠ .reconciling) : AdmissionsSafe (moveSlot s n st) := by
  have hs := moveSlot_state s n st
  have hid : (moveSlot s n st).prf.identity[n] = none := hi
  refine ((moveSlot_onlyAt s n st).but h hn).safe ⟨?_, ?_⟩ fun m x _ hx => ?_
  · rw [hs, hst]; exact congrArg Option.isSome ha
  · rw [hs, hid, beq_eq_false_iff_ne.2 hp, beq_eq_false_iff_ne.2 hr]; rfl
  · rw [claimed_none (s := moveSlot s n st) ha (by rw [hs]; exact hp) (by rw [hs]; exact hr)] at hx; cases hx

theorem SlotFits.unused {s : State} {n : SlotId} (h : SlotFits s n) (ha : holdsAccount s.slots[n].state = false)
    (hp : s.slots[n].state ≠ .proving) (hr : s.slots[n].state ≠ .reconciling) : s.accounts[n] = none ∧ s.prf.identity[n] = none := by
  obtain ⟨h1, h2⟩ := h
  rw [ha] at h1
  rw [beq_eq_false_iff_ne.2 hp, beq_eq_false_iff_ne.2 hr] at h2
  exact ⟨by simpa using h1, by simpa using h2⟩

theorem startReading_eq (s : State) (n : SlotId) : startReading s n = placeAdmission (moveSlot s n .reading) n .readId := rfl

/-- A slot with nothing left of a cartridge goes to READING (R7). -/
theorem AdmissionsBut.startReading {s : State} {n : SlotId} (h : AdmissionsBut n s) (hn : NoWork n s) (ha : s.accounts[n] = none)
    (hi : s.prf.identity[n] = none) : AdmissionsSafe (startReading s n) := by
  rw [startReading_eq]
  exact (h.enter (st := .reading) hn ha hi rfl nofun nofun).placeAdmission ((moveSlot_onlyAt s n _).noWork hn)
    (moveSlot_state s n _)

theorem startReading_safe {s : State} {n : SlotId} (h : SafeBut n s) : SlotsSafe (startReading s n) :=
  (placeAdmission_sameLamps _ n _).safe (moveSlot_safe _ h)

/-- A slot in a state that uses neither account nor bus starts an admission (R4, R5, R6, R17). -/
theorem startReading_keeps {s : State} {n : SlotId} (hrun : s.phase = .running) (ha : holdsAccount s.slots[n].state = false)
    (h1 : s.slots[n].state ≠ .reading) (h2 : s.slots[n].state ≠ .proving) (h3 : s.slots[n].state ≠ .reconciling) :
    Keeps s (startReading s n) := by
  refine ⟨fun h => startReading_safe (h.but n), fun h => ?_⟩
  obtain ⟨hacc, hid⟩ := (h.slotFits n).unused ha h2 h3
  exact (h.but hrun n).startReading (h.work.noWork h1 h2) hacc hid

theorem insertion_keeps {s : State} {n : SlotId} (hrun : s.phase = .running) (hv : s.slots[n].state = .vacant) :
    Keeps s (insertion s n) := by
  have hseat : Keeps s (moveSlot s n .seated) := by
    refine ⟨fun h => moveSlot_safe _ (h.but n), fun h => ?_⟩
    obtain ⟨hacc, hid⟩ := (h.slotFits n).unused (by rw [hv]; rfl) (by rw [hv]; nofun) (by rw [hv]; nofun)
    exact (h.but hrun n).enter (h.work.noWork (by rw [hv]; nofun) (by rw [hv]; nofun)) hacc hid rfl nofun nofun
  have hs := moveSlot_state s n .seated
  exact .ite (hseat.trans (startReading_keeps hrun (by rw [hs]; rfl) (by rw [hs]; nofun) (by rw [hs]; nofun) (by rw [hs]; nofun)))
    hseat

end Sys2Proof.Machine
end

section
namespace Sys2Proof.Machine

/-! ### The transaction leaves the line (R59) -/

/-- The state with a free line. -/
def lineOff (s : State) : State := { s with cbc := { s.cbc with line := none } }

theorem leaveLine_eq (s : State) : leaveLine s = drainCheck (arbitrate (lineOff s)) := rfl

theorem lineOff_frame (s : State) : OnlyChanges [.cbc] s (lineOff s) := cbc_frame s _

theorem lineOff_sameLamps (s : State) : SameLamps s (lineOff s) := .of_frame (lineOff_frame s) (by decide) (by decide)

theorem Calm.lineOff {s t : State} (h : Calm s t) : Calm (lineOff s) (lineOff t) :=
  ⟨h.phase, h.states, h.serials, h.identity, h.ctx, h.digest, rfl, h.queue,
    fun hs => (lineOff_sameLamps t).safe (h.lamps (SameLamps.safe ⟨rfl, fun _ => rfl⟩ hs))⟩

theorem OnlyAt.lineOff {n : SlotId} {s t : State} (h : OnlyAt n s t) : OnlyAt n (lineOff s) (lineOff t) :=
  ⟨h.phase, h.states, h.serials, h.identity, h.ctx, h.digest, rfl, h.queue⟩

theorem freePrf_eq {s : State} (h : ProofFree s) : freePrf s = s := by
  obtain ⟨hc, hd, -⟩ := h
  unfold freePrf
  rw [← hc, ← hd]

theorem admissionWork_lineOff (s : State) : admissionWork (lineOff s) = queueWork s.cbc.queue := admissionWork_free rfl

theorem queueWork_sublist (s : State) : (queueWork s.cbc.queue).Sublist (admissionWork s) := by
  rw [admissionWork_eq]; exact List.sublist_append_right _ _

/-- With the line and the proof context free, what waits is as safe as it was. -/
theorem AdmissionsSafe.lineOff_freePrf {s : State} (h : AdmissionsSafe s) : AdmissionsSafe (lineOff (freePrf s)) := by
  obtain ⟨hvac, hacc, hid, hclaim, hnodup, hstep, -⟩ := h
  have hw : admissionWork (lineOff (freePrf s)) = queueWork s.cbc.queue := admissionWork_lineOff _
  refine ⟨hvac, hacc, hid, hclaim, ?_, fun x hx => ?_, (proofSafe_iff _).2 (.inl ⟨rfl, rfl, nofun⟩)⟩
  · rw [hw]; exact ((queueWork_sublist s).map _).nodup hnodup
  · rw [hw] at hx; exact hstep x ((queueWork_sublist s).subset hx)

/-- A transaction that is no CHALLENGE leaves the line with the proof context free. -/
theorem AdmissionsSafe.lineOff {s : State} {tx : Transaction} (h : AdmissionsSafe s) (hl : s.cbc.line = some tx)
    (hc : tx.command ≠ .admission .challenge) : AdmissionsSafe (lineOff s) := by
  have hfree : ProofFree s := by
    rcases (proofSafe_iff s).1 h.proof with h | ⟨n, -, hv, -⟩
    · exact h
    · rw [hl] at hv
      exact absurd (congrArg (·.2.1) (Option.some.inj hv)) hc
  have := h.lineOff_freePrf
  rwa [freePrf_eq hfree] at this

/-- The admission step on the line is the only one of its slot (R61). -/
theorem AdmissionsSafe.noWork_lineOff {s : State} {tx : Transaction} {step : AdmissionStep} (h : AdmissionsSafe s)
    (hl : s.cbc.line = some tx) (hc : tx.command = .admission step) {t : State} (ht : t.cbc.queue = s.cbc.queue) :
    NoWork tx.slot (Machine.lineOff t) ∧ s.slots[tx.slot].state = stepState step := by
  have hw : admissionWork s = (tx.slot, step) :: queueWork s.cbc.queue := by
    rw [admissionWork_eq, hl, Option.bind_some, Transaction.admissionStep, hc]; rfl
  obtain ⟨-, -, -, -, hnodup, hstep, -⟩ := h
  rw [hw] at hnodup hstep
  refine ⟨fun x hx hn => ?_, hstep (tx.slot, step) List.mem_cons_self⟩
  rw [admissionWork_lineOff, ht] at hx
  exact (List.nodup_cons.1 hnodup).1 (hn ▸ List.mem_map_of_mem (f := (·.1)) hx)

theorem leaveLine_safe {s : State} (h : SlotsSafe s) : SlotsSafe (leaveLine s) :=
  (drainCheck_calm _).lamps ((arbitrate_sameLamps _).safe ((lineOff_sameLamps s).safe h))

theorem leaveLine_admissions {s : State} (h : AdmissionsSafe (lineOff s)) : AdmissionsSafe (leaveLine s) :=
  (drainCheck_calm _).admissions h.arbitrate

/-! ### Slots in PROVING, RECONCILING and READING -/

theorem rejectSlot_state (s : State) (n : SlotId) (why : Reason) : (rejectSlot s n why).slots[n].state = .rejected why := by
  unfold rejectSlot
  rw [(raiseAlert_state _ n _ _).1, changeState_state]

theorem rejectSlot_identity (s : State) (n : SlotId) (why : Reason) : (rejectSlot s n why).prf.identity = s.prf.identity := by
  rw [rejectSlot, raiseAlert_frame _ n _ _ .prf (by decide), changeState_eq_moveSlot s n (.rejected why) nofun,
    moveSlot_frame s n _ .prf (by decide)]

theorem rejectSlot_accounts (s : State) (n : SlotId) (why : Reason) : (rejectSlot s n why).accounts = s.accounts := by
  rw [rejectSlot, raiseAlert_frame _ n _ _ .accounts (by decide), changeState_eq_moveSlot s n (.rejected why) nofun,
    moveSlot_frame s n _ .accounts (by decide)]

theorem rejectSlot_safe {s : State} {n : SlotId} (why : Reason) (h : SafeBut n s) : SlotsSafe (rejectSlot s n why) :=
  (raiseAlert_calm _ n _ _).lamps (changeState_slotsSafe _ h)

/-- A slot with neither account nor identity record is rejected for a reason of admission (R7, R8, R9). -/
theorem AdmissionsBut.reject {s : State} {n : SlotId} {why : Reason} (h : AdmissionsBut n (lineOff s)) (hn : NoWork n (lineOff s))
    (ha : s.accounts[n] = none) (hi : s.prf.identity[n] = none) (hw : why ≠ .contactLost) :
    AdmissionsSafe (lineOff (rejectSlot s n why)) := by
  have hs := rejectSlot_state s n why
  have ha' : (rejectSlot s n why).accounts[n] = none := by rw [rejectSlot_accounts]; exact ha
  refine ((rejectSlot_onlyAt s n why).lineOff.but h hn).safe ⟨?_, ?_⟩ fun m x _ hx => ?_
  · show (rejectSlot s n why).accounts[n].isSome = holdsAccount (rejectSlot s n why).slots[n].state
    rw [hs, ha']
    cases why <;> first | rfl | exact absurd rfl hw
  · show (rejectSlot s n why).prf.identity[n].isSome = _
    rw [rejectSlot_identity, hi]
    show false = ((rejectSlot s n why).slots[n].state == .proving || (rejectSlot s n why).slots[n].state == .reconciling)
    rw [hs]; rfl
  · rw [claimed_none (s := lineOff (rejectSlot s n why)) ha' (by show (rejectSlot s n why).slots[n].state ≠ _; rw [hs]; nofun)
      (by show (rejectSlot s n why).slots[n].state ≠ _; rw [hs]; nofun)] at hx
    cases hx

/-- Slot `n` with the identity record `id` under proof, its CHALLENGE over: it alone claims the serial (R8, R28). -/
structure UnderProof (n : SlotId) (id : IdRecord) (s : State) : Prop where
  but : AdmissionsBut n (lineOff s)
  noWork : NoWork n (lineOff s)
  account : s.accounts[n] = none
  alone : ∀ m : SlotId, m ≠ n → claimed s m ≠ some id.serial

theorem UnderProof.step {n : SlotId} {id : IdRecord} {s t : State} (h : UnderProof n id s) (k : OnlyAt n s t)
    (ha : t.accounts[n] = none) : UnderProof n id t := by
  refine ⟨k.lineOff.but h.but h.noWork, k.lineOff.noWork h.noWork, ha, fun m hm => ?_⟩
  rw [claimed_congr (k.states m hm) (k.serials m hm) (k.identity m hm)]
  exact h.alone m hm

theorem UnderProof.reject {n : SlotId} {id : IdRecord} {s : State} (h : UnderProof n id s) {why : Reason} (hw : why ≠ .contactLost) :
    AdmissionsSafe (lineOff (rejectSlot (setIdentity s n none) n why)) := by
  have k := h.step (setIdentity_onlyAt s n none) h.account
  exact k.but.reject k.noWork k.account (by rw [setIdentity_prf]; exact put_same _ _ _) hw

/-- The slot after an account was opened and the identity record discarded (R9, R29, R83). -/
def openedAs (s : State) (n : SlotId) (a : Account) (st : SlotState) : State :=
  setIdentity (changeState (openAccount s n a) n st) n none

theorem openedAs_onlyAt (s : State) (n : SlotId) (a : Account) (st : SlotState) : OnlyAt n s (openedAs s n a st) :=
  ((openAccount_onlyAt s n a).trans (changeState_onlyAt _ n st)).trans (setIdentity_onlyAt _ n none)

theorem openAccount_accounts (s : State) (n : SlotId) (a : Account) : (openAccount s n a).accounts = put s.accounts n (some a) := by
  rw [openAccount, requestAddUsed_frame _ n .accounts (by decide), setAccount_accounts]

theorem changeState_serials (s : State) (n m : SlotId) (st : SlotState) :
    (changeState s n st).accounts[m].map (·.serial) = s.accounts[m].map (·.serial) :=
  (changeState_after_moveSlot s n st).serials m

theorem openedAs_safe {s : State} {n : SlotId} (a : Account) (st : SlotState) (h : SafeBut n s) : SlotsSafe (openedAs s n a st) := by
  have hset : SafeBut n (setAccount s n (some a)) :=
    SafeBut.congr h id (fun _ _ => rfl) fun m hm => by rw [setAccount_accounts, put_other _ _ _ _ hm]
  have hopen : SafeBut n (openAccount s n a) :=
    (SameLamps.of_frame (requestAddUsed_frame _ n) (by decide) (by decide)).but hset
  exact SameLamps.safe ⟨rfl, fun _ => rfl⟩ (changeState_slotsSafe st hopen)

theorem UnderProof.opens {n : SlotId} {id : IdRecord} {s : State} (h : UnderProof n id s) {a : Account} {st : SlotState}
    (ha : a.serial = id.serial) (hst : holdsAccount st = true) : AdmissionsSafe (lineOff (openedAs s n a st)) := by
  have k := openedAs_onlyAt s n a st
  have hstate : (openedAs s n a st).slots[n].state = st := changeState_state (openAccount s n a) n st
  have hserial : (openedAs s n a st).accounts[n].map (·.serial) = some id.serial := by
    show (changeState (openAccount s n a) n st).accounts[n].map (·.serial) = _
    rw [changeState_serials, openAccount_accounts, put_same, ← ha]; rfl
  obtain ⟨b, hb, hbs⟩ := Option.map_eq_some_iff.1 hserial
  have hid : (openedAs s n a st).prf.identity[n] = none := by rw [openedAs, setIdentity_prf]; exact put_same _ _ _
  obtain ⟨-, -, hp, hr⟩ := ne_of_holdsAccount hst
  refine (k.lineOff.but h.but h.noWork).safe ⟨?_, ?_⟩ fun m x hm hx => ?_
  · show (openedAs s n a st).accounts[n].isSome = holdsAccount (openedAs s n a st).slots[n].state
    rw [hstate, hst, hb]; rfl
  · show (openedAs s n a st).prf.identity[n].isSome =
      ((openedAs s n a st).slots[n].state == .proving || (openedAs s n a st).slots[n].state == .reconciling)
    rw [hstate, hid, beq_eq_false_iff_ne.2 hp, beq_eq_false_iff_ne.2 hr]; rfl
  · rw [claimed_account (s := lineOff (openedAs s n a st)) hb, hbs] at hx
    obtain rfl := Option.some.inj hx
    show claimed (openedAs s n a st) m ≠ _
    rw [claimed_congr (k.states m hm) (k.serials m hm) (k.identity m hm)]
    exact h.alone m hm

theorem admittedState_holds (s : State) (n : SlotId) {st : SlotState} (h : holdsAccount st = true) :
    holdsAccount (admittedState s n st) = true := by
  unfold admittedState
  split
  · exact h
  · rfl

/-- The alerts of an OPEN or OPEN_EMPTY outcome, in the order in which they are raised (R9, R137). -/
def openAlerts (empty : Bool) (refill : Option RefillReason) : List (AlertCode × Option Word) :=
  (if empty then [(.exhausted, none)] else []) ++
    (match refill with | some r => [(.refillSuspect, some (r.code.setWidth 32))] | none => [])

/-- Alerts raised on a slot one after another. -/
def raiseAlerts (s : State) (n : SlotId) (l : List (AlertCode × Option Word)) : State :=
  l.foldl (fun u x => raiseAlert u n x.1 x.2) s

/-- The account of an OPEN or OPEN_EMPTY outcome (R83). -/
def outcomeAccount (s : State) (id : IdRecord) (c : Nat) (spent : Bool) (cls : AccountClass) (refill : Option RefillReason)
    (k : Nat) : Account := openingAccount s.settings.limits id cls refill c k spent

/-- The state an OPEN or OPEN_EMPTY outcome takes the slot to (R9). -/
def outcomeState (s : State) (n : SlotId) (empty : Bool) : SlotState :=
  admittedState s n (if empty then .exhausted else .ready)

/-- An OPEN or OPEN_EMPTY outcome opens the account, moves the slot and raises the alerts (R9, R83, R137). -/
theorem openOutcome_eq (s : State) (n : SlotId) (id : IdRecord) (c : Nat) (spent empty : Bool) (cls : AccountClass)
    (refill : Option RefillReason) (k : Nat) :
    openOutcome s n id c spent empty cls refill k =
      raiseAlerts (openedAs s n (outcomeAccount s id c spent cls refill k) (outcomeState s n empty)) n (openAlerts empty refill) := by
  have hslots : (openAccount s n (outcomeAccount s id c spent cls refill k)).slots = s.slots :=
    openAccount_frame s n _ .slots (by decide)
  have hst : admittedState (openAccount s n (outcomeAccount s id c spent cls refill k)) n (if empty then .exhausted else .ready) =
      outcomeState s n empty := by
    rw [outcomeState, admittedState, admittedState, hslots]
  rw [← hst]
  cases empty <;> cases refill <;> rfl

theorem raiseAlerts_calm (s : State) (n : SlotId) (l : List (AlertCode × Option Word)) : Calm s (raiseAlerts s n l) := by
  induction l generalizing s with
  | nil => exact .refl s
  | cons x l ih => exact (raiseAlert_calm s n x.1 x.2).trans (ih _)

theorem outcomeState_holds (s : State) (n : SlotId) (empty : Bool) : holdsAccount (outcomeState s n empty) = true :=
  admittedState_holds s n (by cases empty <;> rfl)

/-- A refusal of reconciliation is never for a lost contact (R9). -/
theorem reconcile_reject {s : State} {id : IdRecord} {c : Nat} {spent : Bool} {why : Reason}
    (h : reconcile s id c spent = .reject why) : why ≠ .contactLost := by
  unfold reconcile at h
  dsimp only at h
  split at h
  · cases h; nofun
  · split at h
    · split at h
      · cases h; nofun
      · cases h
    · cases h

theorem UnderProof.proven {n : SlotId} {id : IdRecord} {s : State} (h : UnderProof n id s) (c : Word) (f : Byte) :
    AdmissionsSafe (lineOff (provenOutcome s n id c f)) := by
  have k := h.step (changeState_onlyAt s n .reconciling) h.account
  unfold provenOutcome reconcileSlot
  split
  · next why hw => exact k.reject (reconcile_reject hw)
  · rw [openOutcome_eq]
    exact (raiseAlerts_calm _ n _).lineOff.admissions (k.opens rfl (outcomeState_holds _ n _))

theorem UnderProof.mismatch {n : SlotId} {id : IdRecord} {s : State} (h : UnderProof n id s) (c : Option Word) (f : Option Byte) :
    AdmissionsSafe (lineOff (mismatchOutcome s n id c f)) := by
  unfold mismatchOutcome
  split
  · exact h.reject nofun
  · exact (raiseAlert_calm _ n _ _).lineOff.admissions (h.opens rfl (admittedState_holds _ n rfl))

theorem provenOutcome_safe {s : State} {n : SlotId} (id : IdRecord) (c : Word) (f : Byte) (h : SafeBut n s) :
    SlotsSafe (provenOutcome s n id c f) := by
  have k := (changeState_slotsSafe .reconciling h).but n
  unfold provenOutcome reconcileSlot
  split
  · exact rejectSlot_safe _ k
  · rw [openOutcome_eq]
    exact (raiseAlerts_calm _ n _).lamps (openedAs_safe _ _ k)

theorem mismatchOutcome_safe {s : State} {n : SlotId} (id : IdRecord) (c : Option Word) (f : Option Byte) (h : SafeBut n s) :
    SlotsSafe (mismatchOutcome s n id c f) := by
  unfold mismatchOutcome
  split
  · exact rejectSlot_safe _ h
  · exact (raiseAlert_calm _ n _ _).lamps (openedAs_safe _ _ h)

/-- The CHALLENGE on the line is over: its slot is in PROVING with its identity record, and claims its serial alone. -/
theorem AdmissionsSafe.underProof {s : State} {tx : Transaction} {id : IdRecord} (h : AdmissionsSafe s) (hr : s.phase = .running)
    (hl : s.cbc.line = some tx) (hc : tx.command = .admission .challenge) (hid : s.prf.identity[tx.slot] = some id) :
    UnderProof tx.slot id (freePrf s) := by
  obtain ⟨hn, hst⟩ := h.noWork_lineOff hl hc (t := freePrf s) rfl
  have hst : s.slots[tx.slot].state = .proving := hst
  have hacc : s.accounts[tx.slot] = none := by
    refine Option.isNone_iff_eq_none.1 (Option.isSome_eq_false_iff.1 ?_)
    rw [(h.slotFits tx.slot).1, hst]; rfl
  refine ⟨h.lineOff_freePrf.but hr _, hn, hacc, fun m hm hcl => hm ?_⟩
  refine h.2.2.2.1 m tx.slot id.serial hcl ?_
  unfold claimed
  rw [hacc, if_pos (.inl hst), hid]; rfl

theorem challengeResult_admissions {s : State} {tx : Transaction} (h : AdmissionsSafe s) (hr : s.phase = .running)
    (hl : s.cbc.line = some tx) (hc : tx.command = .admission .challenge) (r : TxResult) :
    AdmissionsSafe (lineOff (challengeResult s tx.slot r)) := by
  unfold challengeResult
  rw [if_neg (not_not_intro (h.proof.2.2 tx hl hc))]
  split
  · next hid => exact (h.underProof hr hl hc hid).mismatch none none
  · have hk := h.work.known tx.slot (by
      rw [admissionWork_eq, hl, Option.bind_some, Transaction.admissionStep, hc]; exact List.mem_cons_self)
    obtain ⟨id, hid⟩ := Option.isSome_iff_exists.1 hk
    exact (h.underProof hr hl hc hid).reject nofun
  · exact h.lineOff_freePrf
  · exact h.lineOff_freePrf

theorem noResponseOutcome_safe {s : State} {n : SlotId} (h : SafeBut n s) : SlotsSafe (noResponseOutcome s n) :=
  rejectSlot_safe _ h

theorem freePrf_sameLamps (s : State) : SameLamps s (freePrf s) := .of_frame (freePrf_frame s) (by decide) (by decide)

theorem challengeResult_safe {s : State} (h : SlotsSafe s) (n : SlotId) (r : TxResult) : SlotsSafe (challengeResult s n r) := by
  have k := (freePrf_sameLamps s).safe h
  unfold challengeResult
  split
  · exact h
  · split
    · exact mismatchOutcome_safe _ _ _ (k.but n)
    · exact noResponseOutcome_safe (k.but n)
    · exact k
    · exact k

/-! ### The result of a READ_ID (R26, R27) -/

theorem mem_allSlots : ∀ n : SlotId, n ∈ allSlots := by decide

/-- An identity block that passes every check names a serial that no other slot claims (R27 check 7). -/
theorem identityFailure_none {s : State} {n : SlotId} {raw : List Byte} (h : identityFailure s n raw = none) (m : SlotId)
    (hm : m ≠ n) : claimed s m ≠ some (readBlock raw).serial := by
  unfold identityFailure at h
  dsimp only at h
  repeat' (split at h; · cases h)
  next hany _ =>
  intro hc
  exact hany (List.any_eq_true.2 ⟨m, mem_allSlots m, by simp [hm, hc]⟩)

theorem identityFailure_reason {s : State} {n : SlotId} {raw : List Byte} {why : Reason} (h : identityFailure s n raw = some why) :
    why ≠ .contactLost := by
  unfold identityFailure at h
  dsimp only at h
  repeat' (split at h; · cases h; nofun)
  cases h

theorem placeAdmission_busy {s : State} (h : s.cbc.line.isSome = true) (n : SlotId) (step : AdmissionStep) :
    placeAdmission s n step = withEntry s (.admission n step) := arbitrate_busy _ h

theorem judgeBlock_safe {s : State} (h : SlotsSafe s) (n : SlotId) (raw : List Byte) : SlotsSafe (judgeBlock s n raw) := by
  unfold judgeBlock
  split
  · exact rejectSlot_safe _ (h.but n)
  · exact (placeAdmission_sameLamps _ n _).safe
      (moveSlot_safe .proving (SlotsSafe.but (SameLamps.safe (t := setIdentity s n _) ⟨rfl, fun _ => rfl⟩ h) n))

theorem readIdResult_safe {s : State} (h : SlotsSafe s) (n : SlotId) (r : TxResult) : SlotsSafe (readIdResult s n r) := by
  unfold readIdResult
  split
  · exact h
  · split
    · exact judgeBlock_safe h n _
    · exact rejectSlot_safe _ (h.but n)
    · exact rejectSlot_safe _ (h.but n)
    · exact h

theorem readIdResult_admissions {s : State} {tx : Transaction} (h : AdmissionsSafe s) (hr : s.phase = .running)
    (hl : s.cbc.line = some tx) (hc : tx.command = .admission .readId) (r : TxResult) :
    AdmissionsSafe (lineOff (readIdResult s tx.slot r)) := by
  obtain ⟨hn, hst⟩ := h.noWork_lineOff hl hc (t := s) rfl
  have hst : s.slots[tx.slot].state = .reading := hst
  have hoff := h.lineOff hl (by rw [hc]; nofun)
  have hbut := hoff.but hr tx.slot
  obtain ⟨ha, hi⟩ := (h.slotFits tx.slot).unused (by rw [hst]; rfl) (by rw [hst]; nofun) (by rw [hst]; nofun)
  unfold readIdResult
  rw [if_neg (not_not_intro hst)]
  split
  · next body =>
    unfold judgeBlock
    split
    · next hw => exact hbut.reject hn ha hi (identityFailure_reason hw)
    · next hw =>
      have k : OnlyAt tx.slot s (changeState (setIdentity s tx.slot (some (readBlock body))) tx.slot .proving) :=
        (setIdentity_onlyAt s tx.slot _).trans (changeState_onlyAt _ tx.slot _)
      have hstate := changeState_state (setIdentity s tx.slot (some (readBlock body))) tx.slot .proving
      have hid : (changeState (setIdentity s tx.slot (some (readBlock body))) tx.slot .proving).prf.identity[tx.slot] =
          some (readBlock body) := put_same _ _ _
      have hacc : (changeState (setIdentity s tx.slot (some (readBlock body))) tx.slot .proving).accounts[tx.slot] = none := ha
      have hline : (changeState (setIdentity s tx.slot (some (readBlock body))) tx.slot .proving).cbc.line.isSome = true := by
        show s.cbc.line.isSome = true
        rw [hl]; rfl
      generalize changeState (setIdentity s tx.slot (some (readBlock body))) tx.slot .proving = u at k hstate hid hacc hline ⊢
      rw [placeAdmission_busy hline]
      have hclaim : claimed u tx.slot = some (readBlock body).serial := by
        unfold claimed
        rw [hacc, if_pos (.inl hstate), hid]; rfl
      refine AdmissionsSafe.join (s := Machine.lineOff u) ((k.lineOff.but hbut hn).safe ⟨?_, ?_⟩ fun m x hm hx => ?_)
        (k.lineOff.noWork hn) hstate
      · show u.accounts[tx.slot].isSome = holdsAccount u.slots[tx.slot].state
        rw [hstate, hacc]; rfl
      · show u.prf.identity[tx.slot].isSome = (u.slots[tx.slot].state == .proving || u.slots[tx.slot].state == .reconciling)
        rw [hstate, hid]; rfl
      · have hx : claimed u tx.slot = some x := hx
        rw [hclaim] at hx
        obtain rfl := Option.some.inj hx
        show claimed u m ≠ _
        rw [claimed_congr (k.states m hm) (k.serials m hm) (k.identity m hm)]
        exact identityFailure_none hw m hm
  · exact hbut.reject hn ha hi nofun
  · exact hbut.reject hn ha hi nofun
  · exact hoff
/-! ### The end of a transaction and of an attempt -/

theorem handOver_safe {s : State} (h : SlotsSafe s) (tx : Transaction) (r : TxResult) : SlotsSafe (handOver s tx r) := by
  cases hc : tx.command with
  | admission step =>
    unfold handOver
    cases step
    · simp only [hc]; exact readIdResult_safe h _ r
    · simp only [hc]; exact challengeResult_safe h _ r
  | _ => exact (handOver_calm s tx r (by rw [Transaction.admissionStep, hc])).lamps h

/-- A transaction handed over and off the line leaves admission coherent (R59). -/
theorem handOver_admissions {s : State} {tx : Transaction} (h : AdmissionsSafe s) (hr : s.phase = .running)
    (hl : s.cbc.line = some tx) (r : TxResult) : AdmissionsSafe (lineOff (handOver s tx r)) := by
  cases hc : tx.command with
  | admission step =>
    unfold handOver
    cases step
    · simp only [hc]; exact readIdResult_admissions h hr hl hc r
    · simp only [hc]; exact challengeResult_admissions h hr hl hc r
  | _ =>
    exact (handOver_calm s tx r (by rw [Transaction.admissionStep, hc])).lineOff.admissions (h.lineOff hl (by rw [hc]; nofun))

theorem leaveLine_handOver_keeps {s : State} {tx : Transaction} (hr : s.phase = .running) (hl : s.cbc.line = some tx) (r : TxResult) :
    Keeps s (leaveLine (handOver s tx r)) :=
  ⟨fun h => leaveLine_safe (handOver_safe h tx r), fun h => leaveLine_admissions (handOver_admissions h hr hl r)⟩

/-- The proof context goes on while admission sees nothing else happen (R34). -/
theorem AdmissionsSafe.of_proof {s t : State} (h : AdmissionsSafe s) (hf : OnlyChanges [.prf, .cbc, .draws] s t)
    (hi : t.prf.identity = s.prf.identity) (hw : admissionWork t = admissionWork s) (hp : ProofSafe t) : AdmissionsSafe t := by
  have hphase : t.phase = s.phase := hf .phase (by decide)
  have hslots : t.slots = s.slots := hf .slots (by decide)
  have haccounts : t.accounts = s.accounts := hf .accounts (by decide)
  obtain ⟨hvac, hacc, hid, hclaim, hnodup, hstep, -⟩ := h
  have hc (n : SlotId) : claimed t n = claimed s n := claimed_congr (by rw [hslots]) (by rw [haccounts]) (by rw [hi])
  refine ⟨?_, ?_, ?_, ?_, ?_, ?_, hp⟩
  · rw [hphase, hslots]; exact hvac
  · rw [haccounts, hslots]; exact hacc
  · rw [hi, hslots]; exact hid
  · simp only [hc]; exact hclaim
  · rw [hw]; exact hnodup
  · rw [hw, hslots]; exact hstep

/-- The line taken up again by another attempt of its transaction (R58): admission does not see it, unless PRF held it. -/
theorem beginAttempt_calm {s : State} {tx tx' : Transaction} (hl : s.cbc.line = some tx) (hh : tx.action ≠ .held)
    (hn : tx'.slot = tx.slot) (hc : tx'.command = tx.command) : Calm s (beginAttempt s tx') := by
  refine .of_cbc (beginAttempt_frame s tx') ?_ (congrArg _ (beginAttempt_queue s tx'))
  rw [beginAttempt_view, hl, hn, hc]
  simp [lineView, hh]

theorem unbuiltChallenge_sameLamps (s : State) (n : SlotId) : SameLamps s (unbuiltChallenge s n) :=
  .of_frame (unbuiltChallenge_frame s n) (by decide) (by decide)

theorem nextAttempt_keeps {s : State} {tx tx' : Transaction} (hl : s.cbc.line = some tx) (hh : tx.action ≠ .held)
    (hn : tx'.slot = tx.slot) (hc : tx'.command = tx.command) : Keeps s (nextAttempt s tx') := by
  unfold nextAttempt
  split
  · next hch =>
    have hch' : tx.command = .admission .challenge := hc ▸ hch
    split
    · next hnone =>
      refine ⟨fun h => leaveLine_safe ((unbuiltChallenge_sameLamps s _).safe h), fun h => ?_⟩
      have hk := h.work.known tx.slot (by
        rw [admissionWork_eq, hl, Option.bind_some, Transaction.admissionStep, hch']; exact List.mem_cons_self)
      obtain ⟨body, t, ht⟩ := startChallenge_isSome false (hn ▸ hk)
      rw [hnone] at ht; cases ht
    · next body t ht =>
      obtain ⟨hid, hcbc, hdig, hphase, hslot, -⟩ := startChallenge_identity ht
      have hf : OnlyChanges [.prf, .cbc, .draws] s (beginAttempt t { tx' with body := body }) :=
        ((startChallenge_frame ht).mono (by decide)).trans ((beginAttempt_frame _ _).mono (by decide))
      refine ⟨(SameLamps.of_frame hf (by decide) (by decide)).safe, fun h => h.of_proof hf ?_ ?_ ?_⟩
      · rw [beginAttempt_prf, hid]
      · refine admissionWork_congr ?_ (by rw [beginAttempt_queue, hcbc])
        rw [beginAttempt_view, hl, hn, hc]
        simp [lineView, hh]
      · refine (proofSafe_iff _).2 (.inr ⟨tx.slot, ?_, ?_, fun key message hd => ?_⟩)
        · rw [beginAttempt_prf, hslot]; exact h.proof.2.2 tx hl hch'
        · obtain ⟨tx₀, htx₀, -, -, hphase₀, -⟩ := h.proof.2.1 tx.slot (h.proof.2.2 tx hl hch')
          obtain rfl : tx = tx₀ := by rw [hl] at htx₀; exact Option.some.inj htx₀
          rw [beginAttempt_view, beginAttempt_prf, hphase, hn, hch]
          simp [hphase₀, hh]
        · rw [beginAttempt_prf] at hd ⊢
          obtain ⟨tx₀, -, -, -, -, hdig₀⟩ := h.proof.2.1 tx.slot (h.proof.2.2 tx hl hch')
          rw [hphase]
          exact hdig₀ key message (hdig.symm.trans hd)
  · exact (beginAttempt_calm hl hh hn hc).keeps
/-- The state with another bus controller. -/
def setCbc (s : State) (c : Cbc) : State := { s with cbc := c }

/-- The line with another count, another break owed: admission sees neither. -/
theorem setCbc_calm (s : State) {c : Cbc} (hl : c.line = s.cbc.line) (hq : c.queue = s.cbc.queue) : Calm s (setCbc s c) :=
  .of_cbc (cbc_frame s c) (congrArg _ hl) (congrArg _ hq)

/-- A break is owed (R46). -/
def oweBreak (s : State) : State := setCbc s { s.cbc with breakOwed := true }

theorem oweBreak_calm (s : State) : Calm s (oweBreak s) := setCbc_calm s rfl rfl

/-- The end of an attempt that failed: the next attempt starts, or the transaction ends (R58). -/
def endAttempt (s : State) (tx : Transaction) (e : BusError) : State :=
  if tx.attempt < 3 then nextAttempt s { tx with attempt := tx.attempt + 1, noted := [], deadline := none, limit := none }
  else leaveLine (handOver s tx (.failure e))

theorem failAttempt_eq (s : State) (tx : Transaction) (noted : List BusError) :
    failAttempt s tx noted = endAttempt (oweBreak s) tx (reportedError noted) := rfl

theorem endAttempt_keeps {s : State} {tx : Transaction} (hr : s.phase = .running) (hl : s.cbc.line = some tx)
    (hh : tx.action ≠ .held) (e : BusError) : Keeps s (endAttempt s tx e) := by
  unfold endAttempt
  split
  · exact nextAttempt_keeps hl hh (by rfl) (by rfl)
  · exact leaveLine_handOver_keeps hr hl _

theorem failAttempt_keeps {s : State} {tx : Transaction} (hr : s.phase = .running) (hl : s.cbc.line = some tx)
    (hh : tx.action ≠ .held) (noted : List BusError) : Keeps s (failAttempt s tx noted) := by
  rw [failAttempt_eq]
  exact (oweBreak_calm s).keeps.trans (endAttempt_keeps (s := oweBreak s) hr hl hh _)

theorem startResponseDigest_spec (s : State) :
    (startResponseDigest s).prf.identity = s.prf.identity ∧ (startResponseDigest s).prf.ctx.slot = s.prf.ctx.slot ∧
      (startResponseDigest s).prf.ctx.phase = s.prf.ctx.phase := by
  unfold startResponseDigest
  dsimp only
  split
  · split <;> exact ⟨rfl, rfl, rfl⟩
  · exact ⟨rfl, rfl, rfl⟩

/-- The transaction on the line held for PRF (R59). -/
def heldLine (s : State) (tx : Transaction) : State :=
  { s with cbc := { s.cbc with line := some { tx with action := .held, limit := none } } }

/-- The proof context with the reply in it (R34). -/
def replyTaken (s : State) (body : List Byte) : State :=
  { s with prf := { s.prf with ctx := { s.prf.ctx with
    phase := .checking, response := some (responseOf body), counter := some (word body 8), flags := some (byteAt body 12) } } }

theorem takeChallengeReply_eq (s : State) (body : List Byte) : takeChallengeReply s body = startResponseDigest (replyTaken s body) := rfl

/-- An accepted CHALLENGE reply is held on the line while PRF checks it (R34, R59). -/
theorem holdReply_keeps {s : State} {tx : Transaction} (hl : s.cbc.line = some tx) (hc : tx.command = .admission .challenge)
    (body : List Byte) : Keeps s (takeChallengeReply (heldLine s tx) body) := by
  have hf : OnlyChanges [.prf, .cbc, .draws] s (takeChallengeReply (heldLine s tx) body) :=
    ((cbc_frame s _).mono (by decide)).trans ((takeChallengeReply_frame (heldLine s tx) body).mono (by decide))
  have hcbc : (takeChallengeReply (heldLine s tx) body).cbc = (heldLine s tx).cbc :=
    takeChallengeReply_frame (heldLine s tx) body .cbc (by decide)
  obtain ⟨hid, hslot, hphase⟩ := startResponseDigest_spec (replyTaken (heldLine s tx) body)
  rw [← takeChallengeReply_eq] at hid hslot hphase
  refine ⟨(SameLamps.of_frame hf (by decide) (by decide)).safe, fun h => h.of_proof hf hid ?_ ?_⟩
  · rw [admissionWork_eq, admissionWork_eq, hcbc, hl]; rfl
  · refine (proofSafe_iff _).2 (.inr ⟨tx.slot, hslot.trans (h.proof.2.2 tx hl hc), ?_, fun _ _ _ => hphase⟩)
    rw [hcbc, hphase]
    simp [heldLine, replyTaken, lineView, hc]

theorem acceptReply_keeps {s : State} {tx : Transaction} (hr : s.phase = .running) (hl : s.cbc.line = some tx)
    (st : CartStatus) (body : List Byte) : Keeps s (acceptReply s tx st body) := by
  unfold acceptReply
  split
  · next h => exact holdReply_keeps hl h.1 body
  · exact leaveLine_handOver_keeps hr hl _

/-- A reply that came whole is accepted, or ends the attempt in failure (R53, R54). -/
def replyEnded (s : State) (tx : Transaction) (address : Byte) (rest : List CbusChar) : State :=
  match replyErrors tx address rest, replyStatus address with
  | [], some status => acceptReply s tx status (replyData rest)
  | errors, _ => failAttempt s tx (errors ++ tx.noted)

theorem replyEnded_keeps {s : State} {tx : Transaction} (hr : s.phase = .running) (hl : s.cbc.line = some tx)
    (hh : tx.action ≠ .held) (address : Byte) (rest : List CbusChar) : Keeps s (replyEnded s tx address rest) := by
  unfold replyEnded
  split
  · exact acceptReply_keeps hr hl _ _
  · exact failAttempt_keeps hr hl hh _

/-! ### The commands of the bus -/

/-- An attempt's line action, admission seeing neither the old nor the new one. -/
theorem setLine_calm {s : State} {tx tx' : Transaction} (hl : s.cbc.line = some tx) (hv : lineView tx' = lineView tx) (k : Nat) :
    Calm s (setLine s tx' k) := .of_cbc (setLine_frame s tx' k) (by rw [hl]; exact congrArg some hv) rfl

theorem messageReady_calm {s : State} {tx : Transaction} (hl : s.cbc.line.map lineView = some (lineView tx)) (hh : tx.action ≠ .held) :
    Calm s (messageReady s tx) := by
  refine .of_cbc (messageReady_frame s tx) ?_ rfl
  rw [hl]
  refine congrArg some ?_
  split <;> simp [lineView, hh]

theorem onLine_keeps {s : State} {f : Transaction → State} (h : ∀ tx, s.phase = .running → s.cbc.line = some tx → Keeps s (f tx)) :
    Keeps s (onLine s f) := by
  unfold onLine
  split
  · next tx hl =>
    split
    · next hr => exact h tx hr hl
    · exact .refl s
  · exact .refl s

theorem lowSeen_calm (s : State) : Calm s (lowSeen s) := setCbc_calm s (c := { s.cbc with idle := 0 }) rfl rfl

theorem onCharacter_keeps {s : State} {f : Transaction → State} (h : ∀ tx, s.phase = .running → s.cbc.line = some tx → Keeps s (f tx)) :
    Keeps s (onCharacter s f) := by
  unfold onCharacter
  split
  · exact .refl s
  · next tx hr hl => exact h tx hr hl
  · exact (lowSeen_calm s).keeps

theorem collided_keeps {s : State} {tx : Transaction} (hr : s.phase = .running) (hl : s.cbc.line = some tx)
    (hh : tx.action ≠ .held) : Keeps s (collided s tx) :=
  (lowSeen_calm s).keeps.trans (failAttempt_keeps (s := lowSeen s) hr hl hh _)

/-- What a command does to the two invariants, whatever it answers. -/
def ExecKeeps (s : State) (o : Outcome) : Prop := ∀ t, o = .next t → Keeps s t

theorem execKeeps_next {s t : State} (h : Keeps s t) : ExecKeeps s (.next t) := fun _ ht => by cases ht; exact h

/-- The line after a break: none is owed, and the counts begin anew (R46). -/
def breakOver (s : State) : State := setCbc s { s.cbc with breakOwed := false, idle := 0, backoff := 0 }

theorem breakOver_calm (s : State) : Calm s (breakOver s) :=
  setCbc_calm s (c := { s.cbc with breakOwed := false, idle := 0, backoff := 0 }) rfl rfl

theorem execBreakEnd_keeps (s : State) : ExecKeeps s (execBreakEnd s) := by
  refine execKeeps_next (onLine_keeps fun tx hr hl => ?_)
  split
  · next ha =>
    change Keeps s (if 1 < tx.attempt then
      setLine (breakOver s) { tx with action := .backoff, limit := some (startTimer s 500) } 0
      else messageReady (breakOver s) tx)
    refine (breakOver_calm s).keeps.trans (Calm.keeps (.ite ?_ ?_))
    · refine setLine_calm (s := breakOver s) hl ?_ 0
      simp [lineView, ha]
    · exact messageReady_calm (s := breakOver s) (congrArg _ hl) (by rw [ha]; nofun)
  · exact .refl s

theorem execBackoffComplete_keeps (k : Nat) (s : State) : ExecKeeps s (execBackoffComplete k s) := by
  refine execKeeps_next (onLine_keeps fun tx hr hl => ?_)
  split
  · next ha =>
    change Keeps s (messageReady (setCbc s { s.cbc with idle := min (8 * tx.attempt) k, backoff := 8 * tx.attempt }) tx)
    exact Keeps.trans (setCbc_calm s (by rfl) (by rfl)).keeps (messageReady_calm
      (s := setCbc s { s.cbc with idle := min (8 * tx.attempt) k, backoff := 8 * tx.attempt }) (congrArg _ hl) (by rw [ha]; nofun)).keeps
  · exact .refl s

theorem execPreambleComplete_keeps (s : State) : ExecKeeps s (execPreambleComplete s) := by
  refine execKeeps_next (onLine_keeps fun tx hr hl => ?_)
  split
  · next ha => exact (setLine_calm hl (by simp [lineView, ha]) _).keeps
  · exact .refl s

theorem execCollision_keeps (s : State) : ExecKeeps s (execCollision s) := by
  refine execKeeps_next (onLine_keeps fun tx hr hl => ?_)
  split
  · next ha => exact collided_keeps hr hl (by rw [ha]; nofun)
  · exact .refl s

theorem execMessageSent_keeps (s : State) : ExecKeeps s (execMessageSent s) := by
  refine execKeeps_next (onLine_keeps fun tx hr hl => ?_)
  split
  · next ha => exact (setLine_calm hl (by simp [lineView, ha]) _).keeps
  · exact .refl s

theorem execReplyAddressCharacter_keeps (d : Byte) (s : State) : ExecKeeps s (execReplyAddressCharacter d s) := by
  refine execKeeps_next (onCharacter_keeps fun tx hr hl => ?_)
  split
  · next ha => exact (setLine_calm hl (by simp [lineView, ha]) _).keeps
  · exact .refl s
  · exact .refl s
  · exact (lowSeen_calm s).keeps

theorem execReplyDeadlineExpiry_keeps (s : State) : ExecKeeps s (execReplyDeadlineExpiry s) := by
  refine execKeeps_next (onLine_keeps fun tx hr hl => ?_)
  split
  · next ha => exact failAttempt_keeps hr hl (by rw [ha]; nofun) _
  · exact .ite (setLine_calm hl (by rfl) _).keeps (.refl s)

theorem execCbusFramingError_keeps (s : State) : ExecKeeps s (execCbusFramingError s) := by
  refine execKeeps_next (onCharacter_keeps fun tx hr hl => ?_)
  dsimp only
  split
  · next ha => exact (setLine_calm hl (by simp [lineView, ha]) _).keeps
  · next ha => exact (setLine_calm hl (by simp [lineView, ha]) _).keeps
  · next ha => exact collided_keeps hr hl (by rw [ha]; nofun)
  · exact .refl s
  · exact (lowSeen_calm s).keeps

theorem execFramingDiscardEnd_keeps (s : State) : ExecKeeps s (execFramingDiscardEnd s) := by
  refine execKeeps_next (onLine_keeps fun tx hr hl => ?_)
  split
  · next ha =>
    change Keeps s (failAttempt (setCbc s { s.cbc with idle := 11 }) tx tx.noted)
    exact Keeps.trans (setCbc_calm s (by rfl) (by rfl)).keeps
      (failAttempt_keeps (s := setCbc s { s.cbc with idle := 11 }) hr hl (by rw [ha]; nofun) _)
  · exact .refl s

theorem execCbusReplyEnd_keeps (rest : List CbusChar) (s : State) : ExecKeeps s (execCbusReplyEnd rest s) := by
  refine execKeeps_next (onLine_keeps fun tx hr hl => ?_)
  split
  · next address ha =>
    have hh : tx.action ≠ .held := by rw [ha]; nofun
    have hend (k : Nat) : Keeps s (replyEnded (setCbc s { s.cbc with idle := k }) tx address rest) :=
      (setCbc_calm s (c := { s.cbc with idle := k }) rfl rfl).keeps.trans
        (replyEnded_keeps (s := setCbc s { s.cbc with idle := k }) hr hl hh address rest)
    exact hend (replyIdle address rest)
  · exact .refl s

theorem execReplyLengthLimitExpiry_keeps (s : State) : ExecKeeps s (execReplyLengthLimitExpiry s) := by
  refine execKeeps_next (onLine_keeps fun tx hr hl => ?_)
  split
  · next ha => exact failAttempt_keeps hr hl (by rw [ha]; nofun) _
  · exact .refl s

theorem execIdleWaitLimitExpiry_keeps (s : State) : ExecKeeps s (execIdleWaitLimitExpiry s) := by
  refine execKeeps_next (onLine_keeps fun tx hr hl => ?_)
  split
  · next ha => exact failAttempt_keeps hr hl (by rw [ha]; nofun) _
  · next ha => exact failAttempt_keeps hr hl (by rw [ha]; nofun) _
  · next ha => exact failAttempt_keeps hr hl (by rw [ha]; nofun) _
  · exact .refl s

end Sys2Proof.Machine
end

section
namespace Sys2Proof.Machine

/-! ### The digests (R35, R36) -/

/-- While the context is checking, the response digest may start (R36). -/
theorem startResponseDigest_keeps {s : State} (hc : s.prf.ctx.phase = .checking) : Keeps s (startResponseDigest s) := by
  have hf : OnlyChanges [.prf, .cbc, .draws] s (startResponseDigest s) := (startResponseDigest_frame s).mono (by decide)
  have hcbc : (startResponseDigest s).cbc = s.cbc := startResponseDigest_frame s .cbc (by decide)
  obtain ⟨hid, hslot, hphase⟩ := startResponseDigest_spec s
  refine ⟨(SameLamps.of_frame hf (by decide) (by decide)).safe, fun h => h.of_proof hf hid
    (admissionWork_congr (by rw [hcbc]) (by rw [hcbc])) ?_⟩
  rcases (proofSafe_iff s).1 h.proof with ⟨hfree, -, -⟩ | ⟨n, hn, hv, -⟩
  · rw [hfree] at hc; cases hc
  · refine (proofSafe_iff _).2 (.inr ⟨n, hslot.trans hn, ?_, fun _ _ _ => hphase.trans hc⟩)
    rw [hcbc, hv, hphase]

/-- The derived key ready, its digest over (R35). -/
def keyReady (s : State) (key : BitVec 64) : State :=
  { s with prf := { s.prf with digest := none, ctx := { s.prf.ctx with derivedKey := .value key } } }

theorem keyReady_keeps {s : State} {d : Digest} (hd : s.prf.digest = some d) (key : BitVec 64) : Keeps s (keyReady s key) := by
  have hf : OnlyChanges [.prf, .cbc, .draws] s (keyReady s key) := (prf_frame s _).mono (by decide)
  refine ⟨(SameLamps.of_frame hf (by decide) (by decide)).safe, fun h => h.of_proof hf rfl rfl ?_⟩
  rcases (proofSafe_iff s).1 h.proof with ⟨-, hnone, -⟩ | ⟨n, hslot, hv, -⟩
  · rw [hd] at hnone; cases hnone
  · exact (proofSafe_iff _).2 (.inr ⟨n, hslot, hv, nofun⟩)

theorem execDerivedKeyDigestComplete_keeps (s : State) : ExecKeeps s (execDerivedKeyDigestComplete s) := by
  refine execKeeps_next ?_
  split
  · next key message hd =>
    split
    · refine (keyReady_keeps hd (Config.kd key message)).trans ?_
      change Keeps _ (if (keyReady s (Config.kd key message)).prf.ctx.phase = .checking then
        startResponseDigest (keyReady s (Config.kd key message)) else keyReady s (Config.kd key message))
      split
      · next hc => exact startResponseDigest_keeps hc
      · exact .refl _
    · exact .refl s
  · exact .refl s

theorem responseChecked_safe {s : State} (h : SlotsSafe s) (d : BitVec 64) : SlotsSafe (responseChecked s d) := by
  have k := (freePrf_sameLamps s).safe h
  unfold responseChecked
  dsimp only
  split
  · split
    · split
      · exact provenOutcome_safe _ _ _ (k.but _)
      · exact mismatchOutcome_safe _ _ _ (k.but _)
    · exact k
  · exact k

theorem leaveHeld_safe {s : State} (h : SlotsSafe s) : SlotsSafe (leaveHeld s) := by
  unfold leaveHeld
  split
  · split
    · exact leaveLine_safe h
    · exact h
  · exact h

/-- The outcome of the response check leaves admission coherent once the line is free. -/
theorem responseChecked_admissions {s : State} {tx : Transaction} (h : AdmissionsSafe s) (hr : s.phase = .running)
    (hl : s.cbc.line = some tx) (hc : tx.command = .admission .challenge) (d : BitVec 64) :
    AdmissionsSafe (lineOff (responseChecked s d)) := by
  have hslot := h.proof.2.2 tx hl hc
  unfold responseChecked
  dsimp only
  split
  · next n c f hn _ _ =>
    obtain rfl : tx.slot = n := by rw [hslot] at hn; exact Option.some.inj hn
    split
    · next id hid =>
      split
      · exact (h.underProof hr hl hc hid).proven c f
      · exact (h.underProof hr hl hc hid).mismatch _ _
    · exact h.lineOff_freePrf
  · exact h.lineOff_freePrf

/-- Outcomes of the proof move one slot, and leave the line alone. -/
theorem responseChecked_line (s : State) (d : BitVec 64) :
    (responseChecked s d).cbc.line.map lineView = s.cbc.line.map lineView := by
  have hreject (t : State) (n : SlotId) (why : Reason) : (rejectSlot (setIdentity t n none) n why).cbc.line.map lineView =
      t.cbc.line.map lineView := ((setIdentity_onlyAt t n none).trans (rejectSlot_onlyAt _ n why)).line
  unfold responseChecked
  dsimp only
  split
  · split
    · split
      · unfold provenOutcome reconcileSlot
        split
        · rw [hreject]; exact (changeState_onlyAt _ _ _).line
        · rw [openOutcome_eq, (raiseAlerts_calm _ _ _).line, (openedAs_onlyAt _ _ _ _).line]
          exact (changeState_onlyAt _ _ _).line
      · unfold mismatchOutcome
        split
        · exact hreject _ _ _
        · exact ((openedAs_onlyAt _ _ _ _).trans (raiseAlert_onlyAt _ _ _ _)).line
    · rfl
  · rfl

theorem execResponseDigestComplete_keeps (s : State) : ExecKeeps s (execResponseDigestComplete s) := by
  refine execKeeps_next ?_
  split
  · next key message hd =>
    split
    · next hr =>
      refine ⟨fun h => leaveHeld_safe (responseChecked_safe h _), fun h => ?_⟩
      rcases (proofSafe_iff s).1 h.proof with ⟨-, hnone, -⟩ | ⟨n, hslot, hv, hdig⟩
      · rw [hd] at hnone; cases hnone
      · obtain ⟨tx, hl, hn, hc, hh⟩ := line_view.1 hv
        have hv' := responseChecked_line s (Config.kd key message)
        rw [hv, hdig key message hd] at hv'
        obtain ⟨u, hu, -, -, huh⟩ := line_view.1 hv'
        unfold leaveHeld
        rw [hu]
        simp only [of_decide_eq_true huh, if_true]
        exact leaveLine_admissions (responseChecked_admissions h hr hl hc _)
    · exact .refl s
  · exact .refl s

/-! ### Cancelled work and removal (R11, R17, R66) -/

theorem handOver_noCartridge_admission {s : State} {tx : Transaction} {step : AdmissionStep} (hc : tx.command = .admission step) :
    handOver s tx .noCartridge = if step = .challenge ∧ s.prf.ctx.slot = some tx.slot then freePrf s else s := by
  unfold handOver
  cases step
  · simp only [hc, readIdResult, reduceCtorEq, false_and, if_false, ite_self]
  · simp only [hc, challengeResult, true_and, ne_eq, ite_not]

theorem handOver_noCartridge_writeBack {s : State} {tx : Transaction} {op : WbOp} (hc : tx.command = .writeBack op) :
    handOver s tx .noCartridge = s := by
  unfold handOver
  cases op <;> simp only [hc, addUsedResult, readUsageResult, markSpentResult] <;> cases s.accounts[tx.slot] <;> rfl

theorem handOver_noCartridge_read {s : State} {tx : Transaction} {o l : Byte} {tag : Nat} (hc : tx.command = .readArea o l tag) :
    handOver s tx .noCartridge = passThroughResult s tx.slot o l tag .noCartridge := by
  unfold handOver
  simp only [hc]

/-- The line after an abort: free, a break owed, and low until now if a break was cut off (R46, R66). -/
def abortedLine (s : State) (tx : Transaction) : State :=
  setCbc s { s.cbc with line := none, breakOwed := true, idle := if tx.action = .breaking then 0 else s.cbc.idle }

theorem abortLine_own {s : State} {tx : Transaction} (hl : s.cbc.line = some tx) :
    abortLine s tx.slot = handOver (abortedLine s tx) tx .noCartridge := by
  unfold abortLine
  rw [hl]
  exact if_pos rfl

theorem abortLine_other {s : State} {tx : Transaction} {n : SlotId} (hl : s.cbc.line = some tx) (hn : tx.slot ≠ n) :
    abortLine s n = s := by
  unfold abortLine
  rw [hl]
  exact if_neg hn

theorem abortLine_none {s : State} (hl : s.cbc.line = none) (n : SlotId) : abortLine s n = s := by
  unfold abortLine
  rw [hl]
/-- Admission steps gone and the proof context moved on: what is said of the slots stands. -/
theorem AdmissionsBut.of_proof {n : SlotId} {s t : State} (h : AdmissionsBut n s) (hf : OnlyChanges [.prf, .cbc, .draws, .sysp] s t)
    (hi : t.prf.identity = s.prf.identity) (hw : (admissionWork t).Sublist (admissionWork s)) (hp : ProofSafe t) :
    AdmissionsBut n t := by
  have hslots : t.slots = s.slots := hf .slots (by decide)
  have haccounts : t.accounts = s.accounts := hf .accounts (by decide)
  have hc (m : SlotId) : claimed t m = claimed s m := claimed_congr (by rw [hslots]) (by rw [haccounts]) (by rw [hi])
  refine ⟨(hf .phase (by decide)).trans h.running, fun m hm => (h.fits m hm).congr (by rw [hslots]) (by rw [haccounts]) (by rw [hi]),
    ?_, (hw.map _).nodup h.work.nodup, fun x hx => ?_, hp, fun m hm => ?_⟩
  · simp only [hc]; exact h.claims
  · rw [hslots]; exact h.work.awaited x (hw.subset hx)
  · rw [hi]; exact h.work.known m (hw.subset hm)

theorem AdmissionsBut.lineOff_freePrf {n : SlotId} {s : State} (h : AdmissionsBut n s) : AdmissionsBut n (lineOff (freePrf s)) := by
  refine h.of_proof (((freePrf_frame s).mono (by decide)).trans ((lineOff_frame _).mono (by decide))) rfl ?_
    ((proofSafe_iff _).2 (.inl ⟨rfl, rfl, nofun⟩))
  rw [admissionWork_lineOff]
  exact queueWork_sublist s

/-- What admission sees of an abort: the line and the proof context are free. -/
theorem abortLine_own_calm {s : State} {tx : Transaction} (hl : s.cbc.line = some tx) (hp : ProofSafe s) :
    Calm (lineOff (freePrf s)) (abortLine s tx.slot) := by
  have hcut (u : State) : Calm (lineOff u) (abortedLine u tx) := .of_cbc (cbc_frame (lineOff u) _) rfl rfl
  have hfree (hc : tx.command ≠ .admission .challenge) : freePrf s = s := by
    refine freePrf_eq ?_
    rcases (proofSafe_iff s).1 hp with h | ⟨n, -, hv, -⟩
    · exact h
    · rw [hl] at hv
      exact absurd (congrArg (·.2.1) (Option.some.inj hv)) hc
  rw [abortLine_own hl]
  cases hc : tx.command with
  | admission step =>
    rw [handOver_noCartridge_admission hc]
    cases step with
    | readId => rw [if_neg (by simp), hfree (by rw [hc]; nofun)]; exact hcut s
    | challenge => rw [if_pos ⟨rfl, hp.2.2 tx hl hc⟩]; exact hcut (freePrf s)
  | writeBack op => rw [handOver_noCartridge_writeBack hc, hfree (by rw [hc]; nofun)]; exact hcut s
  | readArea o l tag =>
    rw [handOver_noCartridge_read hc, hfree (by rw [hc]; nofun)]
    exact (hcut s).trans (passThroughResult_calm _ _ _ _ _ _)

theorem abortLine_others (s : State) (n : SlotId) : OnlyChanges [.cbc, .prf, .sysp] s (abortLine s n) := by
  cases hl : s.cbc.line with
  | none => rw [abortLine_none hl]; exact .refl _ s
  | some tx =>
    by_cases hn : tx.slot = n
    · subst hn
      rw [abortLine_own hl]
      refine ((cbc_frame s _).mono (by decide)).trans (t := abortedLine s tx) ?_
      cases hc : tx.command with
      | admission step =>
        rw [handOver_noCartridge_admission hc]
        exact .ite ((freePrf_frame _).mono (by decide)) (.refl _ _)
      | writeBack op => rw [handOver_noCartridge_writeBack hc]; exact .refl _ _
      | readArea o l tag => rw [handOver_noCartridge_read hc]; exact (passThroughResult_frame _ _ _ _ _ _).mono (by decide)
    · rw [abortLine_other hl hn]; exact .refl _ s

/-- An aborted slot has no admission step left on the line, and with none waiting none at all (R66). -/
theorem AdmissionsBut.abortLine {n : SlotId} {s : State} (h : AdmissionsBut n s) (hq : ∀ x ∈ queueWork s.cbc.queue, x.1 ≠ n) :
    AdmissionsBut n (abortLine s n) ∧ NoWork n (abortLine s n) := by
  cases hl : s.cbc.line with
  | none =>
    rw [abortLine_none hl]
    refine ⟨h, ?_⟩
    rw [NoWork, admissionWork_free hl]; exact hq
  | some tx =>
    by_cases hn : tx.slot = n
    · subst hn
      have hcalm := abortLine_own_calm hl h.work.proof
      have hnone : NoWork tx.slot (lineOff (freePrf s)) := by rw [NoWork, admissionWork_lineOff]; exact hq
      have hat : OnlyAt tx.slot (lineOff (freePrf s)) (Machine.abortLine s tx.slot) :=
        .of_calm hcalm (.of_eq (abortLine_others s tx.slot .slots (by decide)))
      exact ⟨hat.but h.lineOff_freePrf hnone, hat.noWork hnone⟩
    · rw [abortLine_other hl hn]
      refine ⟨h, fun x hx => ?_⟩
      rw [admissionWork_eq, hl, List.mem_append] at hx
      rcases hx with hx | hx
      · simp only [Option.bind_some, Transaction.admissionStep, Option.mem_toList] at hx
        split at hx
        · cases hx; exact hn
        · cases hx
      · exact hq x hx

/-- A slot's entries gone from the queue, the pass-through reads among them answered (R66, R154). -/
def dropEntries (s : State) (n : SlotId) : State :=
  (s.cbc.queue.filter (·.slot == n)).foldl cancelEntry (setCbc s { s.cbc with queue := s.cbc.queue.filter (·.slot != n) })

theorem cancelSlotWork_eq (s : State) (n : SlotId) :
    cancelSlotWork s n = drainCheck (arbitrate (abortLine (dropEntries s n) n)) := rfl

theorem cancelEntries_frame (l : List QEntry) (s : State) : OnlyChanges [.sysp] s (l.foldl cancelEntry s) :=
  OnlyChanges.foldl _ (fun s e => cancelEntry_frame s e) l s

theorem dropEntries_frame (s : State) (n : SlotId) : OnlyChanges [.cbc, .sysp] s (dropEntries s n) :=
  ((cbc_frame s _).mono (by decide)).trans ((cancelEntries_frame _ _).mono (by decide))

theorem dropEntries_cbc (s : State) (n : SlotId) :
    (dropEntries s n).cbc = { s.cbc with queue := s.cbc.queue.filter (·.slot != n) } :=
  cancelEntries_frame _ _ .cbc (by decide)

theorem cancelSlotWork_others (s : State) (n : SlotId) :
    OnlyChanges (arbiterParts ++ [.his, .sto, .sysp]) s (cancelSlotWork s n) := by
  rw [cancelSlotWork_eq]
  exact ((((dropEntries_frame s n).mono (by decide)).trans ((abortLine_others _ n).mono (by decide))).trans
    ((arbitrate_frame _).mono (by decide))).trans ((drainCheck_frame _).mono (by decide))

theorem queueWork_filter (q : List QEntry) (n : SlotId) :
    queueWork (q.filter (·.slot != n)) = (queueWork q).filter (·.1 != n) := by
  rw [queueWork, List.filterMap_filter, queueWork, List.filter_filterMap]
  congr 1
  funext e
  cases e <;> simp [QEntry.admissionStep, QEntry.slot, Option.filter]

theorem AdmissionsBut.dropEntries {n : SlotId} {s : State} (h : AdmissionsBut n s) :
    AdmissionsBut n (dropEntries s n) ∧ ∀ x ∈ queueWork (dropEntries s n).cbc.queue, x.1 ≠ n := by
  have hcbc := dropEntries_cbc s n
  have hprf : (Machine.dropEntries s n).prf = s.prf := dropEntries_frame s n .prf (by decide)
  refine ⟨h.of_proof ((dropEntries_frame s n).mono (by decide)) (by rw [hprf]) ?_
    (h.work.proof.congr (by rw [hprf]) (by rw [hprf]) (by rw [hcbc])), fun x hx => ?_⟩
  · rw [admissionWork_eq, admissionWork_eq, hcbc, queueWork_filter]
    exact List.Sublist.append_left List.filter_sublist _
  · rw [hcbc, queueWork_filter] at hx
    simpa using (List.mem_filter.1 hx).2

theorem AdmissionsBut.cancelSlotWork {n : SlotId} {s : State} (h : AdmissionsBut n s) :
    AdmissionsBut n (cancelSlotWork s n) ∧ NoWork n (cancelSlotWork s n) := by
  obtain ⟨h1, hq⟩ := h.dropEntries
  obtain ⟨h2, hn⟩ := h1.abortLine hq
  rw [cancelSlotWork_eq]
  have hat : OnlyAt n (Machine.arbitrate (Machine.abortLine (Machine.dropEntries s n) n)) (drainCheck (Machine.arbitrate (Machine.abortLine (Machine.dropEntries s n) n))) :=
    .of_calm (drainCheck_calm _) (.of_frame (drainCheck_frame _) (by decide))
  have hn := hn.arbitrate h2.work
  exact ⟨hat.but h2.arbitrate hn, hat.noWork hn⟩

theorem cancelSlotWork_sameLamps (s : State) (n : SlotId) : SameLamps s (cancelSlotWork s n) := by
  rw [cancelSlotWork_eq]
  refine SameLamps.trans ?_ (.of_frame (drainCheck_frame _) (by decide) (by decide))
  refine SameLamps.trans ?_ (arbitrate_sameLamps _)
  exact (SameLamps.of_frame (dropEntries_frame s n) (by decide) (by decide)).trans
    (.of_frame (abortLine_others _ n) (by decide) (by decide))

theorem cancelSlotWork_serials (s : State) (n m : SlotId) :
    (cancelSlotWork s n).accounts[m].map (·.serial) = s.accounts[m].map (·.serial) := by
  rw [cancelSlotWork_eq, drainCheck_frame _ .accounts (by decide), arbitrate_account_map _ _ (fun _ _ _ => rfl),
    abortLine_others _ n .accounts (by decide), dropEntries_frame s n .accounts (by decide)]

theorem abortLine_identity (s : State) (n : SlotId) : (abortLine s n).prf.identity = s.prf.identity := by
  cases hl : s.cbc.line with
  | none => rw [abortLine_none hl]
  | some tx =>
    by_cases hn : tx.slot = n
    · subst hn
      rw [abortLine_own hl]
      cases hc : tx.command with
      | admission step => rw [handOver_noCartridge_admission hc]; split <;> rfl
      | writeBack op => rw [handOver_noCartridge_writeBack hc]; rfl
      | readArea o l tag => rw [handOver_noCartridge_read hc, passThroughResult_frame _ _ _ _ _ _ .prf (by decide)]; rfl
    · rw [abortLine_other hl hn]

theorem cancelSlotWork_identity (s : State) (n : SlotId) : (cancelSlotWork s n).prf.identity = s.prf.identity := by
  rw [cancelSlotWork_eq, drainCheck_frame _ .prf (by decide), arbitrate_identity, abortLine_identity,
    dropEntries_frame s n .prf (by decide)]

end Sys2Proof.Machine
end

section
namespace Sys2Proof.Machine

/-! ### Removal, retry and the other moves of a slot -/

theorem closeIntoHistory_accounts (s : State) (n : SlotId) (a : Account) : (closeIntoHistory s n a).accounts = s.accounts :=
  closeIntoHistory_frame s n a .accounts (by decide)

/-- A close leaves the slot without account, and every other account as it was (R103). -/
theorem closeAccount_accounts (s : State) (n : SlotId) : (closeAccount s n).accounts = put s.accounts n none := by
  unfold closeAccount
  split
  · next h =>
    refine Vector.ext fun i hi => ?_
    have := put_get s.accounts n ⟨i, hi⟩ none
    simp only [Fin.getElem_fin] at this
    rw [this]
    split
    · next hn => rw [← h, ← hn]; rfl
    · rfl
  · rw [setAccount_accounts, closeIntoHistory_accounts]

theorem AdmissionsBut.closeAccount {n : SlotId} {s : State} (h : AdmissionsBut n s) : AdmissionsBut n (closeAccount s n) := by
  have hf := closeAccount_frame s n
  have hslots : (Machine.closeAccount s n).slots = s.slots := hf .slots (by decide)
  have hprf : (Machine.closeAccount s n).prf = s.prf := hf .prf (by decide)
  have hcbc : (Machine.closeAccount s n).cbc = s.cbc := hf .cbc (by decide)
  have hacc (m : SlotId) (hm : m ≠ n) : (Machine.closeAccount s n).accounts[m] = s.accounts[m] := by
    rw [closeAccount_accounts, put_other _ _ _ _ hm]
  have hclaim (m : SlotId) (hm : m ≠ n) : claimed (Machine.closeAccount s n) m = claimed s m :=
    claimed_congr (by rw [hslots]) (by rw [hacc m hm]) (by rw [hprf])
  have hwork : admissionWork (Machine.closeAccount s n) = admissionWork s := admissionWork_congr (by rw [hcbc]) (by rw [hcbc])
  refine ⟨(hf .phase (by decide)).trans h.running, fun m hm => (h.fits m hm).congr (by rw [hslots]) (by rw [hacc m hm]) (by rw [hprf]),
    fun m k x hm hk hx hy => ?_, by rw [hwork]; exact h.work.nodup, fun x hx => ?_, h.work.proof.congr (by rw [hprf]) (by rw [hprf])
    (by rw [hcbc]), fun m hm => ?_⟩
  · rw [hclaim m hm] at hx
    rw [hclaim k hk] at hy
    exact h.claims m k x hm hk hx hy
  · rw [hwork] at hx
    rw [hslots]; exact h.work.awaited x hx
  · rw [hwork] at hm
    rw [hprf]; exact h.work.known m hm

theorem closeAccount_safeBut {n : SlotId} {s : State} (h : SafeBut n s) : SafeBut n (closeAccount s n) := by
  have hslots : (closeAccount s n).slots = s.slots := closeAccount_frame s n .slots (by decide)
  exact SafeBut.congr h (by rw [hslots]; exact id) (.of_eq hslots) fun m hm => by
    rw [closeAccount_accounts, put_other _ _ _ _ hm]

theorem endSlotWork_eq (s : State) (n : SlotId) : endSlotWork s n = dropEngineHolds (cancelSlotWork (closeAccount s n) n) n := rfl

theorem dropEngineHolds_frame (s : State) (n : SlotId) : OnlyChanges [.engp] s (dropEngineHolds s n) := engp_frame s _

theorem endSlotWork_safeBut {n : SlotId} {s : State} (h : SafeBut n s) : SafeBut n (endSlotWork s n) := by
  rw [endSlotWork_eq]
  exact (SameLamps.of_frame (dropEngineHolds_frame _ n) (by decide) (by decide)).but
    ((cancelSlotWork_sameLamps _ n).but (closeAccount_safeBut h))

theorem AdmissionsBut.endSlotWork {n : SlotId} {s : State} (h : AdmissionsBut n s) :
    AdmissionsBut n (endSlotWork s n) ∧ NoWork n (endSlotWork s n) := by
  obtain ⟨h1, hn⟩ := h.closeAccount.cancelSlotWork
  have hat : OnlyAt n (Machine.cancelSlotWork (Machine.closeAccount s n) n) (Machine.endSlotWork s n) :=
    .of_calm (.of_frame (dropEngineHolds_frame _ n) (by decide)) (.of_frame (dropEngineHolds_frame _ n) (by decide))
  exact ⟨hat.but h1 hn, hat.noWork hn⟩

theorem endSlotWork_account (s : State) (n : SlotId) : (endSlotWork s n).accounts[n] = none := by
  have : (endSlotWork s n).accounts[n].map (·.serial) = none := by
    rw [endSlotWork_eq, dropEngineHolds_frame _ n .accounts (by decide), cancelSlotWork_serials, closeAccount_accounts, put_same]
    rfl
  exact Option.map_eq_none_iff.1 this

theorem endSlotWork_identity (s : State) (n : SlotId) : (endSlotWork s n).prf.identity = s.prf.identity := by
  rw [endSlotWork_eq, dropEngineHolds_frame _ n .prf (by decide), cancelSlotWork_identity, closeAccount_frame s n .prf (by decide)]

theorem endSlotWork_slots (s : State) (n : SlotId) : (endSlotWork s n).slots = s.slots := by
  rw [endSlotWork_eq, dropEngineHolds_frame _ n .slots (by decide), cancelSlotWork_others _ n .slots (by decide),
    closeAccount_frame s n .slots (by decide)]

/-- A slot with its identity record discarded and its target ONLINE (R11, R29). -/
def clearSlot (s : State) (n : SlotId) : State :=
  modSlot (setIdentity s n none) n fun r => { r with target := .online }

theorem clearSlot_onlyAt (s : State) (n : SlotId) : OnlyAt n s (clearSlot s n) :=
  (setIdentity_onlyAt _ n none).trans (modSlot_onlyAt _ n _)

theorem clearSlot_identity (s : State) (n : SlotId) : (clearSlot s n).prf.identity[n] = none := put_same _ _ _

theorem clearSlot_safeBut {n : SlotId} {s : State} (h : SafeBut n s) : SafeBut n (clearSlot s n) := by
  refine SafeBut.congr h (fun hr => ?_) (modSlot_others (setIdentity s n none) n _) fun _ _ => rfl
  rw [clearSlot, modSlot_same]; exact hr

/-- A removal's moves on the slot whose work has ended: it is emptied and VACANT, and an alert is raised if one is due (R11). -/
def vacated (s : State) (n : SlotId) (due : Bool) : State :=
  if due then raiseAlert (moveSlot (clearSlot s n) n .vacant) n .removedInUse none else moveSlot (clearSlot s n) n .vacant

theorem removal_eq (s : State) (n : SlotId) : removal s n = vacated (endSlotWork s n) n (removedInUse s n) := by
  unfold removal vacated clearSlot
  dsimp only
  rw [changeState_eq_moveSlot _ n .vacant nofun]

theorem vacated_keeps {s u : State} {n : SlotId} (hs : SlotsSafe s → SafeBut n u)
    (ha : AdmissionsSafe s → AdmissionsBut n u ∧ NoWork n u) (hn : u.accounts[n] = none) (due : Bool) : Keeps s (vacated u n due) := by
  have hmove : Keeps s (moveSlot (clearSlot u n) n .vacant) := by
    refine ⟨fun h => moveSlot_safe _ (clearSlot_safeBut (hs h)), fun h => ?_⟩
    obtain ⟨h1, h2⟩ := ha h
    have hat := clearSlot_onlyAt u n
    exact (hat.but h1 h2).enter (hat.noWork h2) hn (clearSlot_identity u n) rfl nofun nofun
  exact .ite (hmove.trans (raiseAlert_calm _ n _ _).keeps) hmove

theorem removal_keeps {s : State} {n : SlotId} (hr : s.phase = .running) : Keeps s (removal s n) := by
  rw [removal_eq]
  exact vacated_keeps (fun h => endSlotWork_safeBut (h.but n)) (fun h => (h.but hr n).endSlotWork) (endSlotWork_account s n) _

/-- A RETRY after contact loss ends the slot's work and starts an admission (R17). -/
theorem retryLost_keeps {s : State} {n : SlotId} (hr : s.phase = .running) (hw : s.slots[n].state = .rejected .contactLost) :
    Keeps s (startReading (endSlotWork s n) n) := by
  refine ⟨fun h => startReading_safe (endSlotWork_safeBut (h.but n)), fun h => ?_⟩
  obtain ⟨h1, hn⟩ := (h.but hr n).endSlotWork
  refine h1.startReading hn (endSlotWork_account s n) ?_
  rw [endSlotWork_identity]
  have := (h.slotFits n).2
  rw [hw] at this
  exact Option.isNone_iff_eq_none.1 (Option.isSome_eq_false_iff.1 this)

theorem actRetry_keeps {s : State} (hr : s.phase = .running) (n : SlotId) : Keeps s (actRetry n s).1 := by
  unfold actRetry
  split
  · next why hw =>
    split
    · exact .refl s
    · dsimp only
      by_cases hc : why = .contactLost
      · subst hc
        rw [if_pos rfl]
        exact retryLost_keeps hr hw
      · rw [if_neg hc]
        refine startReading_keeps hr ?_ (by rw [hw]; nofun) (by rw [hw]; nofun) (by rw [hw]; nofun)
        rw [hw]
        cases why <;> first | rfl | exact absurd rfl hc
  · exact .refl s

theorem actSetSlotMode_keeps {s : State} (hr : s.phase = .running) (mode : Byte) (n : SlotId) :
    Keeps s (actSetSlotMode mode n s).1 := by
  unfold actSetSlotMode
  split
  · exact .refl s
  · next m _ =>
    have hf : OnlyChanges [.settings, .sto] s (storeMode s n m) :=
      .ite (.refl _ s) (((settings_frame s _).mono (by decide)).trans ((markDirty_frame _ _).mono (by decide)))
    have hslots : (storeMode s n m).slots = s.slots := hf .slots (by decide)
    refine (Keeps.of_frame hf (by decide)).trans ?_
    dsimp only
    split
    · next hst =>
      simp only [Bool.and_eq_true, beq_iff_eq] at hst
      have hst : (storeMode s n m).slots[n].state = .seated := by rw [hslots]; exact hst.1.1
      exact startReading_keeps ((hf .phase (by decide)).trans hr) (by rw [hst]; rfl) (by rw [hst]; nofun) (by rw [hst]; nofun)
        (by rw [hst]; nofun)
    · exact .refl _

theorem actAdmit_keeps {s : State} (hr : s.phase = .running) (n : SlotId) : Keeps s (actAdmit n s).1 := by
  unfold actAdmit
  split
  · exact .refl s
  · next h =>
    split
    · exact .refl s
    · have hst : s.slots[n].state = .seated := by
        by_contra hne; exact h (.inl hne)
      exact startReading_keeps hr (by rw [hst]; rfl) (by rw [hst]; nofun) (by rw [hst]; nofun) (by rw [hst]; nofun)

/-- The target of a slot is no concern of its lamp. -/
theorem setTarget_calm (s : State) (n : SlotId) (g : Target) : Calm s (modSlot s n fun r => { r with target := g }) :=
  modSlot_calm (fun _ => rfl) (modSlot_safe (fun _ h => h) fun _ _ => ⟨rfl, id⟩)

theorem actPark_keeps (s : State) (n : SlotId) : Keeps s (actPark n s).1 := by
  unfold actPark
  split
  · next h =>
    refine ((setTarget_calm s n .parked).trans (changeState_calm ?_ (by decide))).keeps
    rw [modSlot_same]
    show holdsAccount s.slots[n].state = true
    rw [h]; rfl
  · exact .refl s

theorem actUnpark_keeps (s : State) (n : SlotId) : Keeps s (actUnpark n s).1 := by
  unfold actUnpark
  split
  · exact .refl s
  · next h =>
    split
    · exact .refl s
    · refine arbitrateIfJoined_keeps ((setTarget_calm s n .online).trans (changeState_calm ?_ ?_)).keeps
      · rw [modSlot_same]
        show holdsAccount s.slots[n].state = true
        rw [not_ne_iff.1 h]; rfl
      · unfold unparkedState
        split <;> rfl

theorem actAckAlert_keeps (s : State) (n : SlotId) : Keeps s (actAckAlert n s).1 :=
  (modSlot_calm (f := fun r => { r with alert := none, alertCount := 0 }) (fun _ => rfl)
    (modSlot_safe (fun _ h => ⟨Nat.zero_le _, fun _ => rfl, h.2.2⟩) fun _ _ => ⟨rfl, id⟩)).keeps

theorem actSetLamp_keeps (s : State) (pattern : Byte) (n : SlotId) : Keeps s (actSetLamp pattern n s).1 := by
  unfold actSetLamp
  split
  · exact .refl s
  · next p _ =>
    exact (modSlot_calm (f := fun r => { r with override := some p, shown := p, lampPhase := 0 }) (fun _ => rfl)
      (modSlot_safe (fun _ h => ⟨h.1, h.2.1, cycle_pos _⟩) fun _ _ => ⟨rfl, fun _ => rfl⟩)).keeps

/-! ### Requests of the system port -/

theorem sysRequest_keeps {s : State} {sel : Selection} {k : Byte} {len : Nat} {act : State → Answer}
    (h : ∀ t : State, t.phase = .running → Keeps t (act t).1) : ExecKeeps s (.next (sysRequest s sel k len act)) := by
  refine execKeeps_next ?_
  unfold sysRequest
  split
  · next hr =>
    have h1 : OnlyChanges [.sysp] s (reqState s sel len) := (sysp_frame s _).trans (sysp_frame _ _)
    refine (Keeps.of_frame h1 (by decide)).trans ?_
    exact (h (reqState s sel len) ((h1 .phase (by decide)).trans hr)).trans (.of_frame (sysp_frame _ _) (by decide))
  · exact .refl s

theorem forSlot_keeps {slot : Byte} {act : SlotId → State → Answer} {t : State} (h : ∀ n, Keeps t (act n t).1) :
    Keeps t (forSlot slot act t).1 := by
  unfold forSlot
  split
  · exact .refl t
  · exact h _

theorem forSlots_keeps (f : State → SlotId → State) (h : ∀ s n, Keeps s (f s n)) (s : State) : Keeps s (forSlots f s) :=
  Keeps.foldl f h allSlots s

theorem actSetLimits_keeps (s : State) (l : Limits) : Keeps s (actSetLimits l s).1 := by
  unfold actSetLimits
  dsimp only
  refine .ite (.refl s) ?_
  have h1 : Keeps s (markDirty { s with settings := { s.settings with limits := clampLimits l } } recSettings) :=
    .of_frame (ps := [.settings, .sto]) (((settings_frame s _).mono (by decide)).trans ((markDirty_frame _ _).mono (by decide)))
      (by decide)
  exact .ite (h1.trans (forSlots_keeps refreshLevel (fun t n => (refreshLevel_calm t n).keeps) _)) h1

theorem takeCartRead_keeps (s : State) (a b c : Byte) : Keeps s (takeCartRead s a b c) := by
  unfold takeCartRead
  split
  · exact (Keeps.of_frame (sysp_frame s _) (by decide)).trans (joinPassThrough_keeps _ _ _ _ _)
  · exact .of_frame (sysp_frame s _) (by decide)
  · exact .refl s

/-! ### The engine port -/

theorem engRequest_keeps {s : State} {sel : Selection} {k : Byte} {len : Nat} {act : State → EngAnswer}
    (h : ∀ t : State, Keeps t (act t).state) : ExecKeeps s (.next (engRequest s sel k len act)) := by
  refine execKeeps_next ?_
  unfold engRequest
  split
  · exact ((Keeps.of_frame (engp_frame s _) (by decide)).trans (h _)).trans (.of_frame (engp_frame _ _) (by decide))
  · exact .refl s

theorem takeEntries_keeps (id : Byte) (t : Nat) (l : List DropEntry) (s : State) : Calm s (takeEntries id t s l).1 := by
  induction l generalizing s with
  | nil => exact .refl s
  | cons e l ih =>
    unfold takeEntries
    refine Calm.trans ?_ (ih _)
    unfold takeEntry
    dsimp only
    split
    · next n a h =>
      have ha : s.accounts[n] = some a := by
        unfold entryAccount at h
        split at h
        · obtain ⟨b, hb, he⟩ := Option.map_eq_some_iff.1 h
          cases he; exact hb
        · cases h
      exact (setAccount_calm ha (by rfl) (by rfl)).trans (debitDrops_calm _ _ _ _)
    · exact .refl s

theorem actDropReport_keeps (id temperature : Byte) (l : List DropEntry) (s : State) :
    Keeps s (actDropReport id temperature l s).state := by
  unfold actDropReport
  split
  · exact .refl s
  · refine arbitrateIfJoined_keeps (Keeps.trans ?_ (takeEntries_keeps id _ l _).keeps)
    exact .of_frame (ps := [.engp]) (.ite (engp_frame s _) (.refl _ s)) (by decide)

theorem stopIfNoneOpen_frame (s : State) : OnlyChanges [.engp] s (stopIfNoneOpen s) := .ite (.refl _ s) (engp_frame s _)

theorem clearIfEmpty_frame (s : State) : OnlyChanges [.engp] s (clearIfEmpty s) :=
  .ite ((engp_frame s _).trans (reevalGates_frame _)) (.refl _ s)

/-- The table without the entry of an id. -/
def dropSwath (s : State) (id : Byte) : State := { s with engp := { s.engp with table := s.engp.table.filter (·.id != id) } }

theorem closeSwath_eq (s : State) (w : Swath) :
    closeSwath s w = clearIfEmpty (stopIfNoneOpen (w.slots.foldl (fun s l => trigger s l.slot) (dropSwath s w.id))) := rfl

theorem closeSwath_keeps (s : State) (w : Swath) : Keeps s (closeSwath s w) := by
  rw [closeSwath_eq]
  refine Keeps.trans (Keeps.of_frame (t := dropSwath s w.id) (engp_frame s _) (by decide)) ?_
  refine Keeps.trans (Keeps.foldl (fun t (l : Listed) => trigger t l.slot) (fun t l => trigger_keeps t l.slot) w.slots _) ?_
  exact .of_frame ((stopIfNoneOpen_frame _).trans (clearIfEmpty_frame _)) (by decide)

theorem actCloseSwath_keeps (id : Byte) (s : State) : Keeps s (actCloseSwath id s).state := by
  unfold actCloseSwath
  split
  · exact closeSwath_keeps s _
  · exact .refl s

theorem actOpenSwath_frame (id : Byte) (asks : List SwathAsk) (s : State) : OnlyChanges [.engp] s (actOpenSwath id asks s).state := by
  unfold actOpenSwath
  split
  · exact .refl _ s
  · split
    · exact .refl _ s
    · split
      · exact OnlyChanges.trans (.ite (.refl _ s) (engp_frame s _)) (engp_frame _ _)
      · exact .refl _ s

theorem actPurgeStart_frame (slot : Byte) (amount : Half) (s : State) : OnlyChanges [.engp] s (actPurgeStart slot amount s).state := by
  unfold actPurgeStart
  split
  · exact .refl _ s
  · split
    · exact .refl _ s
    · split
      · exact .refl _ s
      · exact .refl _ s
      · exact engp_frame s _

theorem clearPurge_calm (s : State) (n : SlotId) : Calm s (clearPurge s n) := .of_frame (engp_frame s _) (by decide)

theorem actPurgeEnd_keeps (slot : Byte) (actual : Half) (s : State) : Keeps s (actPurgeEnd slot actual s).state := by
  unfold actPurgeEnd
  split
  · exact .refl s
  · split
    · exact arbitrateIfJoined_keeps
        (((clearPurge_calm s _).trans (debitPurge_calm _ _ _)).trans (requestAddUsed_calm _ _)).keeps
    · exact .refl s

theorem restartEngine_frame (s : State) : OnlyChanges [.engp] s (restartEngine s) := (engp_frame s _).trans (reevalGates_frame _)

end Sys2Proof.Machine
end

section
namespace Sys2Proof.Machine

/-! ### The slots' own commands -/

/-- A slot record changed neither in its state nor in what its lamp is to show. -/
theorem touchSlot_calm (s : State) (n : SlotId) (f : SlotRec → SlotRec) (hst : ∀ r, (f r).state = r.state)
    (hr : ∀ r, RecordSound r → RecordSound (f r)) (hsh : ∀ r, (f r).shown = r.shown ∧ (f r).override = r.override) :
    Calm s (modSlot s n f) :=
  modSlot_calm hst (modSlot_safe hr fun r p => ⟨hst r, fun h => by rw [(hsh r).1, (hsh r).2]; exact h⟩)

theorem execPresenceLineChange_keeps (n : SlotId) (high : Bool) (s : State) : ExecKeeps s (execPresenceLineChange n high s) := by
  refine execKeeps_next ?_
  split
  · exact .refl s
  · have h1 : OnlyChanges [.lines] s { s with lines := { s.lines with presence := put s.lines.presence n high } } := by
      intro p hp; cases p <;> first | rfl | exact (hp (by decide)).elim
    have h2 := Keeps.of_frame h1 (by decide)
    dsimp only
    split
    · exact h2.trans (touchSlot_calm _ n _ (by intro r; rfl) (by intro r h; exact h) (by intro r; exact ⟨rfl, rfl⟩)).keeps
    · exact h2

/-- The filtered presence taken, the timer stopped (R3). -/
def senseSlot (s : State) (n : SlotId) (high : Bool) : State := modSlot s n fun r => { r with present := high, presenceTimer := none }

theorem senseSlot_calm (s : State) (n : SlotId) (high : Bool) : Calm s (senseSlot s n high) :=
  touchSlot_calm s n _ (by intro r; rfl) (by intro r h; exact h) (by intro r; exact ⟨rfl, rfl⟩)

theorem execPresenceTimerExpiry_eq (n : SlotId) (s : State) :
    execPresenceTimerExpiry n s = .next (
      if s.phase = .running ∧ s.slots[n].presenceTimer.isSome = true then
        if s.lines.presence[n] = true ∧ (senseSlot s n s.lines.presence[n]).slots[n].state = .vacant then
          insertion (senseSlot s n s.lines.presence[n]) n
        else if s.lines.presence[n] = false ∧ (senseSlot s n s.lines.presence[n]).slots[n].state ≠ .vacant then
          removal (senseSlot s n s.lines.presence[n]) n
        else senseSlot s n s.lines.presence[n]
      else s) := rfl

theorem execPresenceTimerExpiry_keeps (n : SlotId) (s : State) : ExecKeeps s (execPresenceTimerExpiry n s) := by
  rw [execPresenceTimerExpiry_eq]
  refine execKeeps_next ?_
  split
  · next h =>
    have hs := (senseSlot_calm s n s.lines.presence[n]).keeps
    split
    · next hv => exact hs.trans (insertion_keeps h.1 hv.2)
    · split
      · exact hs.trans (removal_keeps h.1)
      · exact hs
  · exact .refl s

theorem execLampPhaseExpiry_keeps (n : SlotId) (s : State) : ExecKeeps s (execLampPhaseExpiry n s) := by
  refine execKeeps_next (.ite ?_ (.refl s))
  exact (touchSlot_calm s n _ (by intro r; rfl) (by intro r h; exact ⟨h.1, h.2.1, Nat.mod_lt _ (cycle_pos _)⟩)
    (by intro r; exact ⟨rfl, rfl⟩)).keeps

/-! ### The service line -/

theorem openCommand_keeps {s : State} {k : Byte} {act : State → Answer} (h : ∀ t, (act t).1 = t) :
    ExecKeeps s (.next (openCommand s k act)) := execKeeps_next (.of_frame (openCommand_frame s k act h) (by decide))

theorem privileged_keeps {s : State} {k : Byte} {act : State → Answer} (h : ∀ t, Keeps t (act t).1) :
    ExecKeeps s (.next (privileged s k act)) := by
  refine execKeeps_next ?_
  unfold privileged
  have hu : Keeps s (setUnlock s .none) := .of_frame (setUnlock_frame s _) (by decide)
  split
  · split
    · exact (hu.trans (h _)).trans (.of_frame (svcReply_frame _ _ _ _) (by decide))
    · exact hu.trans (.of_frame (svcReply_frame _ _ _ _) (by decide))
  · exact .refl s

theorem unlockFrame_keeps (s : State) (k : Byte) (r : Unlock × Status) : ExecKeeps s (.next (unlockFrame s k r)) :=
  execKeeps_next (.ite (.of_frame ((setUnlock_frame s _).trans (svcReply_frame _ _ _ _)) (by decide)) (.refl s))

theorem svl_keeps (s : State) (v : Svl) : Keeps s { s with svl := v } := .of_frame (svl_frame s v) (by decide)

theorem cal_frame (s : State) (v : Vector Calibration 10) : OnlyChanges [.cal] s { s with cal := v } := by
  intro p hp; cases p <;> first | rfl | exact (hp (by decide)).elim

theorem locks_frame (s : State) (v : Vector Bool 10) : OnlyChanges [.locks] s { s with locks := v } := by
  intro p hp; cases p <;> first | rfl | exact (hp (by decide)).elim

theorem actWriteCal_keeps (slot : Byte) (vS vM vL : Half) (kappa : Byte) (s : State) : Keeps s (actWriteCal slot vS vM vL kappa s).1 := by
  unfold actWriteCal
  split
  · exact .refl s
  · split
    · exact .refl s
    · split
      · exact .refl s
      · split
        · exact .refl s
        · exact .of_frame (ps := [.cal, .sto]) (((cal_frame s _).mono (by decide)).trans ((markDirty_frame _ _).mono (by decide)))
            (by decide)

theorem actLockCal_keeps (mask : Half) (s : State) : Keeps s (actLockCal mask s).1 := by
  unfold actLockCal
  split
  · exact .refl s
  · split
    · exact .refl s
    · refine .ite (.refl s) ?_
      exact .of_frame (ps := [.locks, .sto]) (((locks_frame s _).mono (by decide)).trans ((markDirty_frame _ _).mono (by decide)))
        (by decide)

theorem settingsDirty_keeps (s : State) (x : Settings) (r : Fin 118) : Keeps s (markDirty { s with settings := x } r) :=
  .of_frame (ps := [.settings, .sto]) (((settings_frame s _).mono (by decide)).trans ((markDirty_frame _ _).mono (by decide)))
    (by decide)

theorem actWriteColourMap_keeps (c : Vector Byte 10) (s : State) : Keeps s (actWriteColourMap c s).1 := by
  unfold actWriteColourMap
  split
  · exact settingsDirty_keeps s _ _
  · exact .refl s

theorem actWriteFilter_keeps (e : Byte) (x : FilterImage) (s : State) : Keeps s (actWriteFilter e x s).1 := by
  unfold actWriteFilter
  split
  · split
    · exact .of_frame (ps := [.his, .sto]) (((his_frame s _).mono (by decide)).trans ((markDirty_frame _ _).mono (by decide)))
        (by decide)
    · exact .refl s
  · exact .refl s

theorem actClearHistory_keeps (table scope : Byte) (serial : Serial) (s : State) : Keeps s (actClearHistory table scope serial s).1 := by
  unfold actClearHistory clearTable
  split
  · dsimp only
    split
    · exact .of_frame (clearSeen_frame s _) (by decide)
    · exact .of_frame (clearRetired_frame s _) (by decide)
  · exact .refl s

/-- Keys, calibration and the like are no concern of admission (R30). -/
theorem keys_calm (s : State) (k : Vector (Option (BitVec 128)) 4) : Calm s { s with prf := { s.prf with keys := k } } :=
  ⟨rfl, fun _ => .inl rfl, fun _ => rfl, rfl, rfl, rfl, rfl, rfl, SameLamps.safe ⟨rfl, fun _ => rfl⟩⟩

theorem actLoadKey_keeps (i : Byte) (key : BitVec 128) (s : State) : Keeps s (actLoadKey i key s).1 := by
  unfold actLoadKey
  split
  · dsimp only
    split
    · exact .refl s
    · exact ((keys_calm s _).trans (.of_frame (markDirty_frame _ _) (by decide))).keeps
  · exact .refl s

theorem lineError_frame (s : State) : OnlyChanges [.svl] s (lineError s) := .ite (svl_frame s _) (.refl _ s)

/-! ### Full reset (R179, R185) -/

theorem reset_slot (n : SlotId) : State.reset.slots[n] = resetSlot := by revert n; decide

theorem reset_account (n : SlotId) : State.reset.accounts[n] = none := by revert n; decide

theorem reset_identity (n : SlotId) : State.reset.prf.identity[n] = none := by revert n; decide

theorem fullReset_keeps (s : State) (p : Phase) : Keeps s (fullReset s p) := by
  have hslot (n : SlotId) : (fullReset s p).slots[n] = resetSlot := reset_slot n
  have hacc (n : SlotId) : (fullReset s p).accounts[n] = none := reset_account n
  have hid (n : SlotId) : (fullReset s p).prf.identity[n] = none := reset_identity n
  have hclaim (n : SlotId) : claimed (fullReset s p) n = none :=
    claimed_none (hacc n) (by rw [hslot]; nofun) (by rw [hslot]; nofun)
  refine ⟨fun _ n => ?_, fun _ => ⟨fun _ n => ?_, fun n => ?_, fun n => ?_, fun m n x hm => ?_, List.nodup_nil, nofun, ?_⟩⟩
  · simp only [patternOf, hslot, hacc]
    exact ⟨by decide, fun _ => rfl, rfl, by decide⟩
  · rw [hslot]; rfl
  · rw [hacc, hslot]; rfl
  · rw [hid, hslot]; rfl
  · rw [hclaim] at hm; cases hm
  · exact (proofSafe_iff _).2 (.inl ⟨rfl, rfl, nofun⟩)

theorem resetNow_keeps (s : State) : Keeps s (resetNow s) := fullReset_keeps s _

theorem resetIfDue_keeps {s t : State} (h : Keeps s t) : Keeps s (resetIfDue t) := .ite (h.trans (resetNow_keeps t)) h

/-! ### Power (R179 to R185) -/

theorem forSlots_trigger_keeps (s : State) : Keeps s (forSlots trigger s) := forSlots_keeps trigger trigger_keeps s

/-- The gates, the power state and flush mode when the warning is taken (R182). -/
def warned (s : State) : State :=
  setCbc (reevalGates { s with sto := { s.sto with power := .flushingBus } })
    { s.cbc with flush := true }

theorem assertPfail_eq (s : State) : assertPfail s = drainCheck (forSlots trigger (warned s)) := rfl

theorem warned_calm (s : State) : Calm s (warned s) := by
  refine Calm.trans (.of_frame (ps := [.sto, .engp]) (t := reevalGates { s with sto := { s.sto with power := .flushingBus } }) ?_ (by decide)) ?_
  · exact ((sto_frame s _).mono (by decide)).trans ((reevalGates_frame _).mono (by decide))
  · exact setCbc_calm _ rfl rfl

theorem assertPfail_keeps (s : State) : Keeps s (assertPfail s) := by
  rw [assertPfail_eq]
  exact ((warned_calm s).keeps.trans (forSlots_trigger_keeps _)).trans (drainCheck_calm _).keeps

/-- The gates, the power state and normal service when the warning is withdrawn (R65, R184). -/
def unwarned (s : State) : State :=
  setCbc (reevalGates { s with sto := { s.sto with power := .normal } }) { s.cbc with flush := false }

theorem withdrawPfail_eq (s : State) : withdrawPfail s = arbitrate (unwarned s) := rfl

theorem unwarned_calm (s : State) : Calm s (unwarned s) := by
  refine Calm.trans (.of_frame (ps := [.sto, .engp]) (t := reevalGates { s with sto := { s.sto with power := .normal } }) ?_ (by decide)) ?_
  · exact ((sto_frame s _).mono (by decide)).trans ((reevalGates_frame _).mono (by decide))
  · exact setCbc_calm _ rfl rfl

theorem withdrawPfail_keeps (s : State) : Keeps s (withdrawPfail s) := by
  rw [withdrawPfail_eq]
  exact (unwarned_calm s).keeps.trans (arbitrate_keeps _)

/-! ### The start-up load and the sample (R176 to R179, R23) -/

theorem endCarried_frame (s : State) : OnlyChanges [.sto] s (endCarried s) := by
  unfold endCarried
  split
  · exact (sto_frame s _).trans (sto_frame _ _)
  · exact .refl _ s

theorem loadSettings_frame (s : State) : OnlyChanges [.settings, .sto] s (loadSettings s) := by
  unfold loadSettings
  split
  · exact (settings_frame s _).mono (by decide)
  · exact ((settings_frame s _).mono (by decide)).trans ((markDirty_frame _ _).mono (by decide))

theorem loadTables_calm (s : State) : Calm s (loadTables s) :=
  ⟨rfl, fun _ => .inl rfl, fun _ => rfl, rfl, rfl, rfl, rfl, rfl, SameLamps.safe ⟨rfl, fun _ => rfl⟩⟩

theorem loadLocks_frame (s : State) : OnlyChanges [.locks, .sto] s (loadLocks s) := by
  have hmark (l : Vector Bool 10) : OnlyChanges [.locks, .sto] s (markDirty { s with locks := l } recLocks) :=
    ((locks_frame s l).mono (by decide)).trans ((markDirty_frame _ _).mono (by decide))
  unfold loadLocks
  split
  · exact (locks_frame s _).mono (by decide)
  · exact .ite ((locks_frame s _).mono (by decide)) (hmark _)
  · exact hmark _

theorem loadHistory_frame (s : State) : OnlyChanges [.his, .sto] s (loadHistory s) := by
  have hmarks {k : Nat} (l : List (Fin k)) (f : Fin k → Fin 118) (t : State) :
      OnlyChanges [.his, .sto] t (l.foldl (fun s p => markDirty s (f p)) t) :=
    OnlyChanges.foldl _ (fun s p => (markDirty_frame s _).mono (by decide)) l t
  exact (((his_frame s _).mono (by decide)).trans (hmarks _ _ _)).trans (hmarks _ _ _)

theorem postLoadEvents_frame (s : State) (d : Bool) (k : Nat) : OnlyChanges [.sysp] s (postLoadEvents s d k) := by
  unfold postLoadEvents
  have h1 : OnlyChanges [.sysp] s (if d then postEvent s .settingsDefaulted noSlot 0 none else s) :=
    .ite (postEvent_frame s _ _ _ _) (.refl _ s)
  exact .ite (h1.trans (postEvent_frame _ _ _ _ _)) h1

theorem startUpLoad_calm (s : State) : Calm s (startUpLoad s) := by
  unfold startUpLoad
  dsimp only
  refine Calm.trans ?_ (.of_frame (postLoadEvents_frame _ _ _) (by decide))
  refine Calm.trans ?_ (.of_frame (loadHistory_frame _) (by decide))
  refine Calm.trans ?_ (.of_frame (loadLocks_frame _) (by decide))
  refine Calm.trans ?_ (loadTables_calm _)
  refine Calm.trans ?_ (.of_frame (loadSettings_frame _) (by decide))
  exact .of_frame (sto_frame s _) (by decide)

/-- Service begins with every slot VACANT (R23). -/
theorem beginService_keeps (s : State) : Keeps s { s with phase := .running } := by
  refine ⟨fun h => h, fun h => ?_⟩
  obtain ⟨-, hacc, hid, hclaim, hnodup, hstep, hproof⟩ := h
  exact ⟨fun hr => absurd rfl hr, hacc, hid, hclaim, hnodup, hstep, hproof⟩

theorem samplePfail_eq (s : State) :
    samplePfail s = if s.lines.pfailN then { s with sto := { s.sto with filter := startTimer s (pfailWindow s.lines.pfailN) } }
      else assertPfail { s with sto := { s.sto with filter := startTimer s (pfailWindow s.lines.pfailN) } } := rfl

theorem samplePfail_keeps (s : State) : Keeps s (samplePfail s) := by
  rw [samplePfail_eq]
  have h : Keeps s { s with sto := { s.sto with filter := startTimer s (pfailWindow s.lines.pfailN) } } :=
    .of_frame (sto_frame s _) (by decide)
  exact .ite h (h.trans (assertPfail_keeps _))

theorem assertPfail_frame (s : State) : OnlyChanges (arbiterParts ++ [.sto, .engp, .his, .sysp]) s (assertPfail s) := by
  rw [assertPfail_eq]
  have h1 : OnlyChanges (arbiterParts ++ [.sto, .engp, .his, .sysp]) s (warned s) :=
    (((sto_frame s _).mono (by decide)).trans ((reevalGates_frame _).mono (by decide))).trans ((cbc_frame _ _).mono (by decide))
  exact (h1.trans ((forSlots_frame trigger trigger_frame _).mono (by decide))).trans ((drainCheck_frame _).mono (by decide))

theorem samplePfail_frame (s : State) : OnlyChanges (arbiterParts ++ [.sto, .engp, .his, .sysp]) s (samplePfail s) := by
  rw [samplePfail_eq]
  have h : OnlyChanges (arbiterParts ++ [.sto, .engp, .his, .sysp]) s
      { s with sto := { s.sto with filter := startTimer s (pfailWindow s.lines.pfailN) } } := (sto_frame s _).mono (by decide)
  exact .ite h (h.trans (assertPfail_frame _))

theorem insertion_others (s : State) (n : SlotId) : OtherSlotsKept n s (insertion s n) :=
  .ite ((changeState_others s n _).trans (startReading_others _ n)) (changeState_others s n _)

/-- The filtered presence as sampled (R23). -/
def sampled (s : State) (n : SlotId) : State := modSlot s n fun r => { r with present := true }

theorem sampled_calm (s : State) (n : SlotId) : Calm s (sampled s n) :=
  touchSlot_calm s n _ (by intro r; rfl) (by intro r h; exact h) (by intro r; exact ⟨rfl, rfl⟩)

theorem sampled_state (s : State) (n : SlotId) : (sampled s n).slots[n].state = s.slots[n].state := by
  rw [sampled, modSlot_same]

theorem sampleSlot_eq (s : State) (n : SlotId) :
    sampleSlot s n = if s.lines.presence[n] then insertion (sampled s n) n else s := rfl

theorem sampleSlot_others (s : State) (n : SlotId) : OtherSlotsKept n s (sampleSlot s n) := by
  rw [sampleSlot_eq]
  exact .ite ((modSlot_others s n _).trans (insertion_others _ n)) (.refl n s)

theorem sampleSlot_frame (s : State) (n : SlotId) : OnlyChanges debitParts s (sampleSlot s n) := by
  rw [sampleSlot_eq]
  exact .ite (((modSlot_frame s n _).mono (by decide)).trans (insertion_frame _ n)) (.refl _ s)

theorem sampleSlot_keeps {s : State} {n : SlotId} (hr : s.phase = .running) (hv : s.slots[n].state = .vacant) :
    Keeps s (sampleSlot s n) := by
  rw [sampleSlot_eq]
  have hv' : (sampled s n).slots[n].state = .vacant := (sampled_state s n).trans hv
  have hr' : (sampled s n).phase = .running := hr
  exact .ite ((sampled_calm s n).keeps.trans (insertion_keeps hr' hv')) (.refl s)

/-- The slots sampled one after another, each VACANT until its sample. -/
theorem sampleSlots_admissions (l : List SlotId) (s : State) (hl : l.Nodup) (hr : s.phase = .running)
    (hv : ∀ n ∈ l, s.slots[n].state = .vacant) (h : AdmissionsSafe s) : AdmissionsSafe (l.foldl sampleSlot s) := by
  induction l generalizing s with
  | nil => exact h
  | cons n l ih =>
    obtain ⟨hn, hl⟩ := List.nodup_cons.1 hl
    refine ih _ hl ((sampleSlot_frame s n .phase (by decide)).trans hr) (fun m hm => ?_)
      ((sampleSlot_keeps hr (hv n List.mem_cons_self)).2 h)
    rw [sampleSlot_others s n m (fun e => hn (e ▸ hm))]
    exact hv m (List.mem_cons_of_mem n hm)

theorem insertion_safe {s : State} (h : SlotsSafe s) (n : SlotId) : SlotsSafe (insertion s n) := by
  have hs : SlotsSafe (changeState s n .seated) := by
    rw [changeState_eq_moveSlot s n .seated nofun]
    exact moveSlot_safe .seated (h.but n)
  unfold insertion
  dsimp only
  generalize changeState s n .seated = t at hs ⊢
  split
  · exact startReading_safe (hs.but n)
  · exact hs

theorem sampleSlots_safe (l : List SlotId) (s : State) (h : SlotsSafe s) : SlotsSafe (l.foldl sampleSlot s) := by
  induction l generalizing s with
  | nil => exact h
  | cons n l ih =>
    refine ih _ ?_
    rw [sampleSlot_eq]
    split
    · exact insertion_safe ((sampled_calm s n).lamps h) n
    · exact h

/-- The state in which the samples are taken: loaded, and in service. -/
def loaded (s : State) : State := { startUpLoad (endCarried s) with phase := .running }

theorem finishLoad_eq (s : State) : finishLoad s = forSlots sampleSlot (samplePfail (loaded s)) := rfl

theorem finishLoad_keeps {s : State} (hp : s.phase = .loading) : Keeps s (finishLoad s) := by
  rw [finishLoad_eq]
  have hload : Calm s (startUpLoad (endCarried s)) := (Calm.of_frame (endCarried_frame s) (by decide)).trans (startUpLoad_calm _)
  have h1 : Keeps s (samplePfail (loaded s)) := (hload.keeps.trans (beginService_keeps _)).trans (samplePfail_keeps _)
  refine ⟨fun h => sampleSlots_safe _ _ (h1.1 h), fun h => sampleSlots_admissions allSlots _ (by decide) ?_ (fun n _ => ?_) (h1.2 h)⟩
  · exact samplePfail_frame _ .phase (by decide)
  · have hslots : (samplePfail (loaded s)).slots = (startUpLoad (endCarried s)).slots := samplePfail_frame _ .slots (by decide)
    rw [hslots]
    exact (hload.admissions h).1 (by rw [hload.phase, hp]; nofun) n

/-! ### A bit-time -/

theorem sentOn_view (tx : Transaction) : lineView (sentOn tx) = lineView tx := by
  unfold sentOn
  split
  · next h => simp [lineView, h]
  · rfl

theorem busAfter_calm (s : State) : Calm s { s with cbc := busAfter s.cbc } := by
  refine .of_cbc (cbc_frame s _) ?_ rfl
  show (s.cbc.line.map sentOn).map lineView = _
  rw [Option.map_map]
  exact congrArg (Option.map · s.cbc.line) (funext sentOn_view)

theorem clockSvl_frame (s : State) (k : Nat) (v : Svl) : OnlyChanges [.clock, .svl] s { s with clock := k, svl := v } := by
  intro p hp; cases p <;> first | rfl | exact (hp (by decide)).elim

theorem tick_keeps (s : State) : Keeps s (tick s) := by
  unfold tick
  split
  · exact .refl s
  · exact (busAfter_calm s).keeps.trans (Keeps.of_frame (clockSvl_frame { s with cbc := busAfter s.cbc } _ _) (by decide))

end Sys2Proof.Machine
end

section
/-! Every command keeps alerts and lamps coherent, and so admission (O16): the commands one by one, then the step. -/

namespace Sys2Proof.Machine

/-! ### Requests -/

/-- A request that reports, and changes nothing but the reply. -/
theorem sysReport_keeps (s : State) (sel : Selection) (k : Byte) (len : Nat) {act : State → Answer} (h : ∀ t, (act t).1 = t) :
    ExecKeeps s (.next (sysRequest s sel k len act)) := sysRequest_keeps fun t _ => by rw [h t]; exact .refl t

theorem engReport_keeps (s : State) (sel : Selection) (k : Byte) (len : Nat) {act : State → EngAnswer} (h : ∀ t, (act t).state = t) :
    ExecKeeps s (.next (engRequest s sel k len act)) := engRequest_keeps fun t => by rw [h t]; exact .refl t

theorem actTakeEvents_keeps (n : Byte) (s : State) : Keeps s (actTakeEvents n s).1 := by
  unfold actTakeEvents
  split
  · exact .refl s
  · exact .of_frame (sysp_frame s _) (by decide)

theorem actSetPolicy_keeps (g p : Byte) (s : State) : Keeps s (actSetPolicy g p s).1 := by
  unfold actSetPolicy
  split
  · exact .ite (.refl s) (settingsDirty_keeps s _ _)
  · exact .refl s

theorem actFlush_keeps (s : State) : Keeps s (actFlush s).1 := by
  unfold actFlush
  dsimp only
  exact forSlots_trigger_keeps s

theorem actHistoryRead_state (table index : Byte) (s : State) : (actHistoryRead table index s).1 = s := by
  unfold actHistoryRead
  split
  · split <;> rfl
  · split <;> rfl
  · rfl

theorem actAccountStats_state (n : SlotId) (s : State) : (actAccountStats n s).1 = s := by
  unfold actAccountStats
  split <;> rfl

theorem execCartRead_keeps (a b c : Byte) (sel : Selection) (s : State) : ExecKeeps s (execCartRead a b c sel s) :=
  execKeeps_next (.ite ((Keeps.of_frame (sysp_frame s _) (by decide)).trans (takeCartRead_keeps _ a b c)) (.refl s))

theorem execSysFrameRejected_keeps (frame : List Byte) (sel : Selection) (s : State) :
    ExecKeeps s (execSysFrameRejected frame sel s) := by
  unfold execSysFrameRejected
  split
  · split
    · exact execKeeps_next (.refl s)
    · exact sysReport_keeps s _ _ _ fun _ => rfl
  · exact execKeeps_next (.refl s)

theorem execEngFrameRejected_keeps (frame : List Byte) (sel : Selection) (s : State) :
    ExecKeeps s (execEngFrameRejected frame sel s) := by
  unfold execEngFrameRejected
  split
  · split
    · exact execKeeps_next (.refl s)
    · exact engReport_keeps s _ _ _ fun _ => rfl
  · exact execKeeps_next (.refl s)

/-! ### The engine's timers -/

theorem execReportWatchdogExpiry_keeps (s : State) : ExecKeeps s (execReportWatchdogExpiry s) := by
  refine execKeeps_next (.ite ?_ (.refl s))
  exact .of_frame (ps := [.engp, .sysp]) ((((engp_frame s _).trans (reevalGates_frame _)).mono (by decide)).trans
    ((postEvent_frame _ _ _ _ _).mono (by decide))) (by decide)

theorem execSwathTimerExpiry_keeps (id : Byte) (s : State) : ExecKeeps s (execSwathTimerExpiry id s) := by
  unfold execSwathTimerExpiry
  split
  · refine execKeeps_next (.ite ?_ (.refl s))
    exact .of_frame (ps := [.engp, .sysp]) ((((modSwath_frame s _ _).trans (stopIfNoneOpen_frame _)).mono (by decide)).trans
      ((postEvent_frame _ _ _ _ _).mono (by decide))) (by decide)
  · exact execKeeps_next (.refl s)

theorem execPurgeTimerExpiry_keeps (n : SlotId) (s : State) : ExecKeeps s (execPurgeTimerExpiry n s) := by
  unfold execPurgeTimerExpiry
  split
  · refine execKeeps_next (.ite (arbitrateIfJoined_keeps ?_) (.refl s))
    exact ((clearPurge_calm s n).trans (debitPurge_calm _ _ _)).keeps.trans (.of_frame (postEvent_frame _ _ _ _ _) (by decide))
  · exact execKeeps_next (.refl s)

/-! ### The service line -/

theorem execSyncSamplesComplete_keeps (a b c : Bool) (s : State) : ExecKeeps s (execSyncSamplesComplete a b c s) := by
  unfold execSyncSamplesComplete
  split
  · exact execKeeps_next (.ite (.ite (svl_keeps s _) (svl_keeps s _)) (.refl s))
  · exact execKeeps_next (.refl s)

theorem execStoreCheckComplete_keeps (s : State) : ExecKeeps s (execStoreCheckComplete s) := by
  unfold execStoreCheckComplete
  split
  · exact execKeeps_next (.ite ((svl_keeps s _).trans (.of_frame (svcReply_frame _ _ _ _) (by decide))) (.refl s))
  · exact execKeeps_next (.refl s)

theorem execSvcFrameRejected_keeps (frame : List Byte) (s : State) : ExecKeeps s (execSvcFrameRejected frame s) := by
  unfold execSvcFrameRejected
  split
  · exact openCommand_keeps fun _ => rfl
  · exact execKeeps_next (.ite (svl_keeps s _) (.refl s))
  · exact execKeeps_next (.refl s)

theorem lineError_keeps (s : State) : Keeps s (lineError s) := .of_frame (lineError_frame s) (by decide)

theorem actSetRegion_keeps (r : Byte) (s : State) : Keeps s (actSetRegion r s).1 := settingsDirty_keeps s _ _

/-! ### The store, and power -/

theorem noteCheck_keeps (s : State) : Keeps s (noteCheck s) := by
  unfold noteCheck
  split
  · exact .refl s
  · exact .of_frame (ps := [.svl, .draws]) (by intro p hp; cases p <;> first | rfl | exact (hp (by decide)).elim) (by decide)

theorem execWriterStart_keeps (s : State) : ExecKeeps s (execWriterStart s) := by
  refine execKeeps_next ?_
  split
  · split
    · exact (noteCheck_keeps s).trans (.of_frame (sto_frame _ _) (by decide))
    · exact .refl s
  · exact .refl s

theorem execWriteComplete_keeps (s : State) : ExecKeeps s (execWriteComplete s) := by
  have hc : Keeps s (endCarried s) := .of_frame (endCarried_frame s) (by decide)
  unfold execWriteComplete
  split
  · exact execKeeps_next (.ite (.of_frame ((sto_frame s _).trans (sto_frame _ _)) (by decide)) hc)
  · exact execKeeps_next (.ite (.refl s) hc)

theorem breakRecord_frame (s : State) : OnlyChanges [.sto] s (breakRecord s) := by
  unfold breakRecord
  split
  · exact sto_frame s _
  · exact .refl _ s

theorem losePower_keeps (s : State) : Keeps s (losePower s) :=
  (Keeps.of_frame (breakRecord_frame s) (by decide)).trans (fullReset_keeps _ _)

theorem lines_frame (s : State) (l : Lines) : OnlyChanges [.lines] s { s with lines := l } := by
  intro p hp; cases p <;> first | rfl | exact (hp (by decide)).elim

theorem execPfailNChange_keeps (high : Bool) (s : State) : ExecKeeps s (execPfailNChange high s) := by
  refine execKeeps_next (.ite (.refl s) ?_)
  exact .of_frame (ps := [.lines, .sto]) (by intro p hp; cases p <;> first | rfl | exact (hp (by decide)).elim) (by decide)

theorem execResetLineAsserted_keeps (s : State) : ExecKeeps s (execResetLineAsserted s) := by
  refine execKeeps_next (.ite (.refl s) ?_)
  have h : Keeps s { s with lines := { s.lines with resetN := false } } := .of_frame (lines_frame s _) (by decide)
  exact .ite h (h.trans (fullReset_keeps _ _))

/-- The load begins with every slot VACANT still (R179). -/
theorem loading_keeps {s : State} (hp : s.phase = .resetHeld) : Keeps s { s with phase := .loading } := by
  refine ⟨fun h => h, fun h => ?_⟩
  obtain ⟨hvac, hacc, hid, hclaim, hnodup, hstep, hproof⟩ := h
  exact ⟨fun _ => hvac (by rw [hp]; nofun), hacc, hid, hclaim, hnodup, hstep, hproof⟩

theorem execResetLineWithdrawn_keeps (s : State) : ExecKeeps s (execResetLineWithdrawn s) := by
  have h : Keeps s { s with lines := { s.lines with resetN := true } } := .of_frame (lines_frame s _) (by decide)
  refine execKeeps_next ?_
  dsimp only
  split
  · next hp => exact h.trans (loading_keeps hp)
  · exact h

theorem execPowerOn_keeps (s : State) : ExecKeeps s (execPowerOn s) :=
  execKeeps_next (Keeps.trans (.ite (.refl s) (losePower_keeps s)) (resetNow_keeps _))

theorem execStartUpLoadComplete_keeps (s : State) : ExecKeeps s (execStartUpLoadComplete s) := by
  refine execKeeps_next ?_
  split
  · next hp => exact finishLoad_keeps hp
  · exact .refl s

/-! ### Every command, and the step -/

theorem exec_keeps (i : Instr) (s : State) : ExecKeeps s (exec i s) := by
  cases i with
  | presenceLineChange slot high => exact execPresenceLineChange_keeps slot high s
  | presenceTimerExpiry slot => exact execPresenceTimerExpiry_keeps slot s
  | lampPhaseExpiry slot => exact execLampPhaseExpiry_keeps slot s
  | derivedKeyDigestComplete => exact execDerivedKeyDigestComplete_keeps s
  | responseDigestComplete => exact execResponseDigestComplete_keeps s
  | breakEnd => exact execBreakEnd_keeps s
  | backoffComplete idleRun => exact execBackoffComplete_keeps idleRun s
  | preambleComplete => exact execPreambleComplete_keeps s
  | collision => exact execCollision_keeps s
  | messageSent => exact execMessageSent_keeps s
  | replyAddressCharacter data => exact execReplyAddressCharacter_keeps data s
  | replyDeadlineExpiry => exact execReplyDeadlineExpiry_keeps s
  | cbusFramingError => exact execCbusFramingError_keeps s
  | framingDiscardEnd => exact execFramingDiscardEnd_keeps s
  | cbusReplyEnd rest => exact execCbusReplyEnd_keeps rest s
  | replyLengthLimitExpiry => exact execReplyLengthLimitExpiry_keeps s
  | idleWaitLimitExpiry => exact execIdleWaitLimitExpiry_keeps s
  | slotStatus slot sel => exact sysRequest_keeps fun t _ => forSlot_keeps fun _ => .refl t
  | levels sel => exact sysReport_keeps s _ _ _ fun _ => rfl
  | setSlotMode slot mode sel => exact sysRequest_keeps fun _ hr => forSlot_keeps (actSetSlotMode_keeps hr mode)
  | admitSlot slot sel => exact sysRequest_keeps fun _ hr => forSlot_keeps (actAdmit_keeps hr)
  | park slot sel => exact sysRequest_keeps fun t _ => forSlot_keeps (actPark_keeps t)
  | unpark slot sel => exact sysRequest_keeps fun t _ => forSlot_keeps (actUnpark_keeps t)
  | retry slot sel => exact sysRequest_keeps fun _ hr => forSlot_keeps (actRetry_keeps hr)
  | ackAlert slot sel => exact sysRequest_keeps fun t _ => forSlot_keeps (actAckAlert_keeps t)
  | setLamp slot pattern sel => exact sysRequest_keeps fun t _ => forSlot_keeps (actSetLamp_keeps t pattern)
  | takeEvents n sel => exact sysRequest_keeps fun t _ => actTakeEvents_keeps n t
  | cartRead slot offset length sel => exact execCartRead_keeps slot offset length sel s
  | setPolicy nonGenuine suspect sel => exact sysRequest_keeps fun t _ => actSetPolicy_keeps nonGenuine suspect t
  | setLimits low reserve threshold window swath purge sel => exact sysRequest_keeps fun t _ => actSetLimits_keeps t _
  | flush sel => exact sysRequest_keeps fun t _ => actFlush_keeps t
  | historyRead table index sel => exact sysReport_keeps s _ _ _ (actHistoryRead_state table index)
  | accountStats slot sel =>
    exact sysRequest_keeps fun t _ => forSlot_keeps fun n => by rw [actAccountStats_state]; exact .refl t
  | sysFrameRejected frame sel => exact execSysFrameRejected_keeps frame sel s
  | sysPartialSelection received ready => exact execKeeps_next (.ite (.of_frame (sysp_frame s _) (by decide)) (.refl s))
  | sysCollectSelection clocked ready => exact execKeeps_next (.ite (.of_frame (sysp_frame s _) (by decide)) (.refl s))
  | openSwath id asks sel => exact engRequest_keeps fun t => .of_frame (actOpenSwath_frame id asks t) (by decide)
  | dropReport id temperature entries sel => exact engRequest_keeps fun t => actDropReport_keeps id temperature entries t
  | closeSwath id sel => exact engRequest_keeps fun t => actCloseSwath_keeps id t
  | purgeStart slot amount sel => exact engRequest_keeps fun t => .of_frame (actPurgeStart_frame slot amount t) (by decide)
  | purgeEnd slot actual sel => exact engRequest_keeps fun t => actPurgeEnd_keeps slot actual t
  | gateStatus sel => exact engReport_keeps s _ _ _ fun _ => rfl
  | engineRestart sel => exact engRequest_keeps fun t => .of_frame (restartEngine_frame t) (by decide)
  | engFrameRejected frame sel => exact execEngFrameRejected_keeps frame sel s
  | engPartialSelection received ready => exact execKeeps_next (.ite (.of_frame (engp_frame s _) (by decide)) (.refl s))
  | engCollectSelection clocked ready => exact execKeeps_next (.ite (.of_frame (engp_frame s _) (by decide)) (.refl s))
  | reportWatchdogExpiry => exact execReportWatchdogExpiry_keeps s
  | swathTimerExpiry id => exact execSwathTimerExpiry_keeps id s
  | purgeTimerExpiry slot => exact execPurgeTimerExpiry_keeps slot s
  | syncLowRunEnd lowNs => exact execKeeps_next (.ite (svl_keeps s _) (.refl s))
  | syncSamplesComplete first second third => exact execSyncSamplesComplete_keeps first second third s
  | ident => exact openCommand_keeps fun _ => rfl
  | slotDump => exact openCommand_keeps fun _ => rfl
  | historyDump => exact openCommand_keeps fun _ => rfl
  | storeCheck => exact execKeeps_next (.ite (svl_keeps s _) (.refl s))
  | storeCheckComplete => exact execStoreCheckComplete_keeps s
  | unlockA code => exact unlockFrame_keeps s _ _
  | unlockB code => exact unlockFrame_keeps s _ _
  | writeCal slot vS vM vL kappa => exact privileged_keeps (actWriteCal_keeps slot vS vM vL kappa)
  | lockCal mask => exact privileged_keeps (actLockCal_keeps mask)
  | writeColourMap colours => exact privileged_keeps (actWriteColourMap_keeps colours)
  | setRegion region => exact privileged_keeps (actSetRegion_keeps region)
  | writeFilter entry enabled offset mask expected chain invert action => exact privileged_keeps (actWriteFilter_keeps entry _)
  | clearHistory table scope serial => exact privileged_keeps (actClearHistory_keeps table scope serial)
  | loadKey index key => exact privileged_keeps (actLoadKey_keeps index key)
  | restart => exact privileged_keeps fun t => svl_keeps t _
  | svcFrameRejected frame => exact execSvcFrameRejected_keeps frame s
  | svcGapTimeout => exact execKeeps_next (.ite (svl_keeps s _) (.refl s))
  | svcReplyStart => exact execKeeps_next (.ite (svl_keeps s _) (.refl s))
  | svcReplySent => exact execKeeps_next (.ite (resetIfDue_keeps (svl_keeps s _)) (.refl s))
  | svcFramingError => exact execKeeps_next (lineError_keeps s)
  | svcCollision => exact execKeeps_next (.ite (lineError_keeps s) (.refl s))
  | toolBreak => exact execKeeps_next (lineError_keeps s)
  | svcBreakStart => exact execKeeps_next (.ite (svl_keeps s _) (.refl s))
  | svcBreakEnd => exact execKeeps_next (.ite (resetIfDue_keeps (svl_keeps s _)) (.refl s))
  | pfailNChange high => exact execPfailNChange_keeps high s
  | pfailAsserted => exact execKeeps_next (.ite (assertPfail_keeps s) (.refl s))
  | pfailWithdrawn => exact execKeeps_next (.ite (withdrawPfail_keeps s) (.refl s))
  | busFlushDrained => exact execKeeps_next (.ite (drainCheck_calm s).keeps (.refl s))
  | storeFlushComplete => exact execKeeps_next (.ite (.of_frame (storeFlushCheck_frame s) (by decide)) (.refl s))
  | writerStart => exact execWriterStart_keeps s
  | writeComplete => exact execWriteComplete_keeps s
  | powerOn => exact execPowerOn_keeps s
  | resetLineAsserted => exact execResetLineAsserted_keeps s
  | resetLineWithdrawn => exact execResetLineWithdrawn_keeps s
  | startUpLoadComplete => exact execStartUpLoadComplete_keeps s
  | powerLoss => exact execKeeps_next (.ite (.refl s) (losePower_keeps s))

theorem pending_frame (s : State) (l : List Instr) : OnlyChanges [.pending] s { s with pending := l } := by
  intro p hp; cases p <;> first | rfl | exact (hp (by decide)).elim

theorem step_keeps {s t : State} (h : step s = .next t) : Keeps s t := by
  unfold step at h
  split at h
  · exact (Keeps.of_frame (pending_frame s _) (by decide)).trans (exec_keeps _ _ t h)
  · cases h
    exact tick_keeps s

/-- Settles O16: every operation of the machine either leaves alone what the two invariants read (`Calm`), or keeps them by a
lemma of its own (`Keeps`); each command is made of such operations. -/
theorem everyStepKeepsAlertsAndLampsCoherent : Obligations.EveryStepKeepsAlertsAndLampsCoherent :=
  ⟨fun _ _ hs h => (step_keeps h).1 hs, fun _ _ hs h => (step_keeps h).2 hs⟩

end Sys2Proof.Machine
end

section
/-! The rules of requests, and the statements of tier 1: reset, presence, alerts and lamps, reports. -/

namespace Sys2Proof.Machine

/-! ### Requests of the system port -/

/-- A request whose action leaves the state as it is, with no body: it is refused (R149, 8.3). -/
theorem sysRequest_refused {s : State} {sel : Selection} {k : Byte} {len : Nat} {act : State → Answer} {st : Status}
    (hr : s.phase = .running) (h : act (reqState s sel len) = (reqState s sel len, st, [])) :
    ∃ t, (Host.Outcome.next (sysRequest s sel k len act) : Outcome) = .next t ∧ SysRefused s sel len k st t := by
  obtain ⟨t, ht, hf, he, hrep⟩ := sysRequest_next s sel k len act (ps := [.sysp]) hr (by decide) (by rw [h]; exact .refl _ _)
  rw [h] at he hrep
  have hs := congrArg State.sysp he
  have hsent : t.sysp.sent = (reqState s sel len).sysp.sent := congrArg (·.sent) hs
  refine ⟨t, ht, hf, hs.trans ?_, hrep⟩
  rw [hsent]; rfl

/-- A request whose action leaves the state as it is: its report is the reply, and nothing else changes. -/
theorem sysRequest_reports {s : State} {sel : Selection} {k : Byte} {len : Nat} {act : State → Answer} {st : Status} {body : List Byte}
    (hr : s.phase = .running) (h : act (reqState s sel len) = (reqState s sel len, st, body)) :
    ∃ t, (Host.Outcome.next (sysRequest s sel k len act) : Outcome) = .next t ∧ OnlyChanges [.sysp] s t ∧
      t.sysp.events = s.sysp.events ∧ SysReplied (holderMet s sel len) k st body t := by
  obtain ⟨t, ht, hf, he, hrep⟩ := sysRequest_next s sel k len act (ps := [.sysp]) hr (by decide) (by rw [h]; exact .refl _ _)
  rw [h] at he hrep
  have hev : t.sysp.events = (reqState s sel len).sysp.events := congrArg (·.sysp.events) he
  exact ⟨t, ht, hf, hev, hrep⟩

/-- A request for a slot outside 0..9 is refused with RANGE (8.3). -/
theorem forSlot_refused {s : State} {slot : Byte} {sel : Selection} {k : Byte} {len : Nat} {act : SlotId → State → Answer}
    (hr : s.phase = .running) (h : slotOf slot = none) :
    ∃ t, (Host.Outcome.next (sysRequest s sel k len (forSlot slot act)) : Outcome) = .next t ∧ SysRefused s sel len k .range t :=
  sysRequest_refused hr (forSlot_none h _ _)

/-! ### The part after a full reset -/

/-- Settles O7. -/
theorem resetLeavesNothingVolatile : Obligations.ResetLeavesNothingVolatile := by
  refine ⟨fun n => ?_, rfl, rfl, rfl, rfl, rfl, rfl, rfl, rfl, rfl, rfl, rfl, rfl, rfl, rfl, rfl, fun p => ?_, rfl, rfl, rfl, rfl, rfl,
    rfl, rfl, rfl, rfl, rfl, by decide, fun r => ?_, rfl⟩
  · rw [reset_slot, reset_identity, reset_account]
    refine ⟨rfl, rfl, rfl, rfl, rfl, rfl, rfl, rfl, rfl, rfl, ?_, ?_⟩
    · revert n; decide
    · revert n; decide
  · have hp : State.reset.phase ≠ .running := nofun
    exact ⟨portDo_out_of_service hp _ p, portDo_out_of_service hp _ p⟩
  · show (Vector.replicate 118 Stored.blank)[r] = .blank
    simp

theorem fullReset_blocksReset {s : State} {ph : Phase} (hp : ph ≠ .running) : BlocksReset s (fullReset s ph) := by
  refine ⟨rfl, rfl, rfl, rfl, rfl, rfl, reset_identity, rfl, rfl, rfl, rfl, fun r => ?_, rfl, rfl, rfl, fun p => ?_⟩
  · show (Vector.replicate 118 false)[r] = false
    simp
  · exact ⟨portDo_out_of_service (s := fullReset s ph) hp _ p, portDo_out_of_service (s := fullReset s ph) hp _ p⟩

theorem breakRecord_stored {s : State} {w : Fin 118 × Contents} (h : s.sto.writer = some w) :
    (breakRecord s).sto.stored = put s.sto.stored w.1 .broken := by
  simp [breakRecord, carriedWrite, h]

theorem breakRecord_idle {s : State} (hw : s.sto.writer = none) (hc : s.sto.carried = none) : breakRecord s = s := by
  simp [breakRecord, carriedWrite, hw, hc]

theorem losePower_blocksReset (s : State) : BlocksReset s (losePower s) := by
  have hdraws : (breakRecord s).draws = s.draws := breakRecord_frame s .draws (by decide)
  have h : BlocksReset (breakRecord s) (losePower s) := fullReset_blocksReset nofun
  unfold BlocksReset at h ⊢
  rwa [hdraws] at h

/-- Settles O59. -/
theorem resetsAndPowerLoss : Obligations.ResetsAndPowerLoss := by
  intro s
  refine ⟨fun hp => ⟨resetNow s, ?_, fullReset_blocksReset ?_, rfl, rfl, rfl, rfl⟩, fun hp hl => ?_, fun hp => ?_, fun hp => ?_⟩
  · show Host.Outcome.next _ = _
    rw [if_pos hp]
  · unfold resetPhase
    split <;> nofun
  · refine ⟨fullReset { s with lines := { s.lines with resetN := false } } .resetHeld, ?_, fullReset_blocksReset nofun, rfl, rfl,
      rfl, rfl, fun hw => ?_⟩
    · show Host.Outcome.next _ = _
      rw [if_neg (by rw [hl]; decide), if_neg hp]
    · obtain ⟨w, hw⟩ := Option.isSome_iff_exists.1 hw
      show carriedWrite s = s.sto.writer
      rw [carriedWrite, hw]
  · show Host.Outcome.next _ = _
    rw [if_pos hp]
  · refine ⟨losePower s, ?_, losePower_blocksReset s, rfl, breakRecord_frame s .lines (by decide),
      breakRecord_frame s .pending (by decide), fun r c hw => breakRecord_stored hw, fun hw hc => ?_⟩
    · show Host.Outcome.next _ = _
      rw [if_neg hp]
    · show (breakRecord s).sto.stored = _
      rw [breakRecord_idle hw hc]

/-! ### Presence (R3) -/

/-- The filtered presence of a slot and its timer are as they were. -/
def SameSense (n : SlotId) (s t : State) : Prop :=
  t.slots[n].present = s.slots[n].present ∧ t.slots[n].presenceTimer = s.slots[n].presenceTimer

theorem SameSense.trans {n : SlotId} {s t u : State} (h : SameSense n s t) (k : SameSense n t u) : SameSense n s u :=
  ⟨k.1.trans h.1, k.2.trans h.2⟩

theorem SameSense.of_slots {n : SlotId} {s t : State} (h : t.slots = s.slots) : SameSense n s t := by
  rw [SameSense, h]; exact ⟨rfl, rfl⟩

theorem moveSlot_sense (s : State) (n : SlotId) (st : SlotState) : SameSense n s (moveSlot s n st) := by
  rw [SameSense, moveSlot_same]; exact ⟨rfl, rfl⟩

theorem changeState_sense (s : State) (n : SlotId) (st : SlotState) : SameSense n s (changeState s n st) :=
  (moveSlot_sense s n st).trans (.of_slots (changeState_slots s n st))

theorem raiseAlert_same (s : State) (n : SlotId) (c : AlertCode) (v : Option Word) :
    (raiseAlert s n c v).slots[n] = match s.slots[n].alert with
      | none => { s.slots[n] with alert := some c, alertCount := 0 }
      | some _ => { s.slots[n] with alertCount := min 15 (s.slots[n].alertCount + 1) } := modSlot_same s n _

theorem raiseAlert_sense (s : State) (n : SlotId) (c : AlertCode) (v : Option Word) : SameSense n s (raiseAlert s n c v) := by
  rw [SameSense, raiseAlert_same]
  cases s.slots[n].alert <;> exact ⟨rfl, rfl⟩

theorem startReading_sense (s : State) (n : SlotId) : SameSense n s (startReading s n) :=
  (changeState_sense s n _).trans (.of_slots (placeAdmission_frame _ _ _ .slots (by decide)))

theorem insertion_sense (s : State) (n : SlotId) : SameSense n s (insertion s n) := by
  have h := changeState_sense s n .seated
  unfold insertion
  dsimp only
  split
  · exact h.trans (startReading_sense _ n)
  · exact h

theorem clearSlot_same (s : State) (n : SlotId) : (clearSlot s n).slots[n] = { s.slots[n] with target := .online } :=
  modSlot_same (setIdentity s n none) n _

theorem clearSlot_others (s : State) (n : SlotId) : OtherSlotsKept n s (clearSlot s n) := modSlot_others (setIdentity s n none) n _

theorem vacated_sense (s : State) (n : SlotId) (due : Bool) : SameSense n s (vacated s n due) := by
  have hc : SameSense n s (clearSlot s n) := by rw [SameSense, clearSlot_same]; exact ⟨rfl, rfl⟩
  have hm := hc.trans (moveSlot_sense _ n .vacant)
  unfold vacated
  split
  · exact hm.trans (raiseAlert_sense _ n _ _)
  · exact hm

theorem vacated_others (s : State) (n : SlotId) (due : Bool) : OtherSlotsKept n s (vacated s n due) := by
  have hm := (clearSlot_others s n).trans (moveSlot_others _ n .vacant)
  exact .ite (hm.trans (raiseAlert_others _ n _ _)) hm

theorem removal_sense (s : State) (n : SlotId) : SameSense n s (removal s n) := by
  rw [removal_eq]
  exact (SameSense.of_slots (endSlotWork_slots s n)).trans (vacated_sense _ n _)

theorem removal_others (s : State) (n : SlotId) : OtherSlotsKept n s (removal s n) := by
  rw [removal_eq]
  exact (OtherSlotsKept.of_eq (endSlotWork_slots s n)).trans (vacated_others _ n _)

theorem senseSlot_same (s : State) (n : SlotId) (high : Bool) :
    (senseSlot s n high).slots[n] = { s.slots[n] with present := high, presenceTimer := none } := modSlot_same s n _

/-- The expiry as it goes on: an insertion, a removal, or neither (R3, R4, R11). -/
theorem execPresenceTimerExpiry_cases {s : State} {n : SlotId} (hr : s.phase = .running) (ht : s.slots[n].presenceTimer.isSome = true) :
    ∃ t, exec (.presenceTimerExpiry n) s = .next t ∧
      (t = insertion (senseSlot s n s.lines.presence[n]) n ∨ t = removal (senseSlot s n s.lines.presence[n]) n ∨
        t = senseSlot s n s.lines.presence[n]) := by
  refine ⟨_, execPresenceTimerExpiry_eq n s, ?_⟩
  rw [if_pos ⟨hr, ht⟩]
  split
  · exact .inl rfl
  · split
    · exact .inr (.inl rfl)
    · exact .inr (.inr rfl)

/-- Settles O20. -/
theorem thePresenceFilterFollowsTheLine : Obligations.ThePresenceFilterFollowsTheLine := by
  intro s n hr
  refine ⟨fun high hl => ?_, fun ht => ?_⟩
  · show Host.Outcome.next _ = _
    rw [if_neg hl]
    dsimp only
    rw [if_pos hr]
    cases high <;> rfl
  · obtain ⟨t, hx, ht⟩ := execPresenceTimerExpiry_cases hr ht
    have key (u : State) (hu : SameSense n (senseSlot s n s.lines.presence[n]) u)
        (ho : OtherSlotsKept n (senseSlot s n s.lines.presence[n]) u) :
        u.slots[n].present = s.lines.presence[n] ∧ u.slots[n].presenceTimer = none ∧ OtherSlotsKept n s u := by
      rw [SameSense, senseSlot_same] at hu
      exact ⟨hu.1, hu.2, (modSlot_others s n _).trans ho⟩
    refine ⟨t, hx, ?_⟩
    obtain rfl | rfl | rfl := ht
    · exact key _ (insertion_sense _ n) (insertion_others _ n)
    · exact key _ (removal_sense _ n) (removal_others _ n)
    · exact key _ ⟨rfl, rfl⟩ (.refl n _)

/-! ### Alerts and lamps (R19, R21, R22) -/

theorem ne_of_toNat_lt {b c : Byte} (h : c.toNat < b.toNat) : b ≠ c := fun e => absurd (e ▸ h) (Nat.lt_irrefl _)

theorem lampPattern_ofCode_none {b : Byte} (h : 4 < b.toNat) : LampPattern.ofCode b = none := by
  have hne (c : Byte) (hc : c.toNat ≤ 4) : b ≠ c := ne_of_toNat_lt (by omega)
  rw [LampPattern.ofCode, if_neg (hne 0 (by decide)), if_neg (hne 1 (by decide)), if_neg (hne 2 (by decide)),
    if_neg (hne 3 (by decide)), if_neg (hne 4 (by decide))]

theorem lampLine_dark {s : State} (n : SlotId) (ho : s.phase ≠ .off) (hr : s.phase ≠ .running) : lampLine s n = some true := by
  simp [lampLine, lampLit, ho, hr]

/-- A lamp line in service is low exactly in a lit interval (R21). -/
theorem lampLine_shows {s : State} {n : SlotId} (hr : s.phase = .running) {x : Bool × Nat}
    (hx : s.slots[n].shown.cycle[s.slots[n].lampPhase]? = some x) : lampLine s n = some !x.1 := by
  rw [lampLine, if_neg (by rw [hr]; nofun), lampLit, hx, hr]
  rfl

/-- The five patterns at the beginning of their cycles: all lit but OFF (R21). -/
theorem cycle_start (p : LampPattern) : ∃ x, p.cycle[0]? = some x ∧ x.1 = decide (p ≠ .off) := by
  cases p <;> exact ⟨_, rfl, rfl⟩

/-- A request that changes its slot's record alone. -/
theorem sysRequest_modSlot {s : State} {slot : Byte} {n : SlotId} {sel : Selection} {k : Byte} {len : Nat} {act : SlotId → State → Answer}
    {f : SlotRec → SlotRec} (hr : s.phase = .running) (hn : slotOf slot = some n) (h : ∀ t, act n t = (modSlot t n f, .ok, [])) :
    ∃ t, (Host.Outcome.next (sysRequest s sel k len (forSlot slot act)) : Outcome) = .next t ∧ OnlyChanges [.slots, .sysp] s t ∧
      t.slots = upd s.slots n f ∧ t.sysp.events = s.sysp.events ∧ SysReplied (holderMet s sel len) k .ok [] t := by
  have ha : forSlot slot act (reqState s sel len) = (modSlot (reqState s sel len) n f, .ok, []) := by rw [forSlot_some hn, h]
  obtain ⟨t, ht, hf, he, hrep⟩ := sysRequest_next s sel k len (forSlot slot act) (ps := [.slots, .sysp]) hr (by decide)
    (by rw [ha]; exact (modSlot_frame _ _ _).mono (by decide))
  rw [ha] at he hrep
  have hslots : t.slots = (modSlot (reqState s sel len) n f).slots := congrArg (·.slots) he
  have hev : t.sysp.events = (reqState s sel len).sysp.events := congrArg (·.sysp.events) he
  exact ⟨t, ht, hf, hslots, hev, hrep⟩

theorem lampLine_overridden {s t : State} {n : SlotId} {p : LampPattern} (hr : t.phase = .running)
    (ht : t.slots = upd s.slots n fun r => { r with override := some p, shown := p, lampPhase := 0 }) :
    lampLine t n = some (decide (p = .off)) := by
  obtain ⟨x, hx, hlit⟩ := cycle_start p
  have hslot : t.slots[n] = { s.slots[n] with override := some p, shown := p, lampPhase := 0 } := by rw [ht, upd_same]
  rw [lampLine_shows hr (x := x) (by rw [hslot]; exact hx), hlit]
  simp

/-- Settles O23. -/
theorem alertsAndLampsAreSetAsAsked : Obligations.AlertsAndLampsAreSetAsAsked := by
  refine ⟨⟨rfl, rfl, rfl, rfl, rfl⟩, fun s n => ⟨lampLine_dark n, fun hr x hx => ?_⟩, fun s slot sel hr => ⟨fun hn => ?_, fun n hn => ?_⟩⟩
  · rw [lampLine_shows hr hx]
    exact ⟨fun h => by rw [h]; rfl, fun h => by rw [h]; rfl⟩
  · exact ⟨forSlot_refused hr hn, fun _ => forSlot_refused hr hn⟩
  · refine ⟨sysRequest_modSlot hr hn fun _ => rfl, fun pattern p hp => ?_, fun pattern h => ?_, ?_⟩
    · obtain ⟨t, ht, hf, hslots, hev, hrep⟩ := sysRequest_modSlot (sel := sel) (k := 0x09) (len := 2) (act := actSetLamp pattern)
        (f := fun r => { r with override := some p, shown := p, lampPhase := 0 }) hr hn fun t => by simp [actSetLamp, hp]
      exact ⟨t, ht, hf, hslots, lampLine_overridden ((hf .phase (by decide)).trans hr) hslots, hev, hrep⟩
    · refine sysRequest_refused hr ?_
      rw [forSlot_some hn, actSetLamp, lampPattern_ofCode_none h]
    · show Host.Outcome.next _ = _
      rw [if_pos hr]
      rfl

/-! ### Reports (R24, R104, R146) -/

theorem histTable_ofCode_none {b : Byte} (h : 1 < b.toNat) : HistTable.ofCode b = none := by
  have hne (c : Byte) (hc : c.toNat ≤ 1) : b ≠ c := ne_of_toNat_lt (by omega)
  rw [HistTable.ofCode, if_neg (hne 0 (by decide)), if_neg (hne 1 (by decide))]

theorem actHistoryRead_seen {index : Byte} {p : Fin 32} (h : index.toNat = p.val) (s : State) :
    actHistoryRead 0 index s = (s, .ok, seenFields s.his.seen[p]) := by
  obtain ⟨i, hi⟩ := p
  dsimp only at h
  subst h
  exact dif_pos hi

theorem actHistoryRead_retired {index : Byte} (h : index.toNat < 64) (s : State) :
    actHistoryRead 1 index s = (s, .ok, retiredFields (retiredInOrder s.his.retired)[index.toNat]?) := if_pos h

theorem actHistoryRead_refused {table index : Byte} (h : 1 < table.toNat ∨ table = 0 ∧ 31 < index.toNat ∨ table = 1 ∧ 63 < index.toNat)
    (s : State) : actHistoryRead table index s = (s, .range, []) := by
  obtain h | ⟨rfl, h⟩ | ⟨rfl, h⟩ := h
  · rw [actHistoryRead, histTable_ofCode_none h]
  · exact dif_neg (by omega)
  · exact if_neg (by omega)

/-- Settles O27. -/
theorem systemQueriesReportAndChangeNothing : Obligations.SystemQueriesReportAndChangeNothing := by
  intro s sel hr
  refine ⟨fun slot hn => ⟨forSlot_refused hr hn, forSlot_refused hr hn⟩, fun slot n hn => ⟨?_, fun a ha => ?_, fun ha => ?_⟩, ?_,
    fun index p h => ?_, fun index h => ?_, fun table index h => ?_⟩
  · exact sysRequest_reports hr (forSlot_some hn _ _)
  · refine sysRequest_reports hr ((forSlot_some hn _ _).trans ?_)
    have : (reqState s sel 1).accounts[n] = some a := ha
    rw [actAccountStats, this]
    rfl
  · refine sysRequest_refused hr ((forSlot_some hn _ _).trans ?_)
    have : (reqState s sel 1).accounts[n] = none := ha
    rw [actAccountStats, this]
  · exact sysRequest_reports hr rfl
  · exact sysRequest_reports hr (actHistoryRead_seen h _)
  · exact sysRequest_reports hr (actHistoryRead_retired h _)
  · exact sysRequest_refused hr (actHistoryRead_refused h _)

end Sys2Proof.Machine
end

section
/-! The rules of the arbiter that admissions rest on (R46, R64, R65), of the gate lines (R107), and the requests that move a
slot (O21, O24, O25, O26). -/

namespace Sys2Proof.Machine

/-! ### The arbiter (R64, R65) -/

theorem startTransaction_queue (s : State) (n : SlotId) (c : TxCommand) : (startTransaction s n c).cbc.queue = s.cbc.queue := by
  unfold startTransaction
  split
  · split
    · rfl
    · next h => rw [beginAttempt_queue, show _ = s.cbc from addUsedBody_frame h .cbc (by decide)]
  · split
    · unfold unbuiltChallenge releaseContext
      dsimp only
      split <;> rfl
    · next h => rw [beginAttempt_queue, (startChallenge_identity h).2.1]
  · rw [beginAttempt_queue]
  · rw [beginAttempt_queue]

theorem startTransaction_readId (s : State) (n : SlotId) :
    startTransaction s n (.admission .readId) = beginAttempt s (newTransaction n (.admission .readId) []) := rfl

/-- An admission step that can be built stays at work whatever the arbiter starts. -/
theorem arbitrateUpTo_step {n : SlotId} {step : AdmissionStep} (k : Nat) (s : State)
    (hid : step = .challenge → s.prf.identity[n].isSome = true) (h : (n, step) ∈ admissionWork s) :
    (n, step) ∈ admissionWork (arbitrateUpTo k s) := by
  induction k generalizing s with
  | zero => exact h
  | succ k ih =>
    by_cases hl : s.cbc.line.isSome = true
    · rw [arbitrateUpTo_busy _ _ hl]; exact h
    · rw [arbitrateUpTo, if_neg hl]
      split
      · exact h
      · next m c q hq =>
        refine ih _ (by rw [startTransaction_identity]; exact hid) ?_
        rw [admissionWork_free (by simpa using hl), (nextEntry_work hq).mem_iff, List.mem_append, Option.mem_toList] at h
        rw [admissionWork_view, startTransaction_queue, List.mem_append, Option.mem_toList]
        refine h.imp (fun hv => ?_) id
        cases c with
        | admission step' =>
          obtain ⟨rfl, rfl⟩ := Prod.mk.inj (Option.some.inj hv)
          cases step' with
          | readId => rw [startTransaction_readId, beginAttempt_view]; rfl
          | challenge =>
            obtain ⟨body, t, ht⟩ := startChallenge_isSome (s := { s with cbc := { s.cbc with queue := q } }) true (hid rfl)
            simp only [startTransaction, ht]
            rw [beginAttempt_view]; rfl
        | writeBack op => cases hv
        | readArea o l tag => cases hv

theorem arbitrate_step {n : SlotId} {step : AdmissionStep} {s : State} (hid : step = .challenge → s.prf.identity[n].isSome = true)
    (h : (n, step) ∈ admissionWork s) : (n, step) ∈ admissionWork (arbitrate s) := arbitrateUpTo_step _ s hid h

/-- With no entry that may be served the arbiter starts nothing. -/
theorem arbitrateUpTo_idle (k : Nat) {s : State} (h : nextEntry s.cbc.flush s.cbc.queue = none) : arbitrateUpTo k s = s := by
  cases k with
  | zero => rfl
  | succ k => rw [arbitrateUpTo, h]; exact ite_self s

theorem arbitrate_idle {s : State} (h : nextEntry s.cbc.flush s.cbc.queue = none) : arbitrate s = s := arbitrateUpTo_idle _ h

theorem arbitrate_emptyQueue {s : State} (h : s.cbc.queue = []) : arbitrate s = s := by
  refine arbitrate_idle ?_
  rw [h]
  cases s.cbc.flush <;> rfl

theorem splitAddUsed_none {q : List QEntry} (h : ∀ (m : SlotId) (l : List WbOp), QEntry.writeBack m l ∈ q → WbOp.addUsed ∉ l) :
    splitAddUsed q = none := by
  induction q with
  | nil => rfl
  | cons e q ih =>
    have hq := ih fun m l hm => h m l (List.mem_cons_of_mem _ hm)
    cases e with
    | admission m step => rw [splitAddUsed, hq]; exacts [rfl, nofun]
    | passThrough m o l tag => rw [splitAddUsed, hq]; exacts [rfl, nofun]
    | writeBack m ops =>
      rw [splitAddUsed, if_neg (by simpa using h m ops List.mem_cons_self), hq]; rfl

/-- The next attempt drives the break that is owed before anything else (R46). -/
def BreakFirst (c : Cbc) : Prop := c.breakOwed = true ∧ ∀ u, c.line = some u → u.action = .breaking

theorem beginAttempt_breakFirst {s : State} (h : s.cbc.breakOwed = true) (tx : Transaction) : BreakFirst (beginAttempt s tx).cbc := by
  rw [beginAttempt, if_pos h]
  refine ⟨h, ?_⟩
  rintro u ⟨⟩
  rfl

theorem startTransaction_breakFirst {s : State} (h : s.cbc.breakOwed = true) (hl : s.cbc.line = none) (n : SlotId) (c : TxCommand) :
    BreakFirst (startTransaction s n c).cbc := by
  have hbegin {t : State} (ht : t.cbc = s.cbc) (tx : Transaction) : BreakFirst (beginAttempt t tx).cbc :=
    beginAttempt_breakFirst (by rw [ht]; exact h) tx
  unfold startTransaction
  split
  · split
    · exact ⟨h, by rw [hl]; nofun⟩
    · next ha => exact hbegin (addUsedBody_frame ha .cbc (by decide)) _
  · split
    · exact ⟨rfl, nofun⟩
    · next hc => exact hbegin (startChallenge_identity hc).2.1 _
  · exact hbegin rfl _
  · exact hbegin rfl _

theorem arbitrateUpTo_breakFirst (k : Nat) (s : State) (h : BreakFirst s.cbc) : BreakFirst (arbitrateUpTo k s).cbc := by
  induction k generalizing s with
  | zero => exact h
  | succ k ih =>
    by_cases hl : s.cbc.line.isSome = true
    · rw [arbitrateUpTo_busy _ _ hl]; exact h
    · rw [arbitrateUpTo, if_neg hl]
      split
      · exact h
      · next n c q hq =>
        exact ih _ (startTransaction_breakFirst (s := { s with cbc := { s.cbc with queue := q } }) h.1 (by simpa using hl) n c)

theorem arbitrate_breakFirst {s : State} (h : BreakFirst s.cbc) : BreakFirst (arbitrate s).cbc := arbitrateUpTo_breakFirst _ s h

/-! ### An admission placed (R61, R64) -/

theorem placeAdmission_readId (s : State) (n : SlotId) : (n, AdmissionStep.readId) ∈ admissionWork (placeAdmission s n .readId) := by
  refine arbitrate_step nofun ?_
  rw [admissionWork_view, List.mem_append]
  exact .inr (List.mem_filterMap.2 ⟨_, List.mem_append_right _ List.mem_cons_self, rfl⟩)

/-- In flush mode with no ADD_USED waiting an admission step only joins the tail (R65). -/
theorem placeAdmission_flush {s : State} (hf : s.cbc.flush = true)
    (hq : ∀ (m : SlotId) (l : List WbOp), QEntry.writeBack m l ∈ s.cbc.queue → WbOp.addUsed ∉ l) (n : SlotId) (step : AdmissionStep) :
    placeAdmission s n step = withEntry s (.admission n step) := by
  refine arbitrate_idle ?_
  show nextEntry s.cbc.flush (s.cbc.queue ++ [.admission n step]) = none
  rw [nextEntry, if_pos hf, oldestAddUsed, splitAddUsed_none fun m l hm => ?_]
  · rfl
  · rcases List.mem_append.1 hm with hm | hm
    · exact hq m l hm
    · cases List.mem_singleton.1 hm

/-- On a free line with nothing waiting, in normal service, an admission's READ_ID begins at once (R64). -/
theorem placeAdmission_free {s : State} (hl : s.cbc.line = none) (hq : s.cbc.queue = []) (hf : s.cbc.flush = false) (n : SlotId) :
    placeAdmission s n .readId = beginAttempt s (newTransaction n (.admission .readId) []) := by
  have hs : ({ s with cbc := { s.cbc with queue := [] } } : State) = s := by
    obtain ⟨_, _, _, _, _, _, ⟨_, _, _, _, _, _⟩, _⟩ := s
    cases hq; rfl
  unfold placeAdmission joinQueue arbitrate
  rw [hq]
  show arbitrateUpTo 1 _ = _
  rw [arbitrateUpTo, if_neg (by rw [hl]; decide), hf]
  show startTransaction { s with cbc := { s.cbc with queue := [] } } n (.admission .readId) = _
  rw [hs, startTransaction_readId]

theorem beginAttempt_begun (s : State) (n : SlotId) (c : TxCommand) (body : List Byte) :
    Begun (beginAttempt s (newTransaction n c body)) n c body := by
  unfold beginAttempt messageReady
  split
  · exact ⟨_, rfl, rfl, rfl, rfl, rfl, rfl, rfl⟩
  · dsimp only
    split <;> exact ⟨_, rfl, rfl, rfl, rfl, rfl, rfl, rfl⟩

/-! ### The gate lines (R107) -/

/-- Only a READY slot's gate may be high. -/
theorem gateCondition_low {s : State} {n : SlotId} (h : s.slots[n].state ≠ .ready) : gateCondition s n = false := by
  rw [gateCondition, decide_eq_false h]
  rfl

/-- The gate condition reads of an account whether it feeds the heads, and no more. -/
theorem gateCondition_feeds {s t : State} (n : SlotId) (hs : t.slots[n].state = s.slots[n].state)
    (ha : t.accounts[n].map feeds = s.accounts[n].map feeds) (hp : t.sto.power = s.sto.power) (he : t.engp.expired = s.engp.expired) :
    gateCondition t n = gateCondition s n := by
  simp only [gateCondition, pfailAsserted, hs, ha, hp, he]

theorem moveSlot_engp (s : State) (n : SlotId) (st : SlotState) :
    (moveSlot s n st).engp = { s.engp with gates := put s.engp.gates n (gateCondition (moveSlot s n st) n) } := by
  have hset (u : State) : gateCondition (reevalGate u n) n = gateCondition u n := gateCondition_feeds n rfl rfl rfl rfl
  unfold moveSlot
  dsimp only
  rw [hset]
  rfl

/-- A slot that is not READY after its move has its gate low. -/
theorem moveSlot_engp_low (s : State) (n : SlotId) {st : SlotState} (h : st ≠ .ready) :
    (moveSlot s n st).engp = { s.engp with gates := put s.engp.gates n false } := by
  rw [moveSlot_engp, gateCondition_low (by rw [moveSlot_state]; exact h)]

theorem moveSlot_sysp (s : State) (n : SlotId) (st : SlotState) :
    (moveSlot s n st).sysp = (postEvent s .slotState (slotByte n) st.code (stateValue st)).sysp := rfl

theorem sent_headroom {a b : Account} (h : Sent a b) : headroom b = headroom a := by
  obtain ⟨-, -, -, m, -, hm, rfl⟩ := h
  simp only [headroom, consumedView]
  omega

theorem sent_feeds {a b : Account} (h : Sent a b) : feeds b = feeds a := by
  have hm : b.metered = a.metered := by
    obtain ⟨-, -, -, m, -, -, rfl⟩ := h
    rfl
  rw [feeds, feeds, sent_headroom h, hm]

theorem arbitrate_feeds (s : State) (m : SlotId) : (arbitrate s).accounts[m].map feeds = s.accounts[m].map feeds := by
  rcases arbitrate_accounts s with h | ⟨-, -, n, a, b, ha, hs, h⟩
  · rw [h]
  · rw [h]
    exact put_map_eq _ _ _ _ _ (by rw [ha, Option.map_some, Option.map_some, sent_feeds hs])

theorem spentCheck_feeds (s : State) (n m : SlotId) : (spentCheck s n).accounts[m].map feeds = s.accounts[m].map feeds := by
  unfold spentCheck
  split
  · show (upd s.accounts n _)[m].map feeds = _
    rw [upd_get]
    split
    · next h => subst h; rw [Option.map_map]; rfl
    · rfl
  · rfl

theorem changeState_feeds (s : State) (n : SlotId) (st : SlotState) (m : SlotId) :
    (changeState s n st).accounts[m].map feeds = s.accounts[m].map feeds := by
  unfold changeState
  dsimp only
  split
  · rw [spentCheck_feeds, requestAddUsed_frame _ n .accounts (by decide)]; rfl
  · rfl

theorem changeState_engp (s : State) (n : SlotId) (st : SlotState) : (changeState s n st).engp = (moveSlot s n st).engp := by
  unfold changeState
  dsimp only
  split
  · rw [spentCheck_frame _ n .engp (by decide), requestAddUsed_frame _ n .engp (by decide)]
  · rfl

/-- A slot that changes its state leaves its gate line as the condition says (R20, R107). -/
theorem changeState_gateFollows (s : State) (n : SlotId) (st : SlotState) : GateFollows n s (changeState s n st) := by
  refine ⟨?_, fun m hm => ?_⟩
  · have hg : gateCondition (changeState s n st) n = gateCondition (moveSlot s n st) n :=
      gateCondition_feeds n (by rw [changeState_slots]) (changeState_feeds s n st n)
        (by rw [changeState_frame s n st .sto (by decide)]; rfl) (by rw [changeState_engp])
    rw [hg, changeState_engp, moveSlot_engp]
    exact put_same _ _ _
  · rw [changeState_engp, moveSlot_engp]
    exact put_other _ _ _ _ hm

/-- The arbiter leaves the gate lines, and what they follow, alone. -/
theorem GateFollows.arbitrateIfJoined {s t : State} {n : SlotId} (h : GateFollows n s t) (u : State) :
    GateFollows n s (arbitrateIfJoined u t) := by
  unfold Machine.arbitrateIfJoined
  split
  · exact h
  · have hf := arbitrate_frame t
    have hengp : (arbitrate t).engp = t.engp := hf .engp (by decide)
    refine ⟨?_, fun m hm => ?_⟩
    · rw [hengp, h.1]
      exact (gateCondition_feeds n (by rw [hf .slots (by decide)]) (arbitrate_feeds t n) (by rw [hf .sto (by decide)])
        (by rw [hengp])).symm
    · rw [hengp, h.2 m hm]

/-! ### An admission started (R4 to R7) -/

theorem startReading_slots (s : State) (n : SlotId) : (startReading s n).slots = (moveSlot s n .reading).slots :=
  placeAdmission_frame _ n _ .slots (by decide)

theorem startReading_state (s : State) (n : SlotId) : (startReading s n).slots[n].state = .reading := by
  rw [startReading_slots, moveSlot_state]

theorem startReading_sysp (s : State) (n : SlotId) :
    (startReading s n).sysp = (postEvent s .slotState (slotByte n) 2 none).sysp := placeAdmission_frame _ n _ .sysp (by decide)

theorem startReading_engp (s : State) (n : SlotId) :
    (startReading s n).engp = { s.engp with gates := put s.engp.gates n false } := by
  rw [startReading_eq, placeAdmission_frame _ n _ .engp (by decide), moveSlot_engp_low s n (st := .reading) nofun]

theorem startReading_readId (s : State) (n : SlotId) : (n, AdmissionStep.readId) ∈ admissionWork (startReading s n) :=
  placeAdmission_readId _ n

/-- A READ_ID that only joins the tail of the queue. -/
theorem startReading_joins {s : State} {n : SlotId}
    (h : s.cbc.line.isSome = true ∨ s.cbc.flush = true ∧
      ∀ (m : SlotId) (l : List WbOp), QEntry.writeBack m l ∈ s.cbc.queue → WbOp.addUsed ∉ l) :
    startReading s n = withEntry (moveSlot s n .reading) (.admission n .readId) :=
  h.elim (fun hl => placeAdmission_busy (s := moveSlot s n .reading) hl n _)
    fun hf => placeAdmission_flush (s := moveSlot s n .reading) hf.1 hf.2 n _

theorem startReading_begins {s : State} (n : SlotId) (hl : s.cbc.line = none) (hq : s.cbc.queue = []) (hf : s.cbc.flush = false) :
    startReading s n = beginAttempt (moveSlot s n .reading) (newTransaction n (.admission .readId) []) :=
  placeAdmission_free (s := moveSlot s n .reading) hl hq hf n

/-- On a busy line the step joins the tail of the queue and the bus is else as it was. -/
theorem startReading_cbc_busy {s : State} (n : SlotId) (hl : s.cbc.line.isSome = true) :
    (startReading s n).cbc = { s.cbc with queue := s.cbc.queue ++ [.admission n .readId] } := by
  rw [startReading_joins (.inl hl)]; rfl

/-- On a free line with nothing waiting, in normal service, READ_ID is begun. -/
theorem startReading_begun {s : State} (n : SlotId) (hl : s.cbc.line = none) (hq : s.cbc.queue = []) (hf : s.cbc.flush = false) :
    (startReading s n).cbc.queue = [] ∧ Begun (startReading s n) n (.admission .readId) [] := by
  rw [startReading_begins n hl hq hf]
  exact ⟨(beginAttempt_queue _ _).trans hq, beginAttempt_begun _ n _ _⟩

/-- A slot record taken to READING: its state and lamp change, its target and alert stay. -/
theorem startReading_same (s : State) (n : SlotId) :
    (startReading s n).slots[n].shown = .blinkSlow ∧ (startReading s n).slots[n].target = s.slots[n].target ∧
      (startReading s n).slots[n].alert = s.slots[n].alert := by
  rw [startReading_slots, moveSlot_same]
  exact ⟨rfl, rfl, rfl⟩

end Sys2Proof.Machine
end

section
/-! An insertion, SET_SLOT_MODE, ADMIT, RETRY, PARK and UNPARK (R4 to R7, R13, R14, R17). -/

namespace Sys2Proof.Machine

/-! ### Requests that act -/

/-- A request leaves what its action leaves, with its reply placed and nothing else changed (R150 to R152). -/
theorem sysRequest_acts {ps : List Part} {s u : State} {sel : Selection} {k : Byte} {len : Nat} {act : State → Answer} {st : Status}
    {body : List Byte} (hr : s.phase = .running) (ha : act (reqState s sel len) = (u, st, body)) (hm : .sysp ∈ ps)
    (hf : OnlyChanges ps (reqState s sel len) u) :
    ∃ t, (Host.Outcome.next (sysRequest s sel k len act) : Outcome) = .next t ∧ OnlyChanges ps s t ∧
      SysReplied (holderMet s sel len) k st body t ∧ OnlyChanges [.sysp] u t ∧ t.sysp = { u.sysp with holder := t.sysp.holder } := by
  obtain ⟨t, ht, hf, he, hrep⟩ := sysRequest_next s sel k len act hr hm (by rw [ha]; exact hf)
  rw [ha] at he hrep
  refine ⟨t, ht, hf, hrep, ?_, congrArg State.sysp he⟩
  rw [he]
  exact sysp_frame u _

theorem OtherSlotsKept.of_sysp {n : SlotId} {s u t : State} (h : OtherSlotsKept n s u) (hf : OnlyChanges [.sysp] u t) :
    OtherSlotsKept n s t := h.trans (.of_frame hf (by decide))

theorem admissionWork_of_frame {s t : State} {ps : List Part} (h : OnlyChanges ps s t) (hc : .cbc ∉ ps) :
    admissionWork t = admissionWork s := by
  have hcbc : t.cbc = s.cbc := h .cbc hc
  exact admissionWork_congr (by rw [hcbc]) (by rw [hcbc])

theorem Begun.of_cbc {s t : State} {n : SlotId} {c : TxCommand} {body : List Byte} (h : Begun s n c body) (hc : t.cbc = s.cbc) :
    Begun t n c body := by
  unfold Begun at h ⊢
  rwa [hc]

theorem put_getElem {α : Type} {k : Nat} (v : Vector α k) (i : Fin k) : put v i v[i] = v := by
  refine Vector.ext fun j hj => ?_
  have h := put_get v i ⟨j, hj⟩ v[i]
  rw [Fin.getElem_fin] at h
  rw [h]
  split
  · next e => subst e; rfl
  · rfl

/-- A move leaves a slot's target and alert as they were. -/
theorem moveSlot_kept (s : State) (n : SlotId) (st : SlotState) :
    (moveSlot s n st).slots[n].target = s.slots[n].target ∧ (moveSlot s n st).slots[n].alert = s.slots[n].alert := by
  rw [moveSlot_same]
  exact ⟨rfl, rfl⟩

/-! ### Insertion (R3, R4) -/

/-- An insertion as the expiry of a timer begins it. -/
theorem exec_insertion {s : State} {n : SlotId} (hr : s.phase = .running) (ht : s.slots[n].presenceTimer.isSome = true)
    (hl : s.lines.presence[n] = true) (hv : s.slots[n].state = .vacant) :
    exec (.presenceTimerExpiry n) s = .next (insertion (senseSlot s n true) n) := by
  refine (execPresenceTimerExpiry_eq n s).trans ?_
  rw [if_pos ⟨hr, ht⟩, hl, if_pos ⟨rfl, by rw [senseSlot_same]; exact hv⟩]

theorem insertion_auto {s : State} {n : SlotId} (h : s.settings.modes[n] = .auto) :
    insertion s n = startReading (moveSlot s n .seated) n := by
  rw [← changeState_eq_moveSlot s n .seated nofun]
  refine if_pos ?_
  rw [changeState_frame s n .seated .settings (by decide), h]

theorem insertion_seated {s : State} {n : SlotId} (h : s.settings.modes[n] ≠ .auto) : insertion s n = moveSlot s n .seated := by
  rw [← changeState_eq_moveSlot s n .seated nofun]
  refine if_neg ?_
  rw [changeState_frame s n .seated .settings (by decide)]
  exact h

theorem postEvent_sysp_congr {s t : State} (h : s.sysp = t.sysp) (k : EventKind) (n c : Byte) (v : Option Word) :
    (postEvent s k n c v).sysp = (postEvent t k n c v).sysp := by
  rw [postEvent_sysp, postEvent_sysp, h]

/-- The parts that a slot seated and started on an admission changes, when nothing else may start. -/
theorem startReading_seated_frame {s u : State} {n : SlotId} (h : OnlyChanges [.slots] s u)
    (hj : startReading (moveSlot u n .seated) n =
        withEntry (moveSlot (moveSlot u n .seated) n .reading) (.admission n .readId) ∨
      startReading (moveSlot u n .seated) n =
        beginAttempt (moveSlot (moveSlot u n .seated) n .reading) (newTransaction n (.admission .readId) [])) :
    OnlyChanges [.slots, .sysp, .engp, .cbc] s (startReading (moveSlot u n .seated) n) := by
  have hm : OnlyChanges [.slots, .sysp, .engp, .cbc] s (moveSlot (moveSlot u n .seated) n .reading) :=
    (((h.mono (by decide)).trans (moveSlot_frame u n _)).trans (moveSlot_frame _ n _)).mono (by decide)
  obtain hj | hj := hj <;> rw [hj]
  · exact hm.trans ((withEntry_frame _ _).mono (by decide))
  · exact hm.trans ((beginAttempt_frame _ _).mono (by decide))

/-- Settles O21. -/
theorem anInsertionActsOnTheMode : Obligations.AnInsertionActsOnTheMode := by
  intro s n hr ht hl hv
  refine ⟨_, exec_insertion hr ht hl hv, ((modSlot_frame s n _).mono (by decide)).trans (insertion_frame _ n),
    (modSlot_others s n _).trans (insertion_others _ n), ?_⟩
  have hs : OnlyChanges [.slots] s (senseSlot s n true) := modSlot_frame s n _
  have hkept : (senseSlot s n true).slots[n].target = s.slots[n].target ∧ (senseSlot s n true).slots[n].alert = s.slots[n].alert := by
    rw [senseSlot_same]; exact ⟨rfl, rfl⟩
  generalize senseSlot s n true = u at hs hkept ⊢
  have hcbc : u.cbc = s.cbc := hs .cbc (by decide)
  have hsysp : u.sysp = s.sysp := hs .sysp (by decide)
  have hmodes : u.settings = s.settings := hs .settings (by decide)
  obtain ⟨htarget', halert'⟩ := moveSlot_kept u n .seated
  rw [hkept.1] at htarget'
  rw [hkept.2] at halert'
  by_cases hm : s.settings.modes[n] = .auto
  · rw [insertion_auto (by rw [hmodes, hm])]
    obtain ⟨hshown, htarget, halert⟩ := startReading_same (moveSlot u n .seated) n
    refine ⟨by rw [startReading_engp]; exact put_same _ _ _, hshown, htarget.trans htarget', halert.trans halert', fun _ => ⟨startReading_state _ n,
      startReading_readId _ n, ?_, fun h => ?_, fun hline hq hf => ?_⟩, fun h => absurd hm h⟩
    · rw [startReading_sysp]
      exact postEvent_sysp_congr (postEvent_sysp_congr hsysp _ _ _ _) _ _ _ _
    · have hj := startReading_joins (s := moveSlot u n .seated) (n := n) (by
        show u.cbc.line.isSome = true ∨ u.cbc.flush = true ∧
          ∀ (m : SlotId) (l : List WbOp), QEntry.writeBack m l ∈ u.cbc.queue → WbOp.addUsed ∉ l
        rwa [hcbc])
      refine ⟨startReading_seated_frame hs (.inl hj), ?_⟩
      rw [hj]
      show ({ u.cbc with queue := u.cbc.queue ++ [.admission n .readId] } : Cbc) = _
      rw [hcbc]
    · rw [← hcbc] at hline hq hf
      have hb := startReading_begun (s := moveSlot u n .seated) n hline hq hf
      exact ⟨startReading_seated_frame hs (.inr (startReading_begins n hline hq hf)), hb.1, hb.2⟩
  · rw [insertion_seated (by rw [hmodes]; exact hm), moveSlot_engp_low u n (st := .seated) nofun]
    refine ⟨put_same _ _ _, by rw [moveSlot_same]; rfl, htarget', halert', fun h => absurd h hm,
      fun _ => ⟨moveSlot_state u n _, ?_, ?_⟩⟩
    · exact (hs.mono (by decide)).trans (moveSlot_frame u n _)
    · rw [moveSlot_sysp]
      exact postEvent_sysp_congr hsysp _ _ _ _

/-! ### SET_SLOT_MODE (R5) -/

theorem mode_ofCode_none {b : Byte} (h : 2 < b.toNat) : Mode.ofCode b = none := by
  have hne (c : Byte) (hc : c.toNat ≤ 2) : b ≠ c := ne_of_toNat_lt (by omega)
  rw [Mode.ofCode, if_neg (hne 0 (by decide)), if_neg (hne 1 (by decide)), if_neg (hne 2 (by decide))]

theorem storeMode_frame (s : State) (n : SlotId) (m : Mode) : OnlyChanges [.settings, .sto] s (storeMode s n m) :=
  .ite (.refl _ s) (((settings_frame s _).mono (by decide)).trans ((markDirty_frame _ _).mono (by decide)))

theorem storeMode_settings (s : State) (n : SlotId) (m : Mode) :
    (storeMode s n m).settings = { s.settings with modes := put s.settings.modes n m } := by
  unfold storeMode
  split
  · next h => rw [← h, put_getElem]
  · rfl

theorem storeMode_sto (s : State) (n : SlotId) (m : Mode) :
    (storeMode s n m).sto = { s.sto with
      dirty := if s.settings.modes[n] = m then s.sto.dirty else put s.sto.dirty recSettings true } := by
  unfold storeMode
  split <;> rfl

/-- A slot SEATED in a mode other than AUTO starts an admission as its mode becomes AUTO (R5). -/
def admitsByMode (s : State) (n : SlotId) (m : Mode) : Prop :=
  s.slots[n].state = .seated ∧ m = .auto ∧ s.settings.modes[n] ≠ .auto

theorem actSetSlotMode_starts {mode : Byte} {m : Mode} (hm : Mode.ofCode mode = some m) {s : State} {n : SlotId} (h : admitsByMode s n m) :
    actSetSlotMode mode n s = (startReading (storeMode s n m) n, .ok, []) := by
  obtain ⟨hs, hauto, hne⟩ := h
  simp only [actSetSlotMode, hm, hs, hauto, beq_self_eq_true, Bool.true_and, bne_iff_ne.2 hne, if_true]

theorem actSetSlotMode_stores {mode : Byte} {m : Mode} (hm : Mode.ofCode mode = some m) {s : State} {n : SlotId}
    (h : ¬ admitsByMode s n m) : actSetSlotMode mode n s = (storeMode s n m, .ok, []) := by
  have hc : (s.slots[n].state == .seated && m == .auto && s.settings.modes[n] != .auto) = false := by
    rw [Bool.eq_false_iff]
    intro hc
    simp only [Bool.and_eq_true, beq_iff_eq, bne_iff_ne] at hc
    exact h ⟨hc.1.1, hc.1.2, hc.2⟩
  simp only [actSetSlotMode, hm, hc, Bool.false_eq_true, if_false]

/-- Settles O24. -/
theorem setSlotModeStoresTheMode : Obligations.SetSlotModeStoresTheMode := by
  intro s slot mode sel hr
  refine ⟨fun n m hn hm => ?_, fun h => ?_⟩
  · have hstore := storeMode_frame (reqState s sel 2) n m
    have hsettings := storeMode_settings (reqState s sel 2) n m
    have hsto := storeMode_sto (reqState s sel 2) n m
    by_cases hc : admitsByMode (reqState s sel 2) n m
    · have ha := (forSlot_some hn (actSetSlotMode mode) (reqState s sel 2)).trans (actSetSlotMode_starts hm hc)
      have hread := startReading_frame (storeMode (reqState s sel 2) n m) n
      obtain ⟨t, ht, hf, hrep, hu, -⟩ := sysRequest_acts (ps := debitParts ++ [.settings, .sto]) hr ha (by decide)
        ((hstore.mono (by decide)).trans (hread.mono (by decide)))
      have hslots : t.slots = _ := hu .slots (by decide)
      refine ⟨t, ht, hf, hrep, ?_, ?_, ?_, ?_, fun _ _ _ => ?_⟩
      · exact (hu .settings (by decide)).trans ((hread .settings (by decide)).trans hsettings)
      · exact OtherSlotsKept.of_sysp (s := s) (((OtherSlotsKept.of_frame hstore (by decide)).trans (startReading_others _ n))) hu
      · exact (hu .sto (by decide)).trans ((hread .sto (by decide)).trans hsto)
      · rw [if_pos (show s.slots[n].state = .seated ∧ m = .auto ∧ s.settings.modes[n] ≠ .auto from hc), hslots, startReading_state]
      · rw [admissionWork_of_frame hu (by decide)]
        exact startReading_readId _ n
    · have ha := (forSlot_some hn (actSetSlotMode mode) (reqState s sel 2)).trans (actSetSlotMode_stores hm hc)
      obtain ⟨t, ht, hf, hrep, hu, -⟩ := sysRequest_acts (ps := debitParts ++ [.settings, .sto]) hr ha (by decide) (hstore.mono (by decide))
      have hslots : t.slots = s.slots := (hu .slots (by decide)).trans (hstore .slots (by decide))
      refine ⟨t, ht, hf, hrep, (hu .settings (by decide)).trans hsettings, .of_eq hslots, (hu .sto (by decide)).trans hsto, ?_,
        fun h1 h2 h3 => absurd ⟨h1, h2, h3⟩ hc⟩
      rw [if_neg (show ¬ (s.slots[n].state = .seated ∧ m = .auto ∧ s.settings.modes[n] ≠ .auto) from hc), hslots]
  · refine sysRequest_refused hr ?_
    cases hn : slotOf slot with
    | none => exact forSlot_none hn _ _
    | some n =>
      have hm := mode_ofCode_none (h.resolve_left (by rw [hn]; nofun))
      rw [forSlot_some hn, actSetSlotMode, hm]

/-! ### PARK and UNPARK (R13, R14) -/

/-- A slot's target set, as PARK and UNPARK do. -/
theorem setTarget_frame (s : State) (n : SlotId) (x : Target) : OnlyChanges [.slots] s (modSlot s n fun r => { r with target := x }) :=
  modSlot_frame s n _

theorem actPark_ready {s : State} {n : SlotId} (h : s.slots[n].state = .ready) :
    actPark n s = (moveSlot (modSlot s n fun r => { r with target := .parked }) n .parked, .ok, []) := by
  rw [actPark, if_pos h, changeState_eq_moveSlot _ n .parked nofun]

/-- Where UNPARK takes a slot with account `a`. -/
theorem unparkedState_account {s : State} {n : SlotId} {a : Account} (h : s.accounts[n] = some a) :
    unparkedState s n = if a.metered = true ∧ headroom a = 0 then .exhausted else .ready := by
  rw [unparkedState, h]
  by_cases hm : a.metered = true
  · by_cases hh : headroom a = 0
    · simp [feeds, hm, hh]
    · simp [feeds, hm, hh, Nat.pos_of_ne_zero hh]
  · simp [feeds, hm]

/-- UNPARK's move, before the arbiter acts. -/
def unparked (s : State) (n : SlotId) : State :=
  changeState (modSlot s n fun r => { r with target := .online }) n (unparkedState s n)

theorem unparked_frame (s : State) (n : SlotId) : OnlyChanges debitParts s (unparked s n) :=
  ((modSlot_frame s n _).mono (by decide)).trans (changeState_frame _ n _)

theorem unparked_others (s : State) (n : SlotId) : OtherSlotsKept n s (unparked s n) :=
  (modSlot_others s n _).trans (changeState_others _ n _)

theorem unparked_same (s : State) (n : SlotId) :
    (unparked s n).slots[n].state = unparkedState s n ∧ (unparked s n).slots[n].target = .online ∧
      (unparked s n).slots[n].alert = s.slots[n].alert := by
  rw [unparked, changeState_same, moveSlot_same, modSlot_same]
  exact ⟨rfl, rfl, rfl⟩

theorem actUnpark_accepted {s : State} {n : SlotId} (h : s.slots[n].state = .parked) (ha : s.slots[n].alert = none) :
    actUnpark n s = (arbitrateIfJoined s (unparked s n), .ok, []) := by
  rw [actUnpark, if_neg (not_not.2 h), if_neg (not_not.2 ha)]
  rfl

theorem arbitrateIfJoined_slots (s t : State) : (arbitrateIfJoined s t).slots = t.slots := by
  unfold arbitrateIfJoined
  split
  · rfl
  · exact arbitrate_frame t .slots (by decide)

theorem GateFollows.of_sysp {n : SlotId} {s u t : State} (h : GateFollows n s u) (hf : OnlyChanges [.sysp] u t) : GateFollows n s t := by
  have hengp : t.engp = u.engp := hf .engp (by decide)
  refine ⟨?_, fun m hm => by rw [hengp]; exact h.2 m hm⟩
  rw [hengp, h.1]
  exact (gateCondition_congr n (by rw [hf .slots (by decide)]) (by rw [hf .accounts (by decide)]) (by rw [hf .sto (by decide)])
    (by rw [hengp])).symm

/-- Settles O26. -/
theorem parkAndUnparkMoveTheSlot : Obligations.ParkAndUnparkMoveTheSlot := by
  intro s slot sel hr
  refine ⟨fun hn => ⟨forSlot_refused hr hn, forSlot_refused hr hn⟩, fun n hn => ⟨fun h => ?_, fun h => ?_, fun h => ?_, fun h ha => ?_,
    fun a h ha hacc => ?_⟩⟩
  · have hact := (forSlot_some hn actPark (reqState s sel 1)).trans (actPark_ready h)
    have hset := setTarget_frame (reqState s sel 1) n .parked
    have hoth := modSlot_others (reqState s sel 1) n fun r => { r with target := .parked }
    have hrec := modSlot_same (reqState s sel 1) n fun r => { r with target := .parked }
    generalize modSlot (reqState s sel 1) n _ = u at hact hset hoth hrec
    obtain ⟨t, ht, hf, hrep, hu, -⟩ := sysRequest_acts (ps := [.slots, .sysp, .engp]) hr hact (by decide)
      ((hset.mono (by decide)).trans (moveSlot_frame u n _))
    have hslots : t.slots = (moveSlot u n .parked).slots := hu .slots (by decide)
    have hengp : u.engp = s.engp := hset .engp (by decide)
    refine ⟨t, ht, hf, (hoth.trans (moveSlot_others u n _)).of_sysp hu, ?_, ?_, ?_, hrep⟩
    · rw [hslots, moveSlot_state]
    · rw [hslots, moveSlot_same, hrec]
    · rw [show t.engp = (moveSlot u n .parked).engp from hu .engp (by decide), moveSlot_engp_low u n (st := .parked) nofun, hengp]
  · exact sysRequest_refused hr ((forSlot_some hn _ _).trans (if_neg h))
  · exact sysRequest_refused hr ((forSlot_some hn _ _).trans (if_pos h))
  · exact sysRequest_refused hr ((forSlot_some hn _ _).trans ((if_neg (not_not.2 h)).trans (if_pos ha)))
  · have hact := (forSlot_some hn actUnpark (reqState s sel 1)).trans (actUnpark_accepted h ha)
    have hgate : GateFollows n (reqState s sel 1) (unparked (reqState s sel 1) n) :=
      changeState_gateFollows (modSlot (reqState s sel 1) n fun r => { r with target := .online }) n _
    have hgate := hgate.arbitrateIfJoined (reqState s sel 1)
    obtain ⟨hstate, htarget, halert⟩ := unparked_same (reqState s sel 1) n
    rw [unparkedState_account (s := reqState s sel 1) hacc] at hstate
    have hjoin := arbitrateIfJoined_slots (reqState s sel 1) (unparked (reqState s sel 1) n)
    obtain ⟨t, ht, hf, hrep, hu, -⟩ := sysRequest_acts (ps := debitParts) hr hact (by decide)
      (arbitrateIfJoined_frame (unparked_frame _ n) (by decide))
    have hslots : t.slots = (unparked (reqState s sel 1) n).slots := (hu .slots (by decide)).trans hjoin
    refine ⟨t, ht, hf, (unparked_others (reqState s sel 1) n).trans (.of_eq hslots), ?_, ?_, ?_, hgate.of_sysp hu, hrep⟩ <;> rw [hslots]
    · exact hstate
    · exact htarget
    · exact halert.trans ha

end Sys2Proof.Machine
end

section
/-! Work that a slot loses (R11, R17, R46, R66, R122), and RETRY and ADMIT (O25). -/

namespace Sys2Proof.Machine

/-! ### The bus after a slot's work is cancelled (R66) -/

theorem passThroughResult_cbc (s : State) (n : SlotId) (o l : Byte) (tag : Nat) (r : TxResult) :
    (passThroughResult s n o l tag r).cbc = s.cbc := passThroughResult_frame s n o l tag r .cbc (by decide)

theorem handOver_noCartridge_cbc (s : State) (tx : Transaction) : (handOver s tx .noCartridge).cbc = s.cbc := by
  cases hc : tx.command with
  | admission step => rw [handOver_noCartridge_admission hc]; split <;> rfl
  | writeBack op => rw [handOver_noCartridge_writeBack hc]
  | readArea o l tag => rw [handOver_noCartridge_read hc, passThroughResult_cbc]

theorem drainCheck_cbc (s : State) : (drainCheck s).cbc = s.cbc := drainCheck_frame s .cbc (by decide)

/-- The slot's own transaction is aborted and a break owed, which the next attempt drives first (R46, R66). -/
theorem cancelSlotWork_cbc_own {s : State} {tx : Transaction} (hl : s.cbc.line = some tx) :
    BreakFirst (cancelSlotWork s tx.slot).cbc := by
  have hline : (dropEntries s tx.slot).cbc.line = some tx := by rw [dropEntries_cbc]; exact hl
  rw [cancelSlotWork_eq, drainCheck_cbc]
  refine arbitrate_breakFirst ?_
  rw [abortLine_own hline, handOver_noCartridge_cbc]
  exact ⟨rfl, nofun⟩

/-- Another slot's transaction stays on the line, and the queue loses the slot's entries alone (R66). -/
theorem cancelSlotWork_cbc_other {s : State} {tx : Transaction} {n : SlotId} (hl : s.cbc.line = some tx) (hn : tx.slot ≠ n) :
    (cancelSlotWork s n).cbc = { s.cbc with queue := s.cbc.queue.filter (·.slot != n) } := by
  have hline : (dropEntries s n).cbc.line = some tx := by rw [dropEntries_cbc]; exact hl
  rw [cancelSlotWork_eq, drainCheck_cbc, abortLine_other hline hn, arbitrate_busy _ (by rw [hline]; rfl), dropEntries_cbc]

theorem cancelSlotWork_cbc_idle {s : State} {n : SlotId} (hl : s.cbc.line = none) (hq : s.cbc.queue = []) :
    (cancelSlotWork s n).cbc = s.cbc := by
  have hcbc : (dropEntries s n).cbc = s.cbc := by
    rw [dropEntries_cbc, hq]
    show ({ s.cbc with queue := [] } : Cbc) = s.cbc
    rw [← hq]
  rw [cancelSlotWork_eq, drainCheck_cbc, abortLine_none (by rw [hcbc]; exact hl), arbitrate_emptyQueue (by rw [hcbc]; exact hq), hcbc]

/-! ### The slot after its work has ended (R11 steps 2 to 4, R17) -/

theorem closeAccount_cbc (s : State) (n : SlotId) : (closeAccount s n).cbc = s.cbc := closeAccount_frame s n .cbc (by decide)

theorem endSlotWork_cbc (s : State) (n : SlotId) : (endSlotWork s n).cbc = (cancelSlotWork (closeAccount s n) n).cbc := by
  rw [endSlotWork_eq, dropEngineHolds_frame _ n .cbc (by decide)]

theorem endSlotWork_cbc_own {s : State} {tx : Transaction} (hl : s.cbc.line = some tx) : BreakFirst (endSlotWork s tx.slot).cbc := by
  rw [endSlotWork_cbc]
  exact cancelSlotWork_cbc_own (by rw [closeAccount_cbc]; exact hl)

theorem endSlotWork_cbc_other {s : State} {tx : Transaction} {n : SlotId} (hl : s.cbc.line = some tx) (hn : tx.slot ≠ n) :
    (endSlotWork s n).cbc = { s.cbc with queue := s.cbc.queue.filter (·.slot != n) } := by
  rw [endSlotWork_cbc, cancelSlotWork_cbc_other (by rw [closeAccount_cbc]; exact hl) hn, closeAccount_cbc]

theorem endSlotWork_cbc_idle {s : State} {n : SlotId} (hl : s.cbc.line = none) (hq : s.cbc.queue = []) :
    (endSlotWork s n).cbc = s.cbc := by
  rw [endSlotWork_cbc, cancelSlotWork_cbc_idle (by rw [closeAccount_cbc]; exact hl) (by rw [closeAccount_cbc]; exact hq),
    closeAccount_cbc]

theorem find?_modListed (w : Swath) (n : SlotId) (f : Listed → Listed) (hf : ∀ l, (f l).slot = l.slot) :
    (modListed w n f).slots.find? (·.slot == n) = (w.slots.find? (·.slot == n)).map f := by
  have hslot (l : Listed) : (if l.slot = n then f l else l).slot = l.slot := by
    split
    · exact hf l
    · rfl
  unfold modListed
  dsimp only
  rw [List.find?_map]
  have hpred : ((fun x : Listed => x.slot == n) ∘ fun l => if l.slot = n then f l else l) = fun x => x.slot == n := by
    funext l
    simp only [Function.comp, hslot]
  rw [hpred]
  cases h : w.slots.find? (·.slot == n) with
  | none => rfl
  | some l =>
    have hl : l.slot = n := by simpa using List.find?_some h
    rw [Option.map_some, Option.map_some, if_pos hl]

/-- A slot whose engine holds are dropped is held by no swath and has no purge (R122). -/
theorem dropEngineHolds_holds (s : State) (n : SlotId) :
    holds (dropEngineHolds s n) n = 0 ∧ (dropEngineHolds s n).engp.purges[n] = none := by
  have hp : (dropEngineHolds s n).engp.purges[n] = none := put_same _ _ _
  have hw (w : Swath) : holdOf (modListed w n fun l => { l with hold := 0 }) n = 0 := by
    rw [holdOf, find?_modListed w n (fun l => { l with hold := 0 }) fun _ => rfl]
    cases w.slots.find? (·.slot == n) <;> rfl
  refine ⟨?_, hp⟩
  rw [holds, purgeHold, hp]
  show ((s.engp.table.map fun w => modListed w n fun l => { l with hold := 0 }).map (holdOf · n)).sum + 0 = 0
  rw [List.map_map, Nat.add_zero, List.sum_eq_zero]
  intro x hx
  obtain ⟨w, -, rfl⟩ := List.mem_map.1 hx
  exact hw w

theorem endSlotWork_holds (s : State) (n : SlotId) :
    holds (endSlotWork s n) n = 0 ∧ (endSlotWork s n).engp.purges[n] = none := dropEngineHolds_holds _ n

theorem holds_gates (s t : State) (g : Vector Bool 10) (n : SlotId) (h : t.engp = { s.engp with gates := g }) :
    holds t n = holds s n ∧ t.engp.purges[n] = s.engp.purges[n] := by
  rw [holds, purgeHold, h]
  exact ⟨rfl, rfl⟩

theorem startReading_accounts_none {s : State} {n : SlotId} (h : s.accounts[n] = none) : (startReading s n).accounts[n] = none := by
  have hs : (startReading s n).accounts[n].map (·.serial) = s.accounts[n].map (·.serial) := by
    rw [startReading_eq]
    exact arbitrate_account_map (withEntry (moveSlot s n .reading) _) _ (fun _ _ _ => rfl) n
  rw [h] at hs
  exact Option.map_eq_none_iff.1 hs

theorem startReading_breakFirst {s : State} {n : SlotId} (h : BreakFirst s.cbc) : BreakFirst (startReading s n).cbc :=
  arbitrate_breakFirst (s := withEntry (moveSlot s n .reading) (.admission n .readId)) h

/-! ### ADMIT and RETRY (R6, R17) -/

theorem actAdmit_accepted {s : State} {n : SlotId} (h : s.slots[n].state = .seated) (hm : s.settings.modes[n] = .confirm)
    (ha : s.slots[n].alert = none) : actAdmit n s = (startReading s n, .ok, []) := by
  rw [actAdmit, if_neg (not_or.2 ⟨not_not.2 h, not_not.2 hm⟩), if_neg (not_not.2 ha)]

theorem actRetry_refused {s : State} {n : SlotId} (h : s.slots[n].state.reason = none) : actRetry n s = (s, .wrongState, []) := by
  unfold actRetry
  split
  · next why hw => rw [hw] at h; cases h
  · rfl

theorem actRetry_rejected {s : State} {n : SlotId} {why : Reason} (h : s.slots[n].state = .rejected why) :
    actRetry n s = if s.slots[n].alert ≠ none then (s, .alertPending, [])
      else (startReading (if why = .contactLost then endSlotWork s n else s) n, .ok, []) := by
  simp only [actRetry, h]

/-- The state from which a RETRY starts its admission (R17). -/
def retried (s : State) (n : SlotId) (why : Reason) : State := if why = .contactLost then endSlotWork s n else s

theorem retried_lost (s : State) (n : SlotId) : retried s n .contactLost = endSlotWork s n := if_pos rfl

theorem retried_kept {s : State} {n : SlotId} {why : Reason} (h : why ≠ .contactLost) : retried s n why = s := if_neg h

theorem retried_frame (s : State) (n : SlotId) (why : Reason) : OnlyChanges resultParts s (retried s n why) :=
  .ite (endSlotWork_frame s n) (.refl _ s)

theorem retried_slots (s : State) (n : SlotId) (why : Reason) : (retried s n why).slots = s.slots := by
  unfold retried
  split
  · exact endSlotWork_slots s n
  · rfl

/-- What a RETRY after contact loss leaves of the slot's account, holds and bus work, its READ_ID placed. -/
theorem startReading_endSlotWork {s t : State} {n : SlotId} (ht : t = startReading (endSlotWork s n) n) :
    t.accounts[n] = none ∧ holds t n = 0 ∧ t.engp.purges[n] = none ∧
      (∀ tx, s.cbc.line = some tx →
        (tx.slot = n → t.cbc.breakOwed = true ∧ ∀ u, t.cbc.line = some u → u.action = .breaking) ∧
        (tx.slot ≠ n → t.cbc = { s.cbc with queue := s.cbc.queue.filter (·.slot != n) ++ [.admission n .readId] })) ∧
      (s.cbc.line = none → s.cbc.queue = [] → s.cbc.flush = false → t.cbc.queue = [] ∧ Begun t n (.admission .readId) []) := by
  obtain ⟨hh, hp⟩ := endSlotWork_holds s n
  have hacc := endSlotWork_account s n
  have hown (tx : Transaction) (hl : s.cbc.line = some tx) (hn : tx.slot = n) : BreakFirst (endSlotWork s n).cbc := by
    subst hn; exact endSlotWork_cbc_own hl
  have hother (tx : Transaction) (hl : s.cbc.line = some tx) (hn : tx.slot ≠ n) := endSlotWork_cbc_other hl hn
  have hidle (hl : s.cbc.line = none) (hq : s.cbc.queue = []) := endSlotWork_cbc_idle (n := n) hl hq
  generalize endSlotWork s n = u at ht hh hp hacc hown hother hidle
  subst ht
  obtain ⟨hh', hp'⟩ := holds_gates u (startReading u n) _ n (startReading_engp u n)
  refine ⟨startReading_accounts_none hacc, hh'.trans hh, hp'.trans hp,
    fun tx hl => ⟨fun hn => startReading_breakFirst (hown tx hl hn), fun hn => ?_⟩, fun hl hq hf => ?_⟩
  · have hcbc := hother tx hl hn
    rw [startReading_cbc_busy n (by rw [hcbc, hl]; rfl), hcbc]
  · have hcbc := hidle hl hq
    exact startReading_begun n (by rw [hcbc]; exact hl) (by rw [hcbc]; exact hq) (by rw [hcbc]; exact hf)

/-- Settles O25. -/
theorem admitAndRetryStartAnAdmission : Obligations.AdmitAndRetryStartAnAdmission := by
  intro s slot sel hr
  refine ⟨fun hn => ⟨forSlot_refused hr hn, forSlot_refused hr hn⟩, fun n hn => ⟨fun h => ?_, fun h hm ha => ?_, fun h hm ha => ?_,
    fun h => ?_, fun why h ha => ?_, fun why h ha => ?_⟩⟩
  · exact sysRequest_refused hr ((forSlot_some hn _ _).trans (if_pos h))
  · exact sysRequest_refused hr ((forSlot_some hn _ _).trans ((if_neg (not_or.2 ⟨not_not.2 h, not_not.2 hm⟩)).trans (if_pos ha)))
  · have hact := (forSlot_some hn actAdmit (reqState s sel 1)).trans (actAdmit_accepted h hm ha)
    obtain ⟨t, ht, hf, hrep, hu, -⟩ := sysRequest_acts (ps := debitParts) hr hact (by decide) (startReading_frame _ n)
    have hslots : t.slots = (startReading (reqState s sel 1) n).slots := hu .slots (by decide)
    have hcbc : t.cbc = (startReading (reqState s sel 1) n).cbc := hu .cbc (by decide)
    refine ⟨t, ht, hf, (startReading_others (reqState s sel 1) n).trans (.of_eq hslots), by rw [hslots, startReading_state],
      by rw [admissionWork_of_frame hu (by decide)]; exact startReading_readId _ n, fun hl => ?_, fun hl hq hfl => ?_, hrep⟩
    · exact hcbc.trans (startReading_cbc_busy (s := reqState s sel 1) n hl)
    · have hb := startReading_begun (s := reqState s sel 1) n hl hq hfl
      exact ⟨by rw [hcbc]; exact hb.1, hb.2.of_cbc hcbc⟩
  · exact sysRequest_refused hr ((forSlot_some hn _ _).trans (actRetry_refused h))
  · exact sysRequest_refused hr ((forSlot_some hn _ _).trans ((actRetry_rejected (s := reqState s sel 1) h).trans (if_pos ha)))
  · have hact : forSlot slot actRetry (reqState s sel 1) = (startReading (retried (reqState s sel 1) n why) n, .ok, []) :=
      (forSlot_some hn actRetry _).trans ((actRetry_rejected (s := reqState s sel 1) h).trans (if_neg (not_not.2 ha)))
    obtain ⟨t, ht, hf, hrep, hu, -⟩ := sysRequest_acts (ps := resultParts) hr hact (by decide)
      ((retried_frame _ n why).trans ((startReading_frame _ n).mono (by decide)))
    have hslots : t.slots = (startReading (retried (reqState s sel 1) n why) n).slots := hu .slots (by decide)
    have hcbc : t.cbc = (startReading (retried (reqState s sel 1) n why) n).cbc := hu .cbc (by decide)
    have hengp : t.engp = (startReading (retried (reqState s sel 1) n why) n).engp := hu .engp (by decide)
    have hkept := retried_slots (reqState s sel 1) n why
    obtain ⟨-, htarget, halert⟩ := startReading_same (retried (reqState s sel 1) n why) n
    rw [← hslots, hkept] at htarget halert
    refine ⟨t, ht, hf, ((OtherSlotsKept.of_eq (s := reqState s sel 1) hkept).trans (startReading_others _ n)).trans (.of_eq hslots),
      by rw [hslots, startReading_state], htarget, halert.trans ha,
      by rw [admissionWork_of_frame hu (by decide)]; exact startReading_readId _ n, fun hw hl => ?_, fun hw hl hq hfl => ?_,
      fun hw => ?_, hrep⟩
    · rw [retried_kept hw] at hcbc
      exact hcbc.trans (startReading_cbc_busy (s := reqState s sel 1) n hl)
    · rw [retried_kept hw] at hcbc
      have hb := startReading_begun (s := reqState s sel 1) n hl hq hfl
      exact ⟨by rw [hcbc]; exact hb.1, hb.2.of_cbc hcbc⟩
    · subst hw
      rw [retried_lost] at hcbc hengp hu
      obtain ⟨hacc, hholds, hpurge, hline, hfree⟩ := startReading_endSlotWork (s := reqState s sel 1) (n := n) rfl
      refine ⟨?_, ?_, ?_, fun tx hl => ?_, fun hl hq hfl => ?_⟩
      · rw [hu .accounts (by decide)]; exact hacc
      · rw [holds, purgeHold, hengp]; exact hholds
      · rw [hengp]; exact hpurge
      · rw [hcbc]; exact hline tx hl
      · have hb := hfree hl hq hfl
        exact ⟨by rw [hcbc]; exact hb.1, hb.2.of_cbc hcbc⟩

end Sys2Proof.Machine
end

section
/-! Cartridge history: what writes of seen entries and of the retired list leave, and the entries that outlive a bus flush
(R129 to R132). -/

namespace Sys2Proof.Machine

/-! ### Dirty marks -/

/-- Of the store's own state at most dirty marks change. -/
def MarksOnly (s t : State) : Prop := t.sto = { s.sto with dirty := t.sto.dirty }

theorem MarksOnly.refl (s : State) : MarksOnly s s := rfl

theorem MarksOnly.trans {s t u : State} (h : MarksOnly s t) (k : MarksOnly t u) : MarksOnly s u := by
  unfold MarksOnly at h k ⊢
  rw [k, h]

theorem MarksOnly.of_sto {s t : State} (h : t.sto = s.sto) : MarksOnly s t := by
  unfold MarksOnly
  rw [h]

theorem MarksOnly.ite {s t u : State} {c : Prop} [Decidable c] (h : MarksOnly s t) (k : MarksOnly s u) :
    MarksOnly s (if c then t else u) := by
  split
  · exact h
  · exact k

theorem MarksOnly.foldl {α : Type} (f : State → α → State) (h : ∀ s a, MarksOnly s (f s a)) (l : List α) (s : State) :
    MarksOnly s (l.foldl f s) := by
  induction l generalizing s with
  | nil => exact .refl s
  | cons a l ih => exact (h s a).trans (ih _)

theorem MarksOnly.power {s t : State} (h : MarksOnly s t) : t.sto.power = s.sto.power := by
  unfold MarksOnly at h
  rw [h]

theorem markDirty_marks (s : State) (r : Fin 118) : MarksOnly s (markDirty s r) := rfl

theorem markOthers_marks {α : Type} {k : Nat} (s : State) (t : Vector (Option α) k) (rec : Fin k → Fin 118) (p : Fin k) :
    MarksOnly s (markOthers s t rec p) := .foldl _ (fun u _ => .ite (markDirty_marks u _) (.refl u)) _ _

/-! ### A seen entry written (R129) -/

/-- The table, the list and their counters are not what marks change. -/
theorem markOthers_his {α : Type} {k : Nat} (s : State) (t : Vector (Option α) k) (rec : Fin k → Fin 118) (p : Fin k) :
    (markOthers s t rec p).his = s.his := markOthers_frame s t rec p .his (by decide)

theorem readyStamp_idle {s : State} (h : s.his.stamp < 4294967295) (p : Fin 32) : readyStamp s p = s := if_neg (by omega)

theorem readyStamp_marks (s : State) (p : Fin 32) : MarksOnly s (readyStamp s p) := by
  unfold readyStamp
  split
  · exact markOthers_marks _ _ _ _
  · exact .refl s

theorem readyStamp_retired (s : State) (p : Fin 32) : (readyStamp s p).his.retired = s.his.retired := by
  unfold readyStamp
  split
  · dsimp only
    rw [markOthers_his]
  · rfl

/-- The entry a close of `a` writes, with its stamp (R103, R131). -/
def closedEntry (n : SlotId) (a : Account) (stamp : Nat) : SeenEntry :=
  ⟨a.serial, min (consumedView a) 4294967295, min (a.inFlight + a.pendingInk) (min (consumedView a) 4294967295), n, a.cls, stamp⟩

theorem seenFromAccount_his (s : State) (n : SlotId) (a : Account) :
    let p := seenPosition s.his.seen a.serial
    (seenFromAccount s n a).his = { (readyStamp s p).his with
      seen := put (readyStamp s p).his.seen p (some (closedEntry n a (readyStamp s p).his.stamp))
      stamp := (readyStamp s p).his.stamp + 1 } := rfl

theorem seenFromAccount_marks (s : State) (n : SlotId) (a : Account) : MarksOnly s (seenFromAccount s n a) :=
  (readyStamp_marks s (seenPosition s.his.seen a.serial)).trans rfl

theorem seenFromAccount_retired (s : State) (n : SlotId) (a : Account) :
    (seenFromAccount s n a).his.retired = s.his.retired := by
  rw [seenFromAccount_his]
  exact readyStamp_retired s _

theorem seenFromAccount_entry (s : State) (n : SlotId) (a : Account) :
    ∃ (p : Fin 32) (k : Nat), (seenFromAccount s n a).his.seen[p] = some (closedEntry n a k) := by
  refine ⟨seenPosition s.his.seen a.serial, (readyStamp s (seenPosition s.his.seen a.serial)).his.stamp, ?_⟩
  rw [seenFromAccount_his]
  exact put_same _ _ _

/-- While the counter has room the write changes its own position and the counter alone. -/
theorem seenFromAccount_room {s : State} (h : s.his.stamp < 4294967295) (n : SlotId) (a : Account) :
    (seenFromAccount s n a).his = { s.his with
      seen := put s.his.seen (seenPosition s.his.seen a.serial) (some (closedEntry n a s.his.stamp))
      stamp := s.his.stamp + 1 } := by
  rw [seenFromAccount_his, readyStamp_idle h]

/-! ### The position a write takes (R129) -/

theorem foldl_least_le {k : Nat} (f : Fin k → Nat) (l : List (Fin k)) (b : Fin k) :
    f (l.foldl (fun b j => if f j < f b then j else b) b) ≤ f b ∧
      ∀ q ∈ l, f (l.foldl (fun b j => if f j < f b then j else b) b) ≤ f q := by
  induction l generalizing b with
  | nil => exact ⟨Nat.le_refl _, nofun⟩
  | cons j l ih =>
    obtain ⟨hb, hl⟩ := ih (if f j < f b then j else b)
    have hj : f (if f j < f b then j else b) ≤ f b ∧ f (if f j < f b then j else b) ≤ f j := by
      split <;> omega
    refine ⟨hb.trans hj.1, fun q hq => ?_⟩
    rcases List.mem_cons.1 hq with rfl | hq
    · exact hb.trans hj.2
    · exact hl q hq

theorem leastBy_le {k : Nat} (f : Fin k → Nat) (d : Fin k) (l : List (Fin k)) {q : Fin k} (h : q ∈ l) : f (leastBy f d l) ≤ f q := by
  cases l with
  | nil => cases h
  | cons i l =>
    obtain ⟨hi, hl⟩ := foldl_least_le f l i
    rcases List.mem_cons.1 h with rfl | h
    · exact hi
    · exact hl q h

theorem exists_not_mem {k : Nat} (l : List (Fin k)) (h : l.length < k) : ∃ q, q ∉ l := by
  by_contra hall
  have hsub : List.finRange k ⊆ l := fun q _ => not_not.1 fun hq => hall ⟨q, hq⟩
  have := ((List.nodup_finRange k).subperm hsub).length_le
  rw [List.length_finRange] at this
  omega

/-- At place `p` stands the entry `e`, written later than every entry but those at the places `l` (R129). -/
structure WrittenAfter (h : His) (p : Fin 32) (e : SeenEntry) (l : List (Fin 32)) : Prop where
  held : h.seen[p] = some e
  older : ∀ q, q ∉ l → q ≠ p → ∀ x, h.seen[q] = some x → x.stamp < e.stamp

/-- A write for another serial spares an entry that few others were written after (R129). -/
theorem WrittenAfter.spared {h : His} {p : Fin 32} {e : SeenEntry} {l : List (Fin 32)} (k : WrittenAfter h p e l) (hl : l.length < 31)
    {serial : Serial} (hs : serial ≠ e.serial) : seenPosition h.seen serial ≠ p := by
  unfold seenPosition
  split
  · next p' hp =>
    rintro rfl
    have := List.find?_some hp
    rw [k.held] at this
    simp only [hasSerial, Option.map_some, Option.getD_some, beq_iff_eq] at this
    exact hs this.symm
  · split
    · next p' hp =>
      rintro rfl
      have := List.find?_some hp
      rw [k.held] at this
      cases this
    · next hfull =>
      intro hp
      obtain ⟨q, hq⟩ := exists_not_mem (p :: l) (by rw [List.length_cons]; omega)
      rw [List.mem_cons, not_or] at hq
      have hsome := List.find?_eq_none.1 hfull q (List.mem_finRange q)
      obtain ⟨x, hx⟩ := Option.ne_none_iff_exists'.1 (fun hn : h.seen[q] = none => hsome (by rw [hn]; rfl))
      have hle := leastBy_le (fun p => (h.seen[p].map (·.stamp)).getD 0) 0 (List.finRange 32) (List.mem_finRange q)
      rw [hp, k.held, hx] at hle
      have := k.older q hq.2 hq.1 x hx
      simp only [Option.map_some, Option.getD_some] at hle
      omega

/-- The entry stands after one more write, which joins those written after it. -/
theorem WrittenAfter.write {s : State} {p : Fin 32} {e : SeenEntry} {l : List (Fin 32)} (k : WrittenAfter s.his p e l)
    (hl : l.length < 31) (hroom : s.his.stamp < 4294967295) {m : SlotId} {b : Account} (hb : b.serial ≠ e.serial) :
    WrittenAfter (seenFromAccount s m b).his p e (seenPosition s.his.seen b.serial :: l) := by
  have hne := k.spared hl hb
  rw [seenFromAccount_room hroom]
  refine ⟨(put_other _ _ _ _ (Ne.symm hne)).trans k.held, fun q hq hqp x hx => ?_⟩
  rw [List.mem_cons, not_or] at hq
  exact k.older q hq.2 hqp x ((put_other _ _ _ _ hq.1).symm.trans hx)

/-- One slot's provisional entry (R132). -/
def provisionalEntry (s : State) (n : SlotId) : State :=
  match s.accounts[n] with
  | some a => if a.metered then seenFromAccount s n a else s
  | none => s

theorem provisionalEntries_eq (s : State) : provisionalEntries s = allSlots.foldl provisionalEntry s := rfl

theorem provisionalEntry_cases (s : State) (n : SlotId) :
    provisionalEntry s n = s ∨ ∃ a, s.accounts[n] = some a ∧ a.metered = true ∧ provisionalEntry s n = seenFromAccount s n a := by
  unfold provisionalEntry
  split
  · next a ha =>
    split
    · next hm => exact .inr ⟨a, ha, hm, rfl⟩
    · exact .inl rfl
  · exact .inl rfl

theorem provisionalEntry_accounts (s : State) (n : SlotId) : (provisionalEntry s n).accounts = s.accounts := by
  rcases provisionalEntry_cases s n with h | ⟨a, -, -, h⟩ <;> rw [h]
  exact seenFromAccount_frame s n a .accounts (by decide)

theorem provisionalEntry_retired (s : State) (n : SlotId) : (provisionalEntry s n).his.retired = s.his.retired := by
  rcases provisionalEntry_cases s n with h | ⟨a, -, -, h⟩ <;> rw [h]
  exact seenFromAccount_retired s n a

theorem provisionalEntries_retired (s : State) : (provisionalEntries s).his.retired = s.his.retired := by
  rw [provisionalEntries_eq]
  generalize allSlots = l
  induction l generalizing s with
  | nil => rfl
  | cons m l ih => exact (ih _).trans (provisionalEntry_retired s m)

/-- No other open metered account has the serial. -/
def SerialAlone (s : State) (serial : Serial) : Prop :=
  ∀ (m : SlotId) (b : Account), s.accounts[m] = some b → b.metered = true → b.serial ≠ serial

/-- An entry outlives the provisional entries of the slots in `l`, none of them for the empty slot `n` (R129, R132). -/
theorem WrittenAfter.provisional {n : SlotId} {p : Fin 32} {e : SeenEntry} (l : List SlotId) (s : State) (w : List (Fin 32))
    (k : WrittenAfter s.his p e w) (hn : s.accounts[n] = none) (hs : SerialAlone s e.serial)
    (hw : w.length + (l.filter (· ≠ n)).length ≤ 31) (hroom : s.his.stamp + (l.filter (· ≠ n)).length ≤ 4294967295) :
    (l.foldl provisionalEntry s).his.seen[p] = some e := by
  induction l generalizing s w with
  | nil => exact k.held
  | cons m l ih =>
    have hacc := provisionalEntry_accounts s m
    have hn' : (provisionalEntry s m).accounts[n] = none := by rw [hacc]; exact hn
    have hs' : SerialAlone (provisionalEntry s m) e.serial := by rw [SerialAlone, hacc]; exact hs
    rcases provisionalEntry_cases s m with h | ⟨a, ha, hm, h⟩
    · have hle : (l.filter (· ≠ n)).length ≤ ((m :: l).filter (· ≠ n)).length :=
        ((List.sublist_cons_self m l).filter _).length_le
      rw [List.foldl_cons]
      rw [h] at hn' hs' ⊢
      exact ih s w k hn' hs' (by omega) (by omega)
    · have hmn : m ≠ n := by
        rintro rfl
        rw [hn] at ha; cases ha
      have hlen : ((m :: l).filter (· ≠ n)).length = (l.filter (· ≠ n)).length + 1 := by
        rw [List.filter_cons_of_pos (by simpa using hmn), List.length_cons]
      rw [hlen] at hw hroom
      have hstamp : (seenFromAccount s m a).his.stamp = s.his.stamp + 1 := by rw [seenFromAccount_room (by omega)]
      rw [List.foldl_cons]
      rw [h] at hn' hs' ⊢
      exact ih _ _ (k.write (by omega) (by omega) (hs m a ha hm)) hn' hs' (by rw [List.length_cons]; omega) (by rw [hstamp]; omega)

/-! ### The retired list (R130) -/

theorem isRetired_iff (s : State) (serial : Serial) : isRetired s serial = true ↔ ∃ p : Fin 64, retiredIs serial s.his.retired[p] = true := by
  rw [isRetired, List.any_eq_true]
  constructor
  · rintro ⟨x, hx, h⟩
    obtain ⟨i, hi, rfl⟩ := List.mem_iff_getElem.1 hx
    rw [Vector.length_toList] at hi
    exact ⟨⟨i, hi⟩, by simpa using h⟩
  · rintro ⟨p, h⟩
    exact ⟨_, Vector.mem_toList_iff.2 (Vector.getElem_mem p.isLt), h⟩

theorem retiredIs_some {serial : Serial} {e : Option RetiredEntry} (h : retiredIs serial e = true) : ∃ x, e = some x ∧ x.serial = serial := by
  cases e with
  | none => cases h
  | some x => exact ⟨x, rfl, by simpa [retiredIs] using h⟩

theorem readyRetire_marks (s : State) (p : Fin 64) : MarksOnly s (readyRetire s p) := by
  unfold readyRetire
  split
  · exact markOthers_marks _ _ _ _
  · exact .refl s

theorem readyRetire_seen (s : State) (p : Fin 64) : (readyRetire s p).his.seen = s.his.seen := by
  unfold readyRetire
  split
  · dsimp only
    rw [markOthers_his]
  · rfl

theorem addRetired_marks (s : State) (serial : Serial) (why : RetiredReason) : MarksOnly s (addRetired s serial why) := by
  unfold addRetired
  split
  · exact (readyRetire_marks s (retiredPosition s.his.retired)).trans rfl
  · split
    · exact .ite rfl (.refl s)
    · exact .refl s

theorem readyRetire_stamp (s : State) (p : Fin 64) : (readyRetire s p).his.stamp = s.his.stamp := by
  unfold readyRetire
  split
  · dsimp only
    rw [markOthers_his]
  · rfl

/-- The retired list's writes leave the seen table and its counter alone. -/
theorem addRetired_seen (s : State) (serial : Serial) (why : RetiredReason) :
    (addRetired s serial why).his.seen = s.his.seen ∧ (addRetired s serial why).his.stamp = s.his.stamp := by
  unfold addRetired
  split
  · exact ⟨readyRetire_seen s _, readyRetire_stamp s _⟩
  · split
    · split <;> exact ⟨rfl, rfl⟩
    · exact ⟨rfl, rfl⟩

theorem newRetired_entry (s : State) (serial : Serial) (why : RetiredReason) :
    ∃ (p : Fin 64) (e : RetiredEntry), (newRetired s serial why).his.retired[p] = some e ∧ e.serial = serial ∧ e.reason = why :=
  ⟨retiredPosition s.his.retired, _, put_same _ _ _, rfl, rfl⟩

theorem addRetired_new {s : State} {serial : Serial} (h : isRetired s serial = false) (why : RetiredReason) :
    addRetired s serial why = newRetired s serial why := by
  have hnone : (List.finRange 64).find? (fun p => retiredIs serial s.his.retired[p]) = none := by
    rw [List.find?_eq_none]
    intro p _ hp
    rw [(isRetired_iff s serial).2 ⟨p, hp⟩] at h
    cases h
  unfold addRetired
  rw [hnone]

theorem addRetired_held {s : State} {serial : Serial} (h : isRetired s serial = true) :
    addRetired s serial .exhaustedRemoved = s := by
  unfold addRetired
  split
  · next hnone =>
    obtain ⟨p, hp⟩ := (isRetired_iff s serial).1 h
    exact absurd hp (List.find?_eq_none.1 hnone p (List.mem_finRange p))
  · split
    · exact if_neg (by simp)
    · rfl

/-- A serial added as spent stands on the list as spent (R130). -/
theorem addRetired_spent (s : State) (serial : Serial) :
    ∃ (p : Fin 64) (e : RetiredEntry), (addRetired s serial .spent).his.retired[p] = some e ∧ e.serial = serial ∧ e.reason = .spent := by
  unfold addRetired
  split
  · exact newRetired_entry s serial .spent
  · next p hp =>
    have hheld : retiredIs serial s.his.retired[p] = true := List.find?_some (p := fun p => retiredIs serial s.his.retired[p]) hp
    obtain ⟨x, hx, hserial⟩ := retiredIs_some hheld
    rw [hx]
    dsimp only
    split
    · exact ⟨p, _, put_same _ _ _, hserial, rfl⟩
    · next h => exact ⟨p, x, hx, hserial, by simpa using h⟩

/-! ### Close into history (R103, R131) -/

theorem closeIntoHistory_unmetered {s : State} {n : SlotId} {a : Account} (h : a.metered = false) : closeIntoHistory s n a = s := by
  rw [closeIntoHistory, if_neg (by rw [h]; decide)]

theorem closeIntoHistory_spent {s : State} {n : SlotId} {a : Account} (h : a.metered = true) (hs : a.spent = .marked ∨ a.spent = .found) :
    closeIntoHistory s n a = addRetired (seenFromAccount s n a) a.serial .spent := by
  rw [closeIntoHistory, if_pos h]
  exact if_pos hs

theorem closeIntoHistory_exhausted {s : State} {n : SlotId} {a : Account} (h : a.metered = true) (h1 : a.spent ≠ .marked)
    (h2 : a.spent ≠ .found) (hx : s.slots[n].state = .exhausted) :
    closeIntoHistory s n a = addRetired (seenFromAccount s n a) a.serial .exhaustedRemoved := by
  rw [closeIntoHistory, if_pos h]
  refine (if_neg (not_or.2 ⟨h1, h2⟩)).trans (if_pos ?_)
  rw [hx]; rfl

theorem closeIntoHistory_plain {s : State} {n : SlotId} {a : Account} (h : a.metered = true) (h1 : a.spent ≠ .marked)
    (h2 : a.spent ≠ .found) (hx : s.slots[n].state ≠ .exhausted) : closeIntoHistory s n a = seenFromAccount s n a := by
  rw [closeIntoHistory, if_pos h]
  exact (if_neg (not_or.2 ⟨h1, h2⟩)).trans (if_neg (by simpa using hx))

/-- A close of a metered account writes the seen entry, and then at most the retired list. -/
theorem closeIntoHistory_seen {s : State} {n : SlotId} {a : Account} (h : a.metered = true) :
    (closeIntoHistory s n a).his.seen = (seenFromAccount s n a).his.seen ∧
      (closeIntoHistory s n a).his.stamp = (seenFromAccount s n a).his.stamp := by
  rw [closeIntoHistory, if_pos h]
  dsimp only
  split
  · exact addRetired_seen _ _ _
  · split
    · exact addRetired_seen _ _ _
    · exact ⟨rfl, rfl⟩

theorem closeIntoHistory_marks (s : State) (n : SlotId) (a : Account) : MarksOnly s (closeIntoHistory s n a) := by
  unfold closeIntoHistory
  split
  · dsimp only
    have h := seenFromAccount_marks s n a
    exact .ite (h.trans (addRetired_marks _ _ _)) (.ite (h.trans (addRetired_marks _ _ _)) h)
  · exact .refl s

theorem closeAccount_marks (s : State) (n : SlotId) : MarksOnly s (closeAccount s n) := by
  unfold closeAccount
  split
  · exact .refl s
  · exact closeIntoHistory_marks s n _

theorem closeAccount_his {s : State} {n : SlotId} {a : Account} (h : s.accounts[n] = some a) :
    (closeAccount s n).his = (closeIntoHistory s n a).his := by
  rw [closeAccount, h]
  rfl

end Sys2Proof.Machine
end

section
/-! A removal (O22): the reply to an awaited read, the bus, the events, the history. -/

namespace Sys2Proof.Machine

/-! ### The reply to an awaited read (R154) -/

/-- The holder with the reply to a read of a cartridge that is gone (R154). -/
def goneReply (lost attention : Bool) (n : SlotId) (o l : Byte) : Holder :=
  .ready ⟨0x8B, .noCartridge, replyFlags lost attention false false, [slotByte n, o, l]⟩

/-- Entry `e` is a read that the holder awaits (R150). -/
def Awaited (h : Holder) (e : QEntry) : Prop := ∃ tag lost m o l, h = .waiting tag lost ∧ e = .passThrough m o l tag

theorem passThroughResult_awaited {s : State} {tag : Nat} {lost : Bool} (h : s.sysp.holder = .waiting tag lost) (n : SlotId) (o l : Byte) :
    passThroughResult s n o l tag .noCartridge = { s with sysp := { s.sysp with holder := goneReply lost (attn s) n o l } } := by
  unfold passThroughResult
  rw [h]
  exact if_pos rfl

theorem passThroughResult_dropped {s : State} {tag : Nat} (h : ∀ lost, s.sysp.holder ≠ .waiting tag lost) (n : SlotId) (o l : Byte)
    (r : TxResult) : passThroughResult s n o l tag r = s := by
  unfold passThroughResult
  split
  · next t lost ht =>
    refine if_neg ?_
    rintro rfl
    exact h lost ht
  · rfl

theorem cancelEntry_other {s : State} {e : QEntry} (h : ¬ Awaited s.sysp.holder e) : cancelEntry s e = s := by
  cases e with
  | admission m step => rfl
  | writeBack m ops => rfl
  | passThrough m o l tag =>
    show passThroughResult s m o l tag .noCartridge = s
    exact passThroughResult_dropped (fun lost ht => h ⟨tag, lost, m, o, l, ht, rfl⟩) m o l _

theorem cancelEntries_other {l : List QEntry} {s : State} (h : ∀ e ∈ l, ¬ Awaited s.sysp.holder e) : l.foldl cancelEntry s = s := by
  induction l with
  | nil => rfl
  | cons e l ih =>
    rw [List.foldl_cons, cancelEntry_other (h e List.mem_cons_self)]
    exact ih fun x hx => h x (List.mem_cons_of_mem _ hx)

theorem not_awaited_ready {h : Holder} (hr : ∀ tag lost, h ≠ .waiting tag lost) (e : QEntry) : ¬ Awaited h e := by
  rintro ⟨tag, lost, m, o, l, ht, -⟩
  exact hr tag lost ht

/-- The first awaited read among the entries cancelled is answered, and no other. -/
theorem cancelEntries_awaited {s : State} {tag : Nat} {lost : Bool} (h : s.sysp.holder = .waiting tag lost) {before after : List QEntry}
    {n : SlotId} {o l : Byte} (hb : ∀ e ∈ before, ¬ Awaited s.sysp.holder e) :
    (before ++ .passThrough n o l tag :: after).foldl cancelEntry s =
      { s with sysp := { s.sysp with holder := goneReply lost (attn s) n o l } } := by
  have hgone := passThroughResult_awaited h n o l
  rw [List.foldl_append, cancelEntries_other hb, List.foldl_cons]
  show List.foldl cancelEntry (passThroughResult s n o l tag .noCartridge) after = _
  rw [hgone]
  exact cancelEntries_other fun e _ => not_awaited_ready (by simp [goneReply]) e

/-- What cancelling the entries leaves in the system port. -/
theorem cancelEntries_sysp (l : List QEntry) (s : State) :
    (l.foldl cancelEntry s).sysp = { s.sysp with holder := (l.foldl cancelEntry s).sysp.holder } := by
  induction l generalizing s with
  | nil => rfl
  | cons e l ih =>
    have h1 : (cancelEntry s e).sysp = { s.sysp with holder := (cancelEntry s e).sysp.holder } := by
      by_cases h : Awaited s.sysp.holder e
      · obtain ⟨tag, lost, m, o, l, ht, rfl⟩ := h
        rw [cancelEntry, passThroughResult_awaited ht]
      · rw [cancelEntry_other h]
    rw [List.foldl_cons]
    have h2 := ih (cancelEntry s e)
    rw [h1] at h2
    exact h2

/-- The transaction on the line is a read of slot `n`. -/
def lineReads (s : State) (n : SlotId) (o l : Byte) (tag : Nat) : Prop :=
  ∃ tx, s.cbc.line = some tx ∧ tx.slot = n ∧ tx.command = .readArea o l tag

theorem abortLine_sysp_read {s : State} {n : SlotId} {o l : Byte} {tag : Nat} (h : lineReads s n o l tag) :
    ∃ u, u.sysp = s.sysp ∧ abortLine s n = passThroughResult u n o l tag .noCartridge := by
  obtain ⟨tx, hl, rfl, hc⟩ := h
  exact ⟨abortedLine s tx, rfl, by rw [abortLine_own hl, handOver_noCartridge_read hc]⟩

theorem abortLine_sysp_other {s : State} {n : SlotId} (h : ∀ o l tag, ¬ lineReads s n o l tag) : (abortLine s n).sysp = s.sysp := by
  cases hl : s.cbc.line with
  | none => rw [abortLine_none hl]
  | some tx =>
    by_cases hn : tx.slot = n
    · subst hn
      rw [abortLine_own hl]
      cases hc : tx.command with
      | admission step => rw [handOver_noCartridge_admission hc]; split <;> rfl
      | writeBack op => rw [handOver_noCartridge_writeBack hc]; rfl
      | readArea o l tag => exact absurd ⟨tx, hl, rfl, hc⟩ (h o l tag)
    · rw [abortLine_other hl hn]

/-- An abort answers the read on the line if the holder awaits it. -/
theorem abortLine_gone {s : State} {n : SlotId} {o l : Byte} {tag : Nat} {lost : Bool} (h : lineReads s n o l tag)
    (hw : s.sysp.holder = .waiting tag lost) : (abortLine s n).sysp = { s.sysp with holder := goneReply lost (attn s) n o l } := by
  obtain ⟨u, hu, ha⟩ := abortLine_sysp_read h
  rw [ha, passThroughResult_awaited (by rw [hu]; exact hw), attn, hu]
  rfl

theorem abortLine_kept {s : State} {n : SlotId} (h : ∀ o l tag lost, lineReads s n o l tag → s.sysp.holder ≠ .waiting tag lost) :
    (abortLine s n).sysp = s.sysp := by
  by_cases hr : ∃ o l tag, lineReads s n o l tag
  · obtain ⟨o, l, tag, hr⟩ := hr
    obtain ⟨u, hu, ha⟩ := abortLine_sysp_read hr
    rw [ha, passThroughResult_dropped (fun lost => by rw [hu]; exact h o l tag lost hr), hu]
  · exact abortLine_sysp_other fun o l tag k => hr ⟨o, l, tag, k⟩

theorem abortLine_sysp (s : State) (n : SlotId) : (abortLine s n).sysp = { s.sysp with holder := (abortLine s n).sysp.holder } := by
  by_cases hr : ∃ o l tag lost, lineReads s n o l tag ∧ s.sysp.holder = .waiting tag lost
  · obtain ⟨o, l, tag, lost, hr, hw⟩ := hr
    rw [abortLine_gone hr hw]
  · rw [abortLine_kept fun o l tag lost h hw => hr ⟨o, l, tag, lost, h, hw⟩]

/-! ### The drained bus (R183) -/

/-- The store phase of a power failure (R183). -/
def storing (s : State) : State := { s with sto := { s.sto with power := .flushingStore } }

theorem drainCheck_eq (s : State) : drainCheck s =
    if s.sto.power = .flushingBus ∧ addUsedOutstanding s = false then storeFlushCheck (storing (provisionalEntries s)) else s := rfl

theorem storing_frame (s : State) : OnlyChanges [.sto] s (storing s) := sto_frame s _

theorem storeFlushed_holder (s : State) : (storeFlushed s).sysp.holder = s.sysp.holder := rfl

theorem storeFlushCheck_holder (s : State) : (storeFlushCheck s).sysp.holder = s.sysp.holder := by
  unfold storeFlushCheck
  split
  · exact storeFlushed_holder s
  · rfl

theorem drainCheck_idle {s : State} (h : s.sto.power ≠ .flushingBus) : drainCheck s = s := if_neg fun k => h k.1

theorem drainCheck_holder (s : State) : (drainCheck s).sysp.holder = s.sysp.holder := by
  rw [drainCheck_eq]
  split
  · rw [storeFlushCheck_holder, storing_frame _ .sysp (by decide), provisionalEntries_frame s .sysp (by decide)]
  · rfl

theorem drainCheck_his (s : State) : (drainCheck s).his = s.his ∨
    s.sto.power = .flushingBus ∧ (drainCheck s).his = (provisionalEntries s).his := by
  rw [drainCheck_eq]
  split
  · next h => exact .inr ⟨h.1, by rw [storeFlushCheck_frame _ .his (by decide), storing_frame _ .his (by decide)]⟩
  · exact .inl rfl

/-! ### A slot's work cancelled (R66, R154) -/

/-- Cancelled, the slot's entries, then its transaction, have been answered. -/
theorem cancelSlotWork_holder (s : State) (n : SlotId) :
    (cancelSlotWork s n).sysp.holder = (abortLine (dropEntries s n) n).sysp.holder := by
  rw [cancelSlotWork_eq, drainCheck_holder, arbitrate_frame _ .sysp (by decide)]

theorem dropEntries_sysp (s : State) (n : SlotId) : (dropEntries s n).sysp = { s.sysp with holder := (dropEntries s n).sysp.holder } :=
  cancelEntries_sysp _ _

theorem lineReads_dropEntries (s : State) (n : SlotId) (o l : Byte) (tag : Nat) :
    lineReads (dropEntries s n) n o l tag ↔ lineReads s n o l tag := by
  rw [lineReads, lineReads, dropEntries_cbc]

/-- An awaited read of the slot that waits is answered (R154). -/
theorem cancelSlotWork_gone_waiting {s : State} {n : SlotId} {tag : Nat} {lost : Bool} (hw : s.sysp.holder = .waiting tag lost)
    {before after : List QEntry} {o l : Byte} (hq : s.cbc.queue = before ++ .passThrough n o l tag :: after)
    (hb : ∀ a b : Byte, QEntry.passThrough n a b tag ∉ before) :
    (cancelSlotWork s n).sysp.holder = goneReply lost (attn s) n o l := by
  have hdrop : (dropEntries s n).sysp.holder = goneReply lost (attn s) n o l := by
    unfold dropEntries
    have hfilter : s.cbc.queue.filter (·.slot == n) =
        before.filter (·.slot == n) ++ .passThrough n o l tag :: after.filter (·.slot == n) := by
      rw [hq, List.filter_append, List.filter_cons_of_pos (by simp [QEntry.slot])]
    rw [hfilter]
    generalize hu : setCbc s { s.cbc with queue := s.cbc.queue.filter (·.slot != n) } = u
    have hsysp : u.sysp = s.sysp := by rw [← hu]; rfl
    rw [cancelEntries_awaited (by rw [hsysp]; exact hw), attn, hsysp]
    · rfl
    · rintro e he ⟨t, lost', m, a, b, ht, rfl⟩
      rw [hsysp, hw] at ht
      cases ht
      obtain ⟨hmem, hslot⟩ := List.mem_filter.1 he
      obtain rfl : m = n := by simpa [QEntry.slot] using hslot
      exact hb a b hmem
  rw [cancelSlotWork_holder, abortLine_kept fun _ _ _ _ _ h => ?_, hdrop]
  rw [hdrop] at h
  cases h

/-- No waiting read of the slot is awaited: the holder waits on. -/
theorem dropEntries_holder_kept {s : State} {n : SlotId}
    (h : ∀ tag lost, s.sysp.holder = .waiting tag lost → ∀ a b : Byte, QEntry.passThrough n a b tag ∉ s.cbc.queue) :
    (dropEntries s n).sysp = s.sysp := by
  unfold dropEntries
  rw [cancelEntries_other]
  · rfl
  · rintro e he ⟨tag, lost, m, a, b, ht, rfl⟩
    obtain ⟨hmem, hslot⟩ := List.mem_filter.1 he
    obtain rfl : m = n := by simpa [QEntry.slot] using hslot
    exact h tag lost ht a b hmem

theorem cancelSlotWork_gone_line {s : State} {n : SlotId} {tag : Nat} {lost : Bool} (hw : s.sysp.holder = .waiting tag lost)
    (hq : ∀ a b : Byte, QEntry.passThrough n a b tag ∉ s.cbc.queue) {o l : Byte} (hl : lineReads s n o l tag) :
    (cancelSlotWork s n).sysp.holder = goneReply lost (attn s) n o l := by
  have hdrop : (dropEntries s n).sysp = s.sysp := dropEntries_holder_kept fun t lost' ht => by
    rw [hw] at ht; cases ht; exact hq
  rw [cancelSlotWork_holder, abortLine_gone ((lineReads_dropEntries s n o l tag).2 hl) (by rw [hdrop]; exact hw), attn, hdrop]
  rfl

/-- With no read of the slot awaited, waiting or on the line, the holder stays as it is. -/
theorem cancelSlotWork_holder_kept {s : State} {n : SlotId}
    (h : ∀ tag lost, s.sysp.holder = .waiting tag lost →
      (∀ a b : Byte, QEntry.passThrough n a b tag ∉ s.cbc.queue) ∧ ∀ o l, ¬ lineReads s n o l tag) :
    (cancelSlotWork s n).sysp.holder = s.sysp.holder := by
  have hdrop := dropEntries_holder_kept (n := n) fun tag lost ht => (h tag lost ht).1
  rw [cancelSlotWork_holder, abortLine_kept fun o l tag lost hl ht => ?_, hdrop]
  rw [hdrop] at ht
  exact (h tag lost ht).2 o l ((lineReads_dropEntries s n o l tag).1 hl)

theorem cancelSlotWork_sysp {s : State} {n : SlotId} (h : s.sto.power ≠ .flushingBus) :
    (cancelSlotWork s n).sysp = { s.sysp with holder := (cancelSlotWork s n).sysp.holder } := by
  have hp : (arbitrate (abortLine (dropEntries s n) n)).sto.power ≠ .flushingBus := by
    rw [arbitrate_frame _ .sto (by decide), abortLine_others _ n .sto (by decide), dropEntries_frame s n .sto (by decide)]
    exact h
  rw [cancelSlotWork_eq, drainCheck_idle hp, arbitrate_frame _ .sysp (by decide), abortLine_sysp, dropEntries_sysp]

theorem endSlotWork_holder (s : State) (n : SlotId) : (endSlotWork s n).sysp.holder = (cancelSlotWork (closeAccount s n) n).sysp.holder := by
  rw [endSlotWork_eq, dropEngineHolds_frame _ n .sysp (by decide)]

theorem closeAccount_sysp (s : State) (n : SlotId) : (closeAccount s n).sysp = s.sysp := closeAccount_frame s n .sysp (by decide)

/-- What an awaited read of the slot, waiting or on the line, does to the holder as the slot's work ends (R154). -/
theorem endSlotWork_answers (s : State) (n : SlotId) :
    (∀ (tag : Nat) (lost : Bool), s.sysp.holder = .waiting tag lost →
      (∀ (before after : List QEntry) (o l : Byte), s.cbc.queue = before ++ .passThrough n o l tag :: after →
        (∀ a b : Byte, QEntry.passThrough n a b tag ∉ before) → (endSlotWork s n).sysp.holder = goneReply lost (attn s) n o l) ∧
      ((∀ a b : Byte, QEntry.passThrough n a b tag ∉ s.cbc.queue) →
        (∀ (tx : Transaction) (o l : Byte), s.cbc.line = some tx → tx.slot = n → tx.command = .readArea o l tag →
          (endSlotWork s n).sysp.holder = goneReply lost (attn s) n o l) ∧
        ((∀ (tx : Transaction) (o l : Byte), s.cbc.line = some tx → tx.slot = n → tx.command ≠ .readArea o l tag) →
          (endSlotWork s n).sysp.holder = s.sysp.holder))) ∧
    ((∀ (tag : Nat) (lost : Bool), s.sysp.holder ≠ .waiting tag lost) → (endSlotWork s n).sysp.holder = s.sysp.holder) := by
  have hs := closeAccount_sysp s n
  have hc := closeAccount_cbc s n
  have hattn : attn (closeAccount s n) = attn s := by rw [attn, attn, hs]
  rw [endSlotWork_holder]
  generalize closeAccount s n = u at hs hc hattn ⊢
  rw [← hs, ← hc, ← hattn]
  refine ⟨fun tag lost hw => ⟨fun before after o l hq hb => cancelSlotWork_gone_waiting hw hq hb, fun hq =>
    ⟨fun tx o l hl hn hcmd => cancelSlotWork_gone_line hw hq ⟨tx, hl, hn, hcmd⟩, fun hl => cancelSlotWork_holder_kept fun t lost' ht => ?_⟩⟩,
    fun hw => cancelSlotWork_holder_kept fun t lost ht => absurd ht (hw t lost)⟩
  rw [hw] at ht
  cases ht
  exact ⟨hq, fun o l ⟨tx, h1, h2, h3⟩ => hl tx o l h1 h2 h3⟩

theorem endSlotWork_sysp {s : State} {n : SlotId} (h : s.sto.power ≠ .flushingBus) :
    (endSlotWork s n).sysp = { s.sysp with holder := (endSlotWork s n).sysp.holder } := by
  have hp : (closeAccount s n).sto.power ≠ .flushingBus := by rw [(closeAccount_marks s n).power]; exact h
  have hsysp := cancelSlotWork_sysp (n := n) hp
  have heq : (endSlotWork s n).sysp = (cancelSlotWork (closeAccount s n) n).sysp := by
    rw [endSlotWork_eq, dropEngineHolds_frame _ n .sysp (by decide)]
  rwa [closeAccount_sysp, ← heq] at hsysp

/-! ### Nothing of the slot is left on the bus (R66) -/

/-- The bus carries nothing of slot `n`, waiting or on the line. -/
def BusRid (n : SlotId) (c : Cbc) : Prop := (∀ e ∈ c.queue, e.slot ≠ n) ∧ ∀ tx, c.line = some tx → tx.slot ≠ n

theorem beginAttempt_slot {s : State} {tx u : Transaction} (h : (beginAttempt s tx).cbc.line = some u) : u.slot = tx.slot := by
  have hv := beginAttempt_view s tx
  rw [h] at hv
  exact congrArg (·.1) (Option.some.inj hv)

theorem startTransaction_slot {s : State} {n : SlotId} {c : TxCommand} (hl : s.cbc.line = none) {u : Transaction}
    (h : (startTransaction s n c).cbc.line = some u) : u.slot = n := by
  unfold startTransaction at h
  split at h
  · split at h
    · rw [hl] at h; cases h
    · exact beginAttempt_slot h
  · split at h
    · cases h
    · exact beginAttempt_slot h
  · exact beginAttempt_slot h
  · exact beginAttempt_slot h

theorem oldestEntry_slots {q q' : List QEntry} {n : SlotId} {c : TxCommand} (h : oldestEntry q = some (n, c, q')) :
    (∃ e ∈ q, e.slot = n) ∧ ∀ e ∈ q', ∃ x ∈ q, x.slot = e.slot := by
  induction q with
  | nil => cases h
  | cons x q ih =>
    have htail (e : QEntry) (he : e ∈ q) : ∃ y ∈ x :: q, y.slot = e.slot := ⟨e, List.mem_cons_of_mem _ he, rfl⟩
    cases x with
    | admission m step => cases h; exact ⟨⟨_, List.mem_cons_self, rfl⟩, htail⟩
    | passThrough m o l tag => cases h; exact ⟨⟨_, List.mem_cons_self, rfl⟩, htail⟩
    | writeBack m ops =>
      cases ops with
      | nil =>
        obtain ⟨⟨y, hy, hn⟩, hall⟩ := ih h
        refine ⟨⟨y, List.mem_cons_of_mem _ hy, hn⟩, fun e he => ?_⟩
        obtain ⟨z, hz, hs⟩ := hall e he
        exact ⟨z, List.mem_cons_of_mem _ hz, hs⟩
      | cons op ops =>
        cases h
        refine ⟨⟨_, List.mem_cons_self, rfl⟩, fun e he => ?_⟩
        rcases List.mem_append.1 he with he | he
        · exact htail e he
        · unfold leftover at he
          split at he
          · cases he
          · rw [List.mem_singleton.1 he]; exact ⟨_, List.mem_cons_self, rfl⟩

theorem splitAddUsed_slots {q q' : List QEntry} {n : SlotId} {ops : List WbOp} (h : splitAddUsed q = some (n, ops, q')) :
    (∃ e ∈ q, e.slot = n) ∧ ∀ e ∈ q', ∃ x ∈ q, x.slot = e.slot := by
  induction q generalizing q' with
  | nil => cases h
  | cons x q ih =>
    have hskip (k : splitAddUsed (x :: q) = (splitAddUsed q).map fun (m, o, r) => (m, o, x :: r)) :
        (∃ e ∈ x :: q, e.slot = n) ∧ ∀ e ∈ q', ∃ y ∈ x :: q, y.slot = e.slot := by
      rw [k] at h
      obtain ⟨⟨m, o, r⟩, hr, he⟩ := Option.map_eq_some_iff.1 h
      cases he
      obtain ⟨⟨y, hy, hn⟩, hall⟩ := ih hr
      refine ⟨⟨y, List.mem_cons_of_mem _ hy, hn⟩, fun e he => ?_⟩
      rcases List.mem_cons.1 he with rfl | he
      · exact ⟨_, List.mem_cons_self, rfl⟩
      · obtain ⟨z, hz, hs⟩ := hall e he
        exact ⟨z, List.mem_cons_of_mem _ hz, hs⟩
    cases x with
    | admission m step => exact hskip rfl
    | passThrough m o l tag => exact hskip rfl
    | writeBack m os =>
      rw [splitAddUsed] at h
      split at h
      · cases h
        exact ⟨⟨_, List.mem_cons_self, rfl⟩, fun e he => ⟨e, List.mem_cons_of_mem _ he, rfl⟩⟩
      · next hc => exact hskip (by rw [splitAddUsed, if_neg hc])

/-- The arbiter starts an entry that waits, and leaves in the queue entries of slots that had one there. -/
theorem nextEntry_slots {flush : Bool} {q q' : List QEntry} {n : SlotId} {c : TxCommand} (h : nextEntry flush q = some (n, c, q')) :
    (∃ e ∈ q, e.slot = n) ∧ ∀ e ∈ q', ∃ x ∈ q, x.slot = e.slot := by
  unfold nextEntry at h
  split at h
  · obtain ⟨⟨m, ops, rest⟩, hr, hq⟩ := Option.map_eq_some_iff.1 h
    cases hq
    obtain ⟨hn, hall⟩ := splitAddUsed_slots hr
    refine ⟨hn, fun e he => ?_⟩
    rcases List.mem_append.1 he with he | he
    · exact hall e he
    · unfold leftover at he
      split at he
      · cases he
      · rw [List.mem_singleton.1 he]; exact hn
  · exact oldestEntry_slots h

theorem arbitrateUpTo_busRid {n : SlotId} (k : Nat) (s : State) (h : BusRid n s.cbc) : BusRid n (arbitrateUpTo k s).cbc := by
  induction k generalizing s with
  | zero => exact h
  | succ k ih =>
    by_cases hl : s.cbc.line.isSome = true
    · rw [arbitrateUpTo_busy _ _ hl]; exact h
    · rw [arbitrateUpTo, if_neg hl]
      split
      · exact h
      · next m c q hq =>
        obtain ⟨⟨x, hx, hm⟩, hall⟩ := nextEntry_slots hq
        refine ih _ ⟨fun e he => ?_, fun tx htx => ?_⟩
        · rw [startTransaction_queue] at he
          obtain ⟨y, hy, hs⟩ := hall e he
          rw [← hs]
          exact h.1 y hy
        · rw [startTransaction_slot (s := { s with cbc := { s.cbc with queue := q } }) (by simpa using hl) htx, ← hm]
          exact h.1 x hx

theorem arbitrate_busRid {n : SlotId} {s : State} (h : BusRid n s.cbc) : BusRid n (arbitrate s).cbc := arbitrateUpTo_busRid _ s h

theorem abortLine_busRid {s : State} {n : SlotId} (h : ∀ e ∈ s.cbc.queue, e.slot ≠ n) : BusRid n (abortLine s n).cbc := by
  cases hl : s.cbc.line with
  | none => rw [abortLine_none hl]; exact ⟨h, by rw [hl]; nofun⟩
  | some tx =>
    by_cases hn : tx.slot = n
    · subst hn
      rw [abortLine_own hl, handOver_noCartridge_cbc]
      exact ⟨h, nofun⟩
    · rw [abortLine_other hl hn]
      exact ⟨h, fun u hu => by rw [hl] at hu; cases hu; exact hn⟩

theorem cancelSlotWork_busRid (s : State) (n : SlotId) : BusRid n (cancelSlotWork s n).cbc := by
  rw [cancelSlotWork_eq, drainCheck_cbc]
  refine arbitrate_busRid (abortLine_busRid fun e he => ?_)
  rw [dropEntries_cbc] at he
  simpa using (List.mem_filter.1 he).2

theorem endSlotWork_busRid (s : State) (n : SlotId) : BusRid n (endSlotWork s n).cbc := cancelSlotWork_busRid _ n

/-! ### History after the slot's work has ended (R129 to R132) -/

theorem cancelSlotWork_accounts_map (s : State) (n m : SlotId) :
    (arbitrate (abortLine (dropEntries s n) n)).accounts[m].map (fun a => (a.serial, a.metered)) =
      s.accounts[m].map fun a => (a.serial, a.metered) := by
  rw [arbitrate_account_map _ _ fun _ _ _ => rfl, abortLine_others _ n .accounts (by decide), dropEntries_frame s n .accounts (by decide)]

/-- What the end of the slot's work leaves of history: that of the close, or that and the provisional entries (R131, R132). -/
theorem endSlotWork_his (s : State) (n : SlotId) :
    (endSlotWork s n).his = (closeAccount s n).his ∨ s.sto.power = .flushingBus ∧
      ∃ u : State, u.his = (closeAccount s n).his ∧
        (∀ m : SlotId, u.accounts[m].map (fun a => (a.serial, a.metered)) =
          (closeAccount s n).accounts[m].map fun a => (a.serial, a.metered)) ∧
        (endSlotWork s n).his = (provisionalEntries u).his := by
  have hmap := cancelSlotWork_accounts_map (closeAccount s n) n
  have hframe : OnlyChanges (arbiterParts ++ [.sysp]) (closeAccount s n) (arbitrate (abortLine (dropEntries (closeAccount s n) n) n)) :=
    (((dropEntries_frame _ n).mono (by decide)).trans ((abortLine_others _ n).mono (by decide))).trans
      ((arbitrate_frame _).mono (by decide))
  have hpower := (closeAccount_marks s n).power
  have heq : (endSlotWork s n).his = (drainCheck (arbitrate (abortLine (dropEntries (closeAccount s n) n) n))).his := by
    rw [endSlotWork_eq, dropEngineHolds_frame _ n .his (by decide), cancelSlotWork_eq]
  generalize arbitrate (abortLine (dropEntries (closeAccount s n) n) n) = u at hmap hframe heq
  have hhis : u.his = (closeAccount s n).his := hframe .his (by decide)
  rw [heq]
  rcases drainCheck_his u with h | ⟨hp, h⟩
  · exact .inl (h.trans hhis)
  · refine .inr ⟨?_, u, hhis, hmap, h⟩
    rwa [hframe .sto (by decide), hpower] at hp

theorem endSlotWork_retired (s : State) (n : SlotId) : (endSlotWork s n).his.retired = (closeAccount s n).his.retired := by
  rcases endSlotWork_his s n with h | ⟨-, u, hu, -, h⟩
  · rw [h]
  · rw [h, provisionalEntries_retired, hu]

theorem otherSlots_length (n : SlotId) : (allSlots.filter (· ≠ n)).length = 9 := by
  revert n
  decide

/-- The entry that a close writes lasts, in normal service or if no other slot's provisional entry displaces it. -/
theorem endSlotWork_entry {s : State} {n : SlotId} {a : Account} (ha : s.accounts[n] = some a) (hm : a.metered = true)
    (h : s.sto.power ≠ .flushingBus ∨ SeenEntryLasts s n a.serial) :
    ∃ (p : Fin 32) (k : Nat), (endSlotWork s n).his.seen[p] = some (closedEntry n a k) := by
  have hseen : (closeAccount s n).his.seen = (seenFromAccount s n a).his.seen := by
    rw [closeAccount_his ha, (closeIntoHistory_seen hm).1]
  have hkept : (endSlotWork s n).his = (closeAccount s n).his →
      ∃ (p : Fin 32) (k : Nat), (endSlotWork s n).his.seen[p] = some (closedEntry n a k) := by
    intro hh
    rw [hh, hseen]
    exact seenFromAccount_entry s n a
  rcases endSlotWork_his s n with hh | ⟨hp, u, hu, hacc, hh⟩
  · exact hkept hh
  · obtain ⟨halone, holder, hroom⟩ := h.resolve_left (fun k => k hp)
    have hstamp : (closeAccount s n).his.stamp = s.his.stamp + 1 := by
      rw [closeAccount_his ha, (closeIntoHistory_seen hm).2, seenFromAccount_room (by omega)]
    refine ⟨seenPosition s.his.seen a.serial, s.his.stamp, ?_⟩
    rw [hh, provisionalEntries_eq]
    refine WrittenAfter.provisional (n := n) allSlots u [] ⟨?_, fun q _ hq x hx => ?_⟩ ?_ (fun m b hb hbm => ?_) ?_ ?_
    · rw [hu, hseen, seenFromAccount_room (by omega)]
      exact put_same _ _ _
    · rw [hu, hseen, seenFromAccount_room (by omega)] at hx
      exact holder q x ((put_other _ _ _ _ hq).symm.trans hx)
    · have := hacc n
      rw [closeAccount_accounts, put_same] at this
      exact Option.map_eq_none_iff.1 this
    · have hmap := hacc m
      rw [closeAccount_accounts, hb] at hmap
      by_cases hmn : m = n
      · subst hmn
        rw [put_same] at hmap
        cases hmap
      · rw [put_other _ _ _ _ hmn] at hmap
        obtain ⟨c, hc, hpair⟩ := Option.map_eq_some_iff.1 hmap.symm
        obtain ⟨hserial, hmetered⟩ := Prod.mk.inj hpair
        rw [← hserial]
        exact halone m c hmn hc (hmetered.trans hbm)
    · rw [otherSlots_length]; decide
    · rw [otherSlots_length, hu, hstamp]; omega

/-! ### The slot emptied (R11) -/

theorem vacated_frame (s : State) (n : SlotId) (due : Bool) : OnlyChanges [.prf, .slots, .sysp, .engp] s (vacated s n due) := by
  have h : OnlyChanges [.prf, .slots, .sysp, .engp] s (moveSlot (clearSlot s n) n .vacant) :=
    (((setIdentity_frame s n none).mono (by decide)).trans ((modSlot_frame _ n _).mono (by decide))).trans
      ((moveSlot_frame (clearSlot s n) n _).mono (by decide))
  exact .ite (h.trans ((raiseAlert_frame _ n _ _).mono (by decide))) h

theorem raiseAlert_frame_slot (s : State) (n : SlotId) (c : AlertCode) (v : Option Word) :
    OnlyChanges [.slots, .sysp] s (raiseAlert s n c v) :=
  ((modSlot_frame s n _).mono (by decide)).trans ((postEvent_frame _ _ _ _ _).mono (by decide))

theorem vacated_engp (s : State) (n : SlotId) (due : Bool) :
    (vacated s n due).engp = { s.engp with gates := put s.engp.gates n false } := by
  have h := moveSlot_engp_low (clearSlot s n) n (st := .vacant) nofun
  unfold vacated
  split
  · exact (raiseAlert_frame_slot _ n _ _ .engp (by decide)).trans h
  · exact h

theorem vacated_identity (s : State) (n : SlotId) (due : Bool) : (vacated s n due).prf.identity[n] = none := by
  have h : (vacated s n due).prf = (clearSlot s n).prf := by
    unfold vacated
    split
    · exact raiseAlert_frame_slot _ n _ _ .prf (by decide)
    · rfl
  rw [h]
  exact clearSlot_identity s n

/-- The slot's record after its move to VACANT, before an alert. -/
theorem moveSlot_vacant_same (s : State) (n : SlotId) :
    (moveSlot (clearSlot s n) n .vacant).slots[n].state = .vacant ∧ (moveSlot (clearSlot s n) n .vacant).slots[n].target = .online ∧
      (moveSlot (clearSlot s n) n .vacant).slots[n].override = none ∧
      (moveSlot (clearSlot s n) n .vacant).slots[n].alert = s.slots[n].alert := by
  rw [moveSlot_same, clearSlot_same]
  exact ⟨rfl, rfl, rfl, rfl⟩

theorem vacated_same (s : State) (n : SlotId) (due : Bool) :
    (vacated s n due).slots[n].state = .vacant ∧ (vacated s n due).slots[n].target = .online ∧
      (vacated s n due).slots[n].override = none ∧
      (vacated s n due).slots[n].alert = if due then some (s.slots[n].alert.getD .removedInUse) else s.slots[n].alert := by
  obtain ⟨hstate, htarget, hover, halert⟩ := moveSlot_vacant_same s n
  unfold vacated
  cases due
  · exact ⟨hstate, htarget, hover, halert⟩
  · obtain ⟨h1, h2, h3, h4, -, -⟩ := raiseAlert_state (moveSlot (clearSlot s n) n .vacant) n .removedInUse none
    refine ⟨h1.trans hstate, h2.trans htarget, h4.trans hover, h3.trans ?_⟩
    rw [halert]
    rfl

/-- The events of an emptied slot: its move, then the alert if one is due (R20). -/
def vacatedEvents (s : State) (n : SlotId) (due : Bool) : State :=
  if due then postEvent (postEvent s .slotState (slotByte n) SlotState.vacant.code none) .alert (slotByte n) AlertCode.removedInUse.code none
  else postEvent s .slotState (slotByte n) SlotState.vacant.code none

theorem raiseAlert_sysp (s : State) (n : SlotId) (c : AlertCode) (v : Option Word) :
    (raiseAlert s n c v).sysp = (postEvent s .alert (slotByte n) c.code v).sysp := rfl

theorem vacated_sysp (s : State) (n : SlotId) (due : Bool) : (vacated s n due).sysp = (vacatedEvents s n due).sysp := by
  have hmove : (moveSlot (clearSlot s n) n .vacant).sysp = (postEvent s .slotState (slotByte n) SlotState.vacant.code none).sysp := by
    rw [moveSlot_sysp]
    exact postEvent_sysp_congr (s := clearSlot s n) (t := s) rfl .slotState (slotByte n) _ _
  unfold vacated vacatedEvents
  cases due
  · exact hmove
  · rw [if_pos rfl, if_pos rfl, raiseAlert_sysp]
    exact postEvent_sysp_congr hmove _ _ _ _

/-- A holder apart, an event is posted alike. -/
theorem postEvent_sysp_holder {s t : State} {h : Holder} (hs : t.sysp = { s.sysp with holder := h }) (k : EventKind) (n c : Byte)
    (v : Option Word) : (postEvent t k n c v).sysp = { (postEvent s k n c v).sysp with holder := h } := by
  rw [postEvent_sysp, postEvent_sysp, hs]

theorem vacatedEvents_sysp_holder {s t : State} {h : Holder} (hs : t.sysp = { s.sysp with holder := h }) (n : SlotId) (due : Bool) :
    (vacatedEvents t n due).sysp = { (vacatedEvents s n due).sysp with holder := h } := by
  have h1 := postEvent_sysp_holder hs .slotState (slotByte n) SlotState.vacant.code none
  unfold vacatedEvents
  cases due
  · exact h1
  · exact postEvent_sysp_holder h1 _ _ _ _

theorem vacatedEvents_holder (s : State) (n : SlotId) (due : Bool) : (vacatedEvents s n due).sysp.holder = s.sysp.holder := by
  unfold vacatedEvents
  split <;> rfl

end Sys2Proof.Machine
end

section
namespace Sys2Proof.Machine

/-! ### The removal as a whole (O22) -/

theorem removal_cbc (s : State) (n : SlotId) : (removal s n).cbc = (endSlotWork s n).cbc := by
  rw [removal_eq, vacated_frame _ n _ .cbc (by decide)]

theorem removal_his (s : State) (n : SlotId) : (removal s n).his = (endSlotWork s n).his := by
  rw [removal_eq, vacated_frame _ n _ .his (by decide)]

theorem removal_accounts (s : State) (n : SlotId) : (removal s n).accounts[n] = none := by
  have h : (removal s n).accounts = (endSlotWork s n).accounts := by rw [removal_eq, vacated_frame _ n _ .accounts (by decide)]
  rw [h]
  exact endSlotWork_account s n

theorem removal_same (s : State) (n : SlotId) :
    (removal s n).slots[n].state = .vacant ∧ (removal s n).slots[n].target = .online ∧ (removal s n).slots[n].override = none ∧
      (removal s n).slots[n].alert =
        if removedInUse s n then some (s.slots[n].alert.getD .removedInUse) else s.slots[n].alert := by
  rw [removal_eq]
  have h := vacated_same (endSlotWork s n) n (removedInUse s n)
  rwa [endSlotWork_slots] at h

theorem removal_engine (s : State) (n : SlotId) :
    holds (removal s n) n = 0 ∧ (removal s n).engp.purges[n] = none ∧ (removal s n).engp.gates[n] = false := by
  rw [removal_eq]
  have hengp := vacated_engp (endSlotWork s n) n (removedInUse s n)
  obtain ⟨hh, hp⟩ := holds_gates _ _ _ n hengp
  obtain ⟨hh', hp'⟩ := endSlotWork_holds s n
  refine ⟨hh.trans hh', hp.trans hp', ?_⟩
  rw [hengp]
  exact put_same _ _ _

theorem removal_holder (s : State) (n : SlotId) : (removal s n).sysp.holder = (endSlotWork s n).sysp.holder := by
  rw [removal_eq, vacated_sysp, vacatedEvents_holder]

theorem removal_sysp {s : State} {n : SlotId} (h : s.sto.power ≠ .flushingBus) :
    (removal s n).sysp = { (vacatedEvents s n (removedInUse s n)).sysp with holder := (removal s n).sysp.holder } := by
  rw [removal_holder, removal_eq, vacated_sysp]
  exact vacatedEvents_sysp_holder (endSlotWork_sysp h) n _

theorem removal_retired (s : State) (n : SlotId) : (removal s n).his.retired = (closeAccount s n).his.retired := by
  rw [removal_his, endSlotWork_retired]

/-- What a removal leaves of an account in history (R103, R129 to R131). -/
theorem removal_history {s : State} {n : SlotId} {a : Account} (ha : s.accounts[n] = some a) :
    (a.metered = false → s.sto.power ≠ .flushingBus → (removal s n).his = s.his) ∧
    (a.metered = false → (removal s n).his.retired = s.his.retired) ∧
    (a.metered = true → s.sto.power ≠ .flushingBus ∨ SeenEntryLasts s n a.serial →
      ∃ (p : Fin 32) (k : Nat), (removal s n).his.seen[p] = some (closedEntry n a k)) ∧
    (a.metered = true → a.spent = .marked ∨ a.spent = .found →
      ∃ (p : Fin 64) (e : RetiredEntry), (removal s n).his.retired[p] = some e ∧ e.serial = a.serial ∧ e.reason = .spent) ∧
    (a.metered = true → a.spent ≠ .marked → a.spent ≠ .found →
      (s.slots[n].state = .exhausted → isRetired s a.serial = false →
        ∃ (p : Fin 64) (e : RetiredEntry), (removal s n).his.retired[p] = some e ∧ e.serial = a.serial ∧
          e.reason = .exhaustedRemoved) ∧
      (s.slots[n].state ≠ .exhausted ∨ isRetired s a.serial = true → (removal s n).his.retired = s.his.retired)) := by
  have hclose := closeAccount_his ha
  have hretired := removal_retired s n
  rw [hclose] at hretired
  have hisRetired : isRetired (seenFromAccount s n a) a.serial = isRetired s a.serial := by
    rw [isRetired, isRetired, seenFromAccount_retired]
  refine ⟨fun hm hp => ?_, fun hm => ?_, fun hm h => ?_, fun hm hs => ?_, fun hm h1 h2 => ⟨fun hx hr => ?_, fun hx => ?_⟩⟩
  · rcases endSlotWork_his s n with h | ⟨hp', -⟩
    · rw [removal_his, h, hclose, closeIntoHistory_unmetered hm]
    · exact absurd hp' hp
  · rw [hretired, closeIntoHistory_unmetered hm]
  · rw [removal_his]
    exact endSlotWork_entry ha hm h
  · rw [hretired, closeIntoHistory_spent hm hs]
    exact addRetired_spent _ _
  · rw [hretired, closeIntoHistory_exhausted hm h1 h2 hx, addRetired_new (hisRetired.trans hr)]
    exact newRetired_entry _ _ _
  · rw [hretired]
    by_cases hex : s.slots[n].state = .exhausted
    · rw [closeIntoHistory_exhausted hm h1 h2 hex, addRetired_held (hisRetired.trans (hx.resolve_left (not_not.2 hex)))]
      exact seenFromAccount_retired s n a
    · rw [closeIntoHistory_plain hm h1 h2 hex]
      exact seenFromAccount_retired s n a

theorem exec_removal {s : State} {n : SlotId} (hr : s.phase = .running) (ht : s.slots[n].presenceTimer.isSome = true)
    (hl : s.lines.presence[n] = false) (hv : s.slots[n].state ≠ .vacant) :
    exec (.presenceTimerExpiry n) s = .next (removal (senseSlot s n false) n) := by
  have hv' : (senseSlot s n false).slots[n].state ≠ .vacant := by rw [senseSlot_same]; exact hv
  refine (execPresenceTimerExpiry_eq n s).trans ?_
  rw [if_pos ⟨hr, ht⟩, hl, if_neg (by simp), if_pos ⟨rfl, hv'⟩]

theorem removedInUse_congr {s t : State} {n : SlotId} (hs : t.slots[n].state = s.slots[n].state) (ha : t.accounts[n] = s.accounts[n]) :
    removedInUse t n = removedInUse s n := by
  rw [removedInUse, removedInUse, inAccountState, inAccountState, hs, ha]

theorem SeenEntryLasts.congr {s t : State} {n : SlotId} {serial : Serial} (h : SeenEntryLasts s n serial) (ha : t.accounts = s.accounts)
    (hh : t.his = s.his) : SeenEntryLasts t n serial := by
  unfold SeenEntryLasts at h ⊢
  rwa [ha, hh]

/-- Settles O22. -/
theorem aRemovalLeavesNothingOfTheCartridge : Obligations.ARemovalLeavesNothingOfTheCartridge := by
  intro s n hr ht hl hv
  have hs : OnlyChanges [.slots] s (senseSlot s n false) := modSlot_frame s n _
  have hrec := senseSlot_same s n false
  have hoth : OtherSlotsKept n s (senseSlot s n false) := modSlot_others s n _
  refine ⟨_, exec_removal hr ht hl hv, (hs.mono (by decide)).trans (removal_frame _ n), hoth.trans (removal_others _ n), ?_⟩
  have hstate : (senseSlot s n false).slots[n].state = s.slots[n].state := by rw [hrec]
  have halert : (senseSlot s n false).slots[n].alert = s.slots[n].alert := by rw [hrec]
  clear hrec hoth
  generalize senseSlot s n false = u at hs hstate halert ⊢
  have hcbc : u.cbc = s.cbc := hs .cbc (by decide)
  have hsysp : u.sysp = s.sysp := hs .sysp (by decide)
  have haccounts : u.accounts = s.accounts := hs .accounts (by decide)
  have hhis : u.his = s.his := hs .his (by decide)
  have hsto : u.sto = s.sto := hs .sto (by decide)
  have huse : removedInUse u n = removedInUse s n := removedInUse_congr hstate (by rw [haccounts])
  have hattn : attn u = attn s := by rw [attn, attn, hsysp]
  have hretired (serial : Serial) : isRetired u serial = isRetired s serial := by rw [isRetired, isRetired, hhis]
  obtain ⟨h1, h2, h3, h4⟩ := removal_same u n
  rw [halert, huse] at h4
  obtain ⟨hholds, hpurge, hgate⟩ := removal_engine u n
  have hid : (removal u n).prf.identity[n] = none := by rw [removal_eq]; exact vacated_identity _ n _
  obtain ⟨hqueue, hline⟩ := endSlotWork_busRid u n
  rw [← removal_cbc] at hqueue hline
  obtain ⟨hwait, hready⟩ := endSlotWork_answers u n
  simp only [hsysp, hcbc, hattn, ← removal_holder] at hwait hready
  refine ⟨h1, h2, h3, removal_accounts u n, hid, hqueue, hline, hholds, hpurge, hgate, fun a ha => ?_, fun ha => ?_, fun hp => ?_,
    fun tx htx => ⟨fun hn => ?_, fun hn => ?_⟩, fun hnone hq => ?_, hwait, hready, fun a ha => ?_⟩
  · rw [h4, ha]
    exact ite_self _
  · rw [h4, ha]
    rfl
  · have h := removal_sysp (s := u) (n := n) (by rw [hsto]; exact hp)
    rw [huse] at h
    refine h.trans ?_
    rw [vacatedEvents_sysp_holder (s := s) (h := s.sysp.holder) (by rw [hsysp])]
    rfl
  · subst hn
    rw [removal_cbc]
    exact endSlotWork_cbc_own (by rw [hcbc]; exact htx)
  · rw [removal_cbc, endSlotWork_cbc_other (by rw [hcbc]; exact htx) hn, hcbc]
  · rw [removal_cbc, endSlotWork_cbc_idle (by rw [hcbc]; exact hnone) (by rw [hcbc]; exact hq), hcbc]
  · obtain ⟨k1, k2, k3, k4, k5⟩ := removal_history (s := u) (n := n) (a := a) (by rw [haccounts]; exact ha)
    rw [hsto, hhis] at k1
    rw [hhis] at k2
    rw [hsto] at k3
    rw [hstate, hretired, hhis] at k5
    refine ⟨k1, k2, fun hm h => ?_, k4, k5⟩
    obtain ⟨p, k, he⟩ := k3 hm (h.imp id fun h => h.congr haccounts hhis)
    exact ⟨p, _, he, rfl, rfl, rfl, rfl, rfl⟩

end Sys2Proof.Machine
end

section
/-! SET_POLICY and SET_LIMITS (R87, R155 to R157; O30). -/

namespace Sys2Proof.Machine

/-! ### Levels computed afresh (R87, R157) -/

/-- The account and the new level of a metered account whose level falls as the limits go from `old` to `l`: levels are
computed only when a percentage changes (R157). -/
def fallenLevel (l old : Limits) (o : Option Account) : Option (Account × Level) := o.bind fun a =>
  let v := lowerLevel a.level (levelComputed l a.capacity (headroom a))
  if a.metered = true ∧ (l.low ≠ old.low ∨ l.reserve ≠ old.reserve) ∧ v ≠ a.level then some (a, v) else none

/-- The account with its level computed afresh. -/
def releveled (l old : Limits) (a : Account) : Account :=
  if a.metered = true ∧ (l.low ≠ old.low ∨ l.reserve ≠ old.reserve) then
    { a with level := lowerLevel a.level (levelComputed l a.capacity (headroom a)) }
  else a

/-- The LEVEL event of a level that fell. -/
def postFallen (f : Option (Account × Level)) (u : State) (n : SlotId) : State :=
  match f with
  | some (a, v) => postEvent u .level (slotByte n) v.code (some (figure (headroom a)))
  | none => u

/-- A lamp that follows a pattern (R22). -/
def relit (p : LampPattern) (r : SlotRec) : SlotRec :=
  if r.override.isSome || r.shown != p then { r with override := none, shown := p, lampPhase := 0 } else r

/-- The record of a slot whose level fell: only a READY slot's lamp follows it. -/
def releveledSlot (f : Option (Account × Level)) (r : SlotRec) : SlotRec :=
  match f with
  | some (_, v) => if r.state = .ready then relit (statePattern .ready (some v)) r else r
  | none => r

theorem relit_eq (p : LampPattern) (r : SlotRec) :
    relit p r = { r with override := none, shown := p, lampPhase := (relit p r).lampPhase } := by
  unfold relit
  split
  · rfl
  · next h =>
    simp only [Bool.or_eq_true, bne_iff_ne, not_or, ne_eq, not_not, Bool.not_eq_true, Option.isSome_eq_false_iff,
      Option.isNone_iff_eq_none] at h
    rw [← h.1, ← h.2]

theorem fallenLevel_none {l old : Limits} (h : ¬ (l.low ≠ old.low ∨ l.reserve ≠ old.reserve)) (o : Option Account) :
    fallenLevel l old o = none := by
  cases o with
  | none => rfl
  | some a => exact if_neg fun k => h k.2.1

theorem releveled_same {l old : Limits} (h : ¬ (l.low ≠ old.low ∨ l.reserve ≠ old.reserve)) (a : Account) :
    releveled l old a = a := if_neg fun k => h k.2

theorem upd_id {α : Type} {k : Nat} (v : Vector α k) (i : Fin k) {f : α → α} (h : f v[i] = v[i]) : upd v i f = v := by
  rw [upd, h, put_getElem]

theorem lampAfterChange_slots (s : State) (n : SlotId) : (lampAfterChange s n).slots = upd s.slots n (relit (patternOf s n)) := rfl

/-- What one level computed afresh does, in the three parts it touches. -/
theorem refreshLevel_spec {l old : Limits} (hc : l.low ≠ old.low ∨ l.reserve ≠ old.reserve) {s : State} (hl : s.settings.limits = l)
    (n : SlotId) :
    (refreshLevel s n).accounts = upd s.accounts n (Option.map (releveled l old)) ∧
      (refreshLevel s n).sysp = (postFallen (fallenLevel l old s.accounts[n]) s n).sysp ∧
      (refreshLevel s n).slots = upd s.slots n (releveledSlot (fallenLevel l old s.accounts[n])) := by
  unfold refreshLevel
  cases ha : s.accounts[n] with
  | none =>
    refine ⟨(upd_id _ _ ?_).symm, rfl, (upd_id _ _ rfl).symm⟩
    rw [ha]; rfl
  | some a =>
    dsimp only
    rw [hl]
    by_cases hm : a.metered = true ∧ lowerLevel a.level (levelComputed l a.capacity (headroom a)) ≠ a.level
    · have hf : fallenLevel l old (some a) = some (a, lowerLevel a.level (levelComputed l a.capacity (headroom a))) :=
        if_pos ⟨hm.1, hc, hm.2⟩
      have hr : releveled l old a = { a with level := lowerLevel a.level (levelComputed l a.capacity (headroom a)) } :=
        if_pos ⟨hm.1, hc⟩
      have hacc : upd s.accounts n (Option.map (releveled l old)) = put s.accounts n (some (releveled l old a)) := by
        rw [upd, ha]; rfl
      rw [if_pos hm, hf, hacc, hr]
      generalize lowerLevel a.level (levelComputed l a.capacity (headroom a)) = v
      by_cases hready : s.slots[n].state = .ready
      · have hp : patternOf (postEvent (setAccount s n (some { a with level := v })) .level (slotByte n) v.code
            (some (figure (headroom a)))) n = statePattern .ready (some v) := by
          rw [patternOf, postEvent_slots, postEvent_accounts, setAccount_accounts, put_same]
          show statePattern s.slots[n].state (some v) = _
          rw [hready]
        refine (if_pos (c := (postEvent (setAccount s n (some { a with level := v })) .level (slotByte n) v.code
            (some (figure (headroom a)))).slots[n].state = .ready) hready).symm ▸ ?_
        refine ⟨rfl, rfl, ?_⟩
        rw [lampAfterChange_slots, hp]
        show upd s.slots n _ = upd s.slots n _
        rw [upd, upd, releveledSlot, if_pos hready]
      · refine (if_neg (c := (postEvent (setAccount s n (some { a with level := v })) .level (slotByte n) v.code
            (some (figure (headroom a)))).slots[n].state = .ready) hready).symm ▸ ?_
        exact ⟨rfl, rfl, (upd_id _ _ (if_neg hready)).symm⟩
    · have hf : fallenLevel l old (some a) = none := if_neg fun k => hm ⟨k.1, k.2.2⟩
      have hr : releveled l old a = a := by
        by_cases hmet : a.metered = true
        · have hv : lowerLevel a.level (levelComputed l a.capacity (headroom a)) = a.level := not_not.1 fun k => hm ⟨hmet, k⟩
          rw [releveled, hv]
          exact ite_self a
        · exact if_neg fun k => hmet k.1
      rw [if_neg hm, hf]
      exact ⟨(upd_id _ _ (by rw [ha, Option.map_some, hr])).symm, rfl, (upd_id _ _ rfl).symm⟩

theorem postFallen_sysp_congr {s t : State} (h : s.sysp = t.sysp) (f : Option (Account × Level)) (n : SlotId) :
    (postFallen f s n).sysp = (postFallen f t n).sysp := by
  unfold postFallen
  split
  · exact postEvent_sysp_congr h _ _ _ _
  · exact h

/-- The LEVEL events of the accounts in `v`, in the order of a list of slots. -/
def postLevels (l old : Limits) (v : Vector (Option Account) 10) (slots : List SlotId) (u : State) : State :=
  slots.foldl (fun u n => postFallen (fallenLevel l old v[n]) u n) u

theorem postLevels_cons (l old : Limits) (v : Vector (Option Account) 10) (n : SlotId) (slots : List SlotId) (u : State) :
    postLevels l old v (n :: slots) u = postLevels l old v slots (postFallen (fallenLevel l old v[n]) u n) := rfl

theorem postLevels_sysp_congr {l old : Limits} {v w : Vector (Option Account) 10} (slots : List SlotId) {s t : State}
    (h : s.sysp = t.sysp) (hv : ∀ n ∈ slots, v[n] = w[n]) : (postLevels l old v slots s).sysp = (postLevels l old w slots t).sysp := by
  induction slots generalizing s t with
  | nil => exact h
  | cons n slots ih =>
    rw [postLevels_cons, postLevels_cons, hv n List.mem_cons_self]
    exact ih (postFallen_sysp_congr h _ _) fun m hm => hv m (List.mem_cons_of_mem _ hm)

/-- Levels computed afresh for the slots of a list, each once. -/
theorem refreshLevels_spec {l old : Limits} (hc : l.low ≠ old.low ∨ l.reserve ≠ old.reserve) (slots : List SlotId) (hn : slots.Nodup)
    {s : State} (hl : s.settings.limits = l) :
    (∀ m : SlotId, (slots.foldl refreshLevel s).accounts[m] =
      if m ∈ slots then s.accounts[m].map (releveled l old) else s.accounts[m]) ∧
    (slots.foldl refreshLevel s).sysp = (postLevels l old s.accounts slots s).sysp ∧
    ∀ m : SlotId, (slots.foldl refreshLevel s).slots[m] =
      if m ∈ slots then releveledSlot (fallenLevel l old s.accounts[m]) s.slots[m] else s.slots[m] := by
  induction slots generalizing s with
  | nil => exact ⟨fun _ => rfl, rfl, fun _ => rfl⟩
  | cons n slots ih =>
    obtain ⟨hnot, hn⟩ := List.nodup_cons.1 hn
    obtain ⟨hacc, hsysp, hslots⟩ := refreshLevel_spec hc hl n
    obtain ⟨h1, h2, h3⟩ := ih hn (s := refreshLevel s n) (by rw [refreshLevel_frame s n .settings (by decide)]; exact hl)
    have hother (m : SlotId) (hm : m ≠ n) : (refreshLevel s n).accounts[m] = s.accounts[m] := by rw [hacc, upd_other _ _ _ _ hm]
    refine ⟨fun m => ?_, ?_, fun m => ?_⟩
    · rw [List.foldl_cons, h1 m, hacc]
      by_cases hm : m = n
      · subst hm
        rw [if_neg hnot, if_pos List.mem_cons_self, upd_same]
      · rw [upd_other _ _ _ _ hm]
        simp only [List.mem_cons, hm, false_or]
    · rw [List.foldl_cons, h2, postLevels_cons]
      exact postLevels_sysp_congr slots hsysp fun m hm => hother m fun e => hnot (e ▸ hm)
    · rw [List.foldl_cons, h3 m, hslots]
      by_cases hm : m = n
      · subst hm
        rw [if_neg hnot, if_pos List.mem_cons_self, upd_same]
      · rw [upd_other _ _ _ _ hm, hother m hm]
        simp only [List.mem_cons, hm, false_or]

/-! ### SET_LIMITS (R156, R157) -/

/-- The limits set, before any level is computed. -/
def limitsStored (s : State) (l : Limits) : State :=
  markDirty { s with settings := { s.settings with limits := l } } recSettings

theorem limitsStored_frame (s : State) (l : Limits) : OnlyChanges [.settings, .sto] s (limitsStored s l) :=
  ((settings_frame s _).mono (by decide)).trans ((markDirty_frame _ _).mono (by decide))

/-- The state after SET_LIMITS. -/
def limitsSet (s : State) (l : Limits) : State :=
  if l = s.settings.limits then s
  else if l.low ≠ s.settings.limits.low ∨ l.reserve ≠ s.settings.limits.reserve then allSlots.foldl refreshLevel (limitsStored s l)
  else limitsStored s l

theorem actSetLimits_eq (asked : Limits) (s : State) :
    actSetLimits asked s = (limitsSet s (clampLimits asked), if clampLimits asked = asked then .ok else .clamped,
      limitFields (clampLimits asked)) := rfl

theorem levels_frame (slots : List SlotId) (s : State) : OnlyChanges [.accounts, .sysp, .slots] s (slots.foldl refreshLevel s) :=
  OnlyChanges.foldl _ (fun t n => refreshLevel_frame t n) slots s

theorem limitsSet_frame (s : State) (l : Limits) : OnlyChanges [.settings, .sto, .sysp, .accounts, .slots] s (limitsSet s l) := by
  have h : OnlyChanges [.settings, .sto, .sysp, .accounts, .slots] s (limitsStored s l) := (limitsStored_frame s l).mono (by decide)
  exact .ite (.refl _ s) (.ite (h.trans ((levels_frame _ _).mono (by decide))) h)

theorem limitsSet_settings (s : State) (l : Limits) : (limitsSet s l).settings = { s.settings with limits := l } := by
  unfold limitsSet
  split
  · next h => rw [h]
  · split
    · exact levels_frame _ _ .settings (by decide)
    · rfl

theorem limitsSet_sto (s : State) (l : Limits) :
    (limitsSet s l).sto = { s.sto with
      dirty := if l = s.settings.limits then s.sto.dirty else put s.sto.dirty recSettings true } := by
  unfold limitsSet
  split
  · rfl
  · split
    · exact levels_frame _ _ .sto (by decide)
    · rfl

theorem postLevels_none {l old : Limits} (h : ¬ (l.low ≠ old.low ∨ l.reserve ≠ old.reserve)) (v : Vector (Option Account) 10)
    (slots : List SlotId) (u : State) : postLevels l old v slots u = u := by
  induction slots generalizing u with
  | nil => rfl
  | cons n slots ih =>
    rw [postLevels_cons, fallenLevel_none h]
    exact ih u

/-- The accounts, events and slot records after SET_LIMITS. -/
theorem limitsSet_levels (s : State) (l : Limits) :
    (∀ m : SlotId, (limitsSet s l).accounts[m] = s.accounts[m].map (releveled l s.settings.limits)) ∧
      (limitsSet s l).sysp = (postLevels l s.settings.limits s.accounts allSlots s).sysp ∧
      ∀ m : SlotId, (limitsSet s l).slots[m] = releveledSlot (fallenLevel l s.settings.limits s.accounts[m]) s.slots[m] := by
  have hstored := limitsStored_frame s l
  by_cases hc : l.low ≠ s.settings.limits.low ∨ l.reserve ≠ s.settings.limits.reserve
  · have hne : l ≠ s.settings.limits := by
      rintro rfl
      exact hc.elim (· rfl) (· rfl)
    obtain ⟨h1, h2, h3⟩ := refreshLevels_spec hc allSlots (by decide) (s := limitsStored s l) rfl
    have hall (m : SlotId) : m ∈ allSlots := List.mem_finRange m
    rw [limitsSet, if_neg hne, if_pos hc]
    exact ⟨fun m => (h1 m).trans (if_pos (hall m)), h2.trans (postLevels_sysp_congr _ rfl fun _ _ => rfl),
      fun m => (h3 m).trans (if_pos (hall m))⟩
  · have hkeep : (limitsSet s l).accounts = s.accounts ∧ (limitsSet s l).sysp = s.sysp ∧ (limitsSet s l).slots = s.slots := by
      rw [limitsSet, if_neg hc]
      split <;> exact ⟨rfl, rfl, rfl⟩
    obtain ⟨h1, h2, h3⟩ := hkeep
    refine ⟨fun m => ?_, by rw [h2, postLevels_none hc], fun m => by rw [h3, fallenLevel_none hc]; rfl⟩
    rw [h1]
    cases s.accounts[m] with
    | none => rfl
    | some a => rw [Option.map_some, releveled_same hc]

/-- Holder and bytes sent apart, the LEVEL events are posted alike. -/
theorem postLevels_sysp_sent {l old : Limits} {v : Vector (Option Account) 10} (slots : List SlotId) {s t : State} {h : Holder}
    {x : List Byte} (hs : t.sysp = { s.sysp with holder := h, sent := x }) :
    (postLevels l old v slots t).sysp = { (postLevels l old v slots s).sysp with holder := h, sent := x } := by
  induction slots generalizing s t with
  | nil => exact hs
  | cons n slots ih =>
    rw [postLevels_cons, postLevels_cons]
    refine ih ?_
    unfold postFallen
    split
    · rw [postEvent_sysp, postEvent_sysp, hs]
    · exact hs

theorem clampLimits_eq (low reserve threshold window swath purge : Nat) :
    clampLimits ⟨low, reserve, threshold, window, swath, purge⟩ =
      ⟨max 1 (min 50 low), min (max 1 (min 50 low)) reserve, max 16 (min 4000 threshold), max 5 (min 255 window),
        max 1 (min 60 swath), max 1 (min 60 purge)⟩ := by
  simp only [clampLimits, clampTo, Nat.zero_max]

/-! ### SET_POLICY (R155) -/

/-- The policies set (R155). -/
def policySet (s : State) (g : NonGenuinePolicy) (p : SuspectPolicy) : State :=
  if s.settings.nonGenuine = g ∧ s.settings.suspect = p then s
  else markDirty { s with settings := { s.settings with nonGenuine := g, suspect := p } } recSettings

theorem actSetPolicy_accepted {a b : Byte} {g : NonGenuinePolicy} {p : SuspectPolicy} (hg : NonGenuinePolicy.ofCode a = some g)
    (hp : SuspectPolicy.ofCode b = some p) (s : State) : actSetPolicy a b s = (policySet s g p, .ok, [g.code, p.code]) := by
  simp only [actSetPolicy, hg, hp, policySet]

theorem policySet_frame (s : State) (g : NonGenuinePolicy) (p : SuspectPolicy) : OnlyChanges [.settings, .sto] s (policySet s g p) :=
  .ite (.refl _ s) (((settings_frame s _).mono (by decide)).trans ((markDirty_frame _ _).mono (by decide)))

theorem policySet_settings (s : State) (g : NonGenuinePolicy) (p : SuspectPolicy) :
    (policySet s g p).settings = { s.settings with nonGenuine := g, suspect := p } := by
  unfold policySet
  split
  · next h => rw [← h.1, ← h.2]
  · rfl

theorem policySet_sto (s : State) (g : NonGenuinePolicy) (p : SuspectPolicy) :
    (policySet s g p).sto = { s.sto with
      dirty := if s.settings.nonGenuine = g ∧ s.settings.suspect = p then s.sto.dirty else put s.sto.dirty recSettings true } := by
  unfold policySet
  split <;> rfl

theorem nonGenuine_ofCode_none {b : Byte} (h : 1 < b.toNat) : NonGenuinePolicy.ofCode b = none := by
  have hne (c : Byte) (hc : c.toNat ≤ 1) : b ≠ c := ne_of_toNat_lt (by omega)
  rw [NonGenuinePolicy.ofCode, if_neg (hne 0 (by decide)), if_neg (hne 1 (by decide))]

theorem suspect_ofCode_none {b : Byte} (h : 1 < b.toNat) : SuspectPolicy.ofCode b = none := by
  have hne (c : Byte) (hc : c.toNat ≤ 1) : b ≠ c := ne_of_toNat_lt (by omega)
  rw [SuspectPolicy.ofCode, if_neg (hne 0 (by decide)), if_neg (hne 1 (by decide))]

theorem actSetPolicy_refused {a b : Byte} (h : 1 < a.toNat ∨ 1 < b.toNat) (s : State) : actSetPolicy a b s = (s, .range, []) := by
  unfold actSetPolicy
  split
  · next hg hp =>
    rcases h with h | h
    · rw [nonGenuine_ofCode_none h] at hg; cases hg
    · rw [suspect_ofCode_none h] at hp; cases hp
  · rfl

theorem releveledSlot_kept {f : Option (Account × Level)} {r : SlotRec} (h : f = none ∨ r.state ≠ .ready) : releveledSlot f r = r := by
  rcases h with rfl | h
  · rfl
  · cases f with
    | none => rfl
    | some x => exact if_neg h

theorem releveledSlot_ready {a : Account} {v : Level} {r : SlotRec} (h : r.state = .ready) :
    releveledSlot (some (a, v)) r = relit (statePattern .ready (some v)) r := if_pos h

/-- Settles O30. -/
theorem settingsRequestsTakeEffect : Obligations.SettingsRequestsTakeEffect := by
  intro s sel hr
  refine ⟨fun a b g p hg hp => ?_, fun a b h => sysRequest_refused hr (actSetPolicy_refused h _),
    fun low reserve window swath purge threshold asked l hasked hlimits => ?_⟩
  · obtain ⟨t, ht, hf, hrep, hu, -⟩ := sysRequest_acts (ps := [.settings, .sto, .sysp]) (sel := sel) (k := 0x0C) (len := 2) hr
      (actSetPolicy_accepted hg hp _) (by decide) ((policySet_frame _ g p).mono (by decide))
    exact ⟨t, ht, hf, (hu .settings (by decide)).trans (policySet_settings _ g p),
      (hu .sto (by decide)).trans (policySet_sto _ g p), hrep⟩
  · have hclamp : clampLimits asked = l := by rw [hasked, hlimits, clampLimits_eq]
    have hact := actSetLimits_eq asked (reqState s sel 7)
    rw [hclamp] at hact
    obtain ⟨h1, h2, h3⟩ := limitsSet_levels (reqState s sel 7) l
    have hsent : (reqState s sel 7).sysp = { s.sysp with holder := .empty, sent := (reqState s sel 7).sysp.sent } := rfl
    have hsysp := h2.trans (postLevels_sysp_sent (l := l) (old := s.settings.limits) (v := s.accounts) allSlots hsent)
    obtain ⟨t, ht, hf, hrep, hu, hts⟩ := sysRequest_acts (k := 0x0D) hr hact (by decide) (limitsSet_frame (reqState s sel 7) l)
    have hslots (n : SlotId) : t.slots[n] = releveledSlot (fallenLevel l s.settings.limits s.accounts[n]) s.slots[n] := by
      rw [hu .slots (by decide)]
      exact h3 n
    subst hasked
    refine ⟨t, ht, hf, (hu .settings (by decide)).trans (limitsSet_settings _ l), (hu .sto (by decide)).trans (limitsSet_sto _ l),
      fun n => ?_, ⟨?_, fun n => ⟨fun h => ?_, fun a v hfall hready => ?_⟩⟩, hrep⟩
    · rw [hu .accounts (by decide)]
      exact h1 n
    · have hsent' : t.sysp.sent = (reqState s sel 7).sysp.sent := by rw [hts, hsysp]
      rw [hsent']
      refine hts.trans ?_
      rw [hsysp]
      rfl
    · exact (hslots n).trans (releveledSlot_kept h)
    · have hslot : t.slots[n] = relit (statePattern .ready (some v)) s.slots[n] := by
        rw [hslots n, show fallenLevel l s.settings.limits s.accounts[n] = some (a, v) from hfall, releveledSlot_ready hready]
      rw [hslot]
      exact relit_eq _ _

end Sys2Proof.Machine
end

section
/-! How an attempt ends: what the end of a transaction leaves (R54 to R59), the judgement of an identity block (O38), and the
third failure of a write-back operation (O35). -/

namespace Sys2Proof.Machine

/-! ### The ends of attempts (R51 to R58) -/

/-- The state with another idle count. -/
def withIdle (s : State) (k : Nat) : State := setCbc s { s.cbc with idle := k }

theorem onLine_running {s : State} {tx : Transaction} (hr : s.phase = .running) (hl : s.cbc.line = some tx) (f : Transaction → State) :
    onLine s f = f tx := by
  unfold onLine
  rw [hl]
  exact if_pos hr

theorem onCharacter_running {s : State} {tx : Transaction} (hr : s.phase = .running) (hl : s.cbc.line = some tx)
    (f : Transaction → State) : onCharacter s f = f tx := by
  unfold onCharacter
  rw [hr, hl]

/-- From `s` to `u` the bus counts or owes a break, with the same transaction on the line and the same queue. -/
structure LineMoved (s u : State) : Prop where
  frame : OnlyChanges [.cbc] s u
  line : u.cbc.line = s.cbc.line
  queue : u.cbc.queue = s.cbc.queue

theorem lineMoved_withIdle (s : State) (k : Nat) : LineMoved s (withIdle s k) := ⟨cbc_frame s _, rfl, rfl⟩

theorem lineMoved_failing (s : State) (k : Nat) : LineMoved s (oweBreak (withIdle s k)) :=
  ⟨(cbc_frame s _).trans (cbc_frame _ _), rfl, rfl⟩

theorem replyEnded_fails {s : State} {tx : Transaction} {address : Byte} {rest : List CbusChar} (h : replyErrors tx address rest ≠ []) :
    replyEnded s tx address rest = failAttempt s tx (replyErrors tx address rest ++ tx.noted) := by
  unfold replyEnded
  split
  · next he _ => exact absurd he h
  · rfl

theorem execCbusReplyEnd_taking {s : State} {tx : Transaction} {address : Byte} (hr : s.phase = .running) (hl : s.cbc.line = some tx)
    (ha : tx.action = .taking address) (rest : List CbusChar) :
    exec (.cbusReplyEnd rest) s = .next (replyEnded (withIdle s (replyIdle address rest)) tx address rest) := by
  show Host.Outcome.next (onLine s _) = _
  rw [onLine_running hr hl, ha]
  rfl

/-- Whatever command ends an attempt in failure, it counts at most idle bit-times first (R51 to R57). -/
theorem exec_attemptFails {s : State} {tx : Transaction} {i : Instr} {errors : List BusError} (hr : s.phase = .running)
    (hl : s.cbc.line = some tx) (h : attemptErrors i tx = some errors) :
    ∃ k, exec i s = .next (failAttempt (withIdle s k) tx errors) := by
  unfold attemptErrors at h
  split at h
  · next ha =>
    cases h
    refine ⟨0, ?_⟩
    show Host.Outcome.next (onLine s _) = _
    rw [onLine_running hr hl, ha]
    rfl
  · next ha =>
    cases h
    refine ⟨0, ?_⟩
    show Host.Outcome.next (onCharacter s _) = _
    rw [onCharacter_running hr hl, ha]
    rfl
  · next ha =>
    cases h
    refine ⟨s.cbc.idle, ?_⟩
    show Host.Outcome.next (onLine s _) = _
    rw [onLine_running hr hl, if_pos ha]
    rfl
  · next ha =>
    cases h
    refine ⟨11, ?_⟩
    show Host.Outcome.next (onLine s _) = _
    rw [onLine_running hr hl, ha]
    rfl
  · next ha =>
    cases h
    refine ⟨s.cbc.idle, ?_⟩
    show Host.Outcome.next (onLine s _) = _
    rw [onLine_running hr hl, ha]
    rfl
  · next ha =>
    cases h
    refine ⟨s.cbc.idle, ?_⟩
    show Host.Outcome.next (onLine s _) = _
    rw [onLine_running hr hl, ha]
    rfl
  · next ha =>
    cases h
    refine ⟨s.cbc.idle, ?_⟩
    show Host.Outcome.next (onLine s _) = _
    rw [onLine_running hr hl, ha]
    rfl
  · next ha =>
    cases h
    refine ⟨s.cbc.idle, ?_⟩
    show Host.Outcome.next (onLine s _) = _
    rw [onLine_running hr hl, ha]
    rfl
  · next rest address ha =>
    split at h
    · cases h
    · next he =>
      cases h
      exact ⟨_, (execCbusReplyEnd_taking hr hl ha rest).trans (congrArg _ (replyEnded_fails he))⟩
  · cases h

/-- A third failure hands the transaction over as failed, with a break owed (R46, R57, R58). -/
theorem exec_thirdFailure {s : State} {tx : Transaction} {i : Instr} {errors : List BusError} (hr : s.phase = .running)
    (hl : s.cbc.line = some tx) (h3 : tx.attempt = 3) (h : attemptErrors i tx = some errors) :
    ∃ u, LineMoved s u ∧ u.cbc.breakOwed = true ∧ exec i s = .next (leaveLine (handOver u tx (.failure (reportedError errors)))) := by
  obtain ⟨k, hk⟩ := exec_attemptFails hr hl h
  refine ⟨oweBreak (withIdle s k), lineMoved_failing s k, rfl, hk.trans ?_⟩
  rw [failAttempt_eq, endAttempt, if_neg (by omega)]

theorem replyEnded_accepted {s : State} {tx : Transaction} {address : Byte} {rest : List CbusChar} {st : CartStatus}
    (he : replyErrors tx address rest = []) (hs : replyStatus address = some st) :
    replyEnded s tx address rest = acceptReply s tx st (replyData rest) := by
  unfold replyEnded
  rw [he, hs]

/-- An accepted reply is handed over, but for a CHALLENGE's of status DONE (R34, R59). -/
theorem exec_replyHandedOver {s : State} {tx : Transaction} {address : Byte} {rest : List CbusChar} {st : CartStatus}
    (hr : s.phase = .running) (hl : s.cbc.line = some tx) (ha : tx.action = .taking address) (he : replyErrors tx address rest = [])
    (hs : replyStatus address = some st) (hc : tx.command ≠ .admission .challenge ∨ st ≠ .done) :
    ∃ u, LineMoved s u ∧ exec (.cbusReplyEnd rest) s = .next (leaveLine (handOver u tx (.reply st (replyData rest)))) := by
  refine ⟨_, lineMoved_withIdle s (replyIdle address rest), (execCbusReplyEnd_taking hr hl ha rest).trans (congrArg _ ?_)⟩
  rw [replyEnded_accepted he hs, acceptReply, if_neg fun h => hc.elim (· h.1) (· h.2.1)]

/-! ### The transaction off the line (R59, R64) -/

theorem leaveLine_slots (s : State) : (leaveLine s).slots = s.slots := by
  rw [leaveLine_eq, drainCheck_frame _ .slots (by decide), arbitrate_frame _ .slots (by decide), lineOff_frame s .slots (by decide)]

theorem leaveLine_accounts (s : State) : (leaveLine s).accounts = (arbitrate (lineOff s)).accounts := by
  rw [leaveLine_eq, drainCheck_frame _ .accounts (by decide)]

theorem leaveLine_identity (s : State) : (leaveLine s).prf.identity = s.prf.identity := by
  rw [leaveLine_eq, drainCheck_frame _ .prf (by decide), arbitrate_identity, lineOff_frame s .prf (by decide)]

theorem leaveLine_engp (s : State) : (leaveLine s).engp = s.engp := by
  rw [leaveLine_eq, drainCheck_frame _ .engp (by decide), arbitrate_frame _ .engp (by decide), lineOff_frame s .engp (by decide)]

theorem leaveLine_sysp {s : State} (h : s.sto.power ≠ .flushingBus) : (leaveLine s).sysp = s.sysp := by
  have hp : (arbitrate (lineOff s)).sto.power ≠ .flushingBus := by
    rw [arbitrate_frame _ .sto (by decide), lineOff_frame s .sto (by decide)]
    exact h
  rw [leaveLine_eq, drainCheck_idle hp, arbitrate_frame _ .sysp (by decide), lineOff_frame s .sysp (by decide)]

/-- A break owed stays owed as the line is left, for the next attempt drives it first (R46). -/
theorem leaveLine_breakOwed {s : State} (h : s.cbc.breakOwed = true) : (leaveLine s).cbc.breakOwed = true := by
  rw [leaveLine_eq, drainCheck_cbc]
  exact (arbitrate_breakFirst (s := lineOff s) ⟨h, nofun⟩).1

theorem leaveLine_step {s : State} {n : SlotId} {step : AdmissionStep} (hid : step = .challenge → s.prf.identity[n].isSome = true)
    (h : (n, step) ∈ queueWork s.cbc.queue) : (n, step) ∈ admissionWork (leaveLine s) := by
  rw [leaveLine_eq, admissionWork_of_frame (drainCheck_frame _) (by decide)]
  refine arbitrate_step (s := lineOff s) hid ?_
  rw [admissionWork_free rfl]
  exact h

/-! ### The judgement of an identity block (R26, R27; O38) -/

theorem rejectSlot_same (s : State) (n : SlotId) (why : Reason) :
    (rejectSlot s n why).slots[n].state = .rejected why ∧
      (rejectSlot s n why).slots[n].alert = some (s.slots[n].alert.getD why.alert) := by
  obtain ⟨hs, -, ha, -⟩ := raiseAlert_state (changeState s n (.rejected why)) n why.alert none
  rw [changeState_eq_moveSlot s n (.rejected why) nofun] at hs ha
  rw [rejectSlot, changeState_eq_moveSlot s n (.rejected why) nofun]
  exact ⟨hs.trans (moveSlot_state s n _), by rw [ha, (moveSlot_kept s n _).2]⟩

theorem handOver_readId {s : State} {tx : Transaction} (hc : tx.command = .admission .readId) (r : TxResult) :
    handOver s tx r = readIdResult s tx.slot r := by
  unfold handOver
  simp only [hc]

/-- What a READ_ID's reply or failure makes of a READING slot (R26). -/
theorem readIdResult_reading {s : State} {n : SlotId} (h : s.slots[n].state = .reading) (st : CartStatus) (body : List Byte) :
    readIdResult s n (.reply st body) = if st = .done then judgeBlock s n body else rejectSlot s n .malformed := by
  unfold readIdResult
  rw [if_neg (not_not.2 h)]
  cases st <;> rfl

theorem readIdResult_failed {s : State} {n : SlotId} (h : s.slots[n].state = .reading) (e : BusError) :
    readIdResult s n (.failure e) = rejectSlot s n .noResponse := by
  unfold readIdResult
  rw [if_neg (not_not.2 h)]

theorem judgeBlock_fails {s : State} {n : SlotId} {raw : List Byte} {why : Reason} (h : identityFailure s n raw = some why) :
    judgeBlock s n raw = rejectSlot s n why := by
  unfold judgeBlock
  rw [h]

/-- A slot whose block is kept, and that goes to PROVING (R7). -/
def identified (s : State) (n : SlotId) (raw : List Byte) : State := moveSlot (setIdentity s n (some (readBlock raw))) n .proving

theorem identified_others (s : State) (n : SlotId) (raw : List Byte) : OtherSlotsKept n s (identified s n raw) :=
  moveSlot_others (setIdentity s n (some (readBlock raw))) n .proving

theorem identified_same (s : State) (n : SlotId) (raw : List Byte) :
    (identified s n raw).slots[n].state = .proving ∧ (identified s n raw).slots[n].alert = s.slots[n].alert :=
  ⟨moveSlot_state _ n _, (moveSlot_kept (setIdentity s n (some (readBlock raw))) n .proving).2⟩

theorem identified_identity (s : State) (n : SlotId) (raw : List Byte) :
    (identified s n raw).prf.identity[n] = some (readBlock raw) := put_same _ _ _

/-- A block that passes the checks is kept, and its slot awaits the CHALLENGE (R7). -/
theorem judgeBlock_passes {s : State} {n : SlotId} {raw : List Byte} (h : identityFailure s n raw = none)
    (hl : s.cbc.line.isSome = true) : judgeBlock s n raw = withEntry (identified s n raw) (.admission n .challenge) := by
  unfold judgeBlock
  rw [h]
  dsimp only
  rw [changeState_eq_moveSlot _ n .proving nofun]
  exact placeAdmission_busy (s := identified s n raw) hl n _

/-- The checks read none of the bus. -/
theorem identityFailure_of_frame {s u : State} (h : OnlyChanges [.cbc] s u) (n : SlotId) (raw : List Byte) :
    identityFailure u n raw = identityFailure s n raw := by
  have hclaim (m : SlotId) : claimed u m = claimed s m :=
    claimed_congr (by rw [h .slots (by decide)]) (by rw [h .accounts (by decide)]) (by rw [h .prf (by decide)])
  unfold identityFailure keyLoaded
  rw [h .settings (by decide), h .prf (by decide), h .cal (by decide)]
  simp only [hclaim]

theorem handOver_resultFrame {s u : State} {tx : Transaction} (h : LineMoved s u) (r : TxResult) :
    OnlyChanges resultParts s (leaveLine (handOver u tx r)) :=
  ((h.frame.mono (by decide)).trans ((handOver_frame u tx r).mono (by decide))).trans (leaveLine_frame _)

/-- A slot rejected as its transaction is handed over. -/
theorem leaveLine_rejected {s u t : State} {n : SlotId} {why : Reason} (h : OnlyChanges [.cbc] s u) (ht : t = leaveLine (rejectSlot u n why)) :
    OtherSlotsKept n s t ∧ t.slots[n].state = .rejected why ∧ t.slots[n].alert = some (s.slots[n].alert.getD why.alert) := by
  have hslots : t.slots = (rejectSlot u n why).slots := by rw [ht, leaveLine_slots]
  have hsame := rejectSlot_same u n why
  have hu : u.slots = s.slots := h .slots (by decide)
  rw [← hslots, hu] at hsame
  exact ⟨(OtherSlotsKept.of_eq hu).trans ((rejectSlot_others u n why).trans (.of_eq hslots)), hsame⟩

theorem withEntry_slots (s : State) (e : QEntry) : (withEntry s e).slots = s.slots := rfl

theorem withEntry_challenge (s : State) (n : SlotId) : (n, AdmissionStep.challenge) ∈ queueWork (withEntry s (.admission n .challenge)).cbc.queue :=
  List.mem_filterMap.2 ⟨_, List.mem_append_right _ List.mem_cons_self, rfl⟩

/-- A slot identified as its transaction is handed over. -/
theorem leaveLine_identified {s u t : State} {n : SlotId} {raw : List Byte} (h : OnlyChanges [.cbc] s u)
    (ht : t = leaveLine (withEntry (identified u n raw) (.admission n .challenge))) :
    OtherSlotsKept n s t ∧ t.slots[n].state = .proving ∧ t.slots[n].alert = s.slots[n].alert ∧
      t.prf.identity[n] = some (readBlock raw) ∧ (n, AdmissionStep.challenge) ∈ admissionWork t := by
  have hslots : t.slots = (identified u n raw).slots := by rw [ht, leaveLine_slots, withEntry_slots]
  have hu : u.slots = s.slots := h .slots (by decide)
  have hid : (withEntry (identified u n raw) (.admission n .challenge)).prf.identity[n] = some (readBlock raw) := identified_identity u n raw
  obtain ⟨h1, h2⟩ := identified_same u n raw
  rw [← hslots] at h1 h2
  rw [hu] at h2
  refine ⟨(OtherSlotsKept.of_eq hu).trans ((identified_others u n raw).trans (.of_eq hslots)), h1, h2, ?_, ?_⟩
  · rw [ht, leaveLine_identity]
    exact hid
  · rw [ht]
    exact leaveLine_step (fun _ => by rw [hid]; rfl) (withEntry_challenge _ n)

/-- Settles O38. -/
theorem anIdentityBlockIsJudged : Obligations.AnIdentityBlockIsJudged := by
  intro s tx hr hl hc hread
  refine ⟨fun address rest st ha he hs => ?_, fun i errors h3 h => ?_⟩
  · obtain ⟨u, hu, hexec⟩ := exec_replyHandedOver hr hl ha he hs (.inl (by rw [hc]; nofun))
    have hstate : u.slots[tx.slot].state = .reading := by rw [hu.frame .slots (by decide)]; exact hread
    have hframe := handOver_resultFrame (tx := tx) hu (.reply st (replyData rest))
    have hjudge := identityFailure_of_frame hu.frame tx.slot (replyData rest)
    refine ⟨_, hexec, hframe, ?_⟩
    rw [handOver_readId hc, readIdResult_reading hstate]
    by_cases hdone : st = .done
    · rw [if_pos hdone]
      cases hfail : identityFailure s tx.slot (replyData rest) with
      | some why =>
        rw [judgeBlock_fails (hjudge.trans hfail)]
        obtain ⟨h1, h2, h3⟩ := leaveLine_rejected (n := tx.slot) (why := why) hu.frame rfl
        refine ⟨h1, fun why' hw => ?_, nofun⟩
        rw [if_pos hdone] at hw
        cases hw
        exact ⟨h2, h3⟩
      | none =>
        rw [judgeBlock_passes (hjudge.trans hfail) (by rw [hu.line, hl]; rfl)]
        obtain ⟨h1, h2, h3, h4, h5⟩ := leaveLine_identified (n := tx.slot) (raw := replyData rest) hu.frame rfl
        exact ⟨h1, by rw [if_pos hdone]; nofun, fun _ _ => ⟨h2, h3, h4, h5⟩⟩
    · rw [if_neg hdone]
      obtain ⟨h1, h2, h3⟩ := leaveLine_rejected (n := tx.slot) (why := .malformed) hu.frame rfl
      refine ⟨h1, fun why hw => ?_, fun h => absurd h hdone⟩
      rw [if_neg hdone] at hw
      cases hw
      exact ⟨h2, h3⟩
  · obtain ⟨u, hu, -, hexec⟩ := exec_thirdFailure hr hl h3 h
    have hstate : u.slots[tx.slot].state = .reading := by rw [hu.frame .slots (by decide)]; exact hread
    have hframe := handOver_resultFrame (tx := tx) hu (.failure (reportedError errors))
    rw [handOver_readId hc, readIdResult_failed hstate] at hexec hframe
    obtain ⟨h1, h2, h3⟩ := leaveLine_rejected (n := tx.slot) (why := .noResponse) hu.frame rfl
    exact ⟨_, hexec, hframe, h1, h2, h3⟩

end Sys2Proof.Machine
end

section
/-! The third failure of a write-back operation (R57, R91, R98 to R100; O35). -/

namespace Sys2Proof.Machine

/-! ### Accounts the arbiter may send from (R94) -/

/-- The arbiter leaves an account alone, or moves some of its pending ink to in-flight. -/
theorem arbitrate_account {s : State} {n : SlotId} {a : Account} (h : s.accounts[n] = some a) :
    (arbitrate s).accounts[n] = some a ∨ ∃ b, Sent a b ∧ (arbitrate s).accounts[n] = some b := by
  rcases arbitrate_accounts s with heq | ⟨-, -, m, c, b, hc, hs, heq⟩
  · exact .inl (by rw [heq]; exact h)
  · by_cases hm : n = m
    · subst hm
      rw [h] at hc
      cases hc
      exact .inr ⟨b, hs, by rw [heq]; exact put_same _ _ _⟩
    · exact .inl (by rw [heq, put_other _ _ _ _ hm]; exact h)

/-- An account in doubt sends nothing (R98). -/
theorem arbitrate_account_doubtful {s : State} {n : SlotId} {a : Account} (h : s.accounts[n] = some a) (hd : 0 < a.doubtful) :
    (arbitrate s).accounts[n] = some a := by
  rcases arbitrate_account h with heq | ⟨b, ⟨-, hzero, -⟩, -⟩
  · exact heq
  · omega

/-! ### An operation placed stays placed (R62, R64) -/

/-- The write-back operation waits in the queue. -/
def OpWaits (q : List QEntry) (n : SlotId) (op : WbOp) : Prop := ∃ ops, QEntry.writeBack n ops ∈ q ∧ op ∈ ops

theorem OpWaits.cons {q : List QEntry} {n : SlotId} {op : WbOp} (h : OpWaits q n op) (e : QEntry) : OpWaits (e :: q) n op := by
  obtain ⟨ops, hm, ho⟩ := h
  exact ⟨ops, List.mem_cons_of_mem _ hm, ho⟩

theorem opWaits_cons {q : List QEntry} {n : SlotId} {op : WbOp} {e : QEntry} (h : OpWaits (e :: q) n op) :
    (∃ ops, e = .writeBack n ops ∧ op ∈ ops) ∨ OpWaits q n op := by
  obtain ⟨ops, hm, ho⟩ := h
  rcases List.mem_cons.1 hm with rfl | hm
  · exact .inl ⟨ops, rfl, ho⟩
  · exact .inr ⟨ops, hm, ho⟩

theorem OpWaits.append_left {q : List QEntry} {n : SlotId} {op : WbOp} (h : OpWaits q n op) (r : List QEntry) : OpWaits (q ++ r) n op := by
  obtain ⟨ops, hm, ho⟩ := h
  exact ⟨ops, List.mem_append_left _ hm, ho⟩

theorem opWaits_leftover {q : List QEntry} {n : SlotId} {op : WbOp} {ops : List WbOp} (h : op ∈ ops) : OpWaits (q ++ leftover n ops) n op := by
  refine ⟨ops, List.mem_append_right _ ?_, h⟩
  rw [leftover, if_neg]
  · exact List.mem_singleton_self _
  · intro he
    rw [List.isEmpty_iff.1 he] at h
    cases h

theorem oldestEntry_op {q q' : List QEntry} {n m : SlotId} {op : WbOp} {c : TxCommand} (h : OpWaits q n op)
    (hq : oldestEntry q = some (m, c, q')) : m = n ∧ c = .writeBack op ∨ OpWaits q' n op := by
  induction q with
  | nil => cases hq
  | cons e q ih =>
    cases e with
    | admission k step =>
      cases hq
      rcases opWaits_cons h with ⟨ops, he, -⟩ | h
      · cases he
      · exact .inr h
    | passThrough k o l tag =>
      cases hq
      rcases opWaits_cons h with ⟨ops, he, -⟩ | h
      · cases he
      · exact .inr h
    | writeBack k ops =>
      cases ops with
      | nil =>
        rcases opWaits_cons h with ⟨ops, he, ho⟩ | h
        · cases he; cases ho
        · exact ih h hq
      | cons o ops =>
        cases hq
        rcases opWaits_cons h with ⟨os, he, ho⟩ | h
        · cases he
          rcases List.mem_cons.1 ho with rfl | ho
          · exact .inl ⟨rfl, rfl⟩
          · exact .inr (opWaits_leftover ho)
        · exact .inr (h.append_left _)

theorem splitAddUsed_op {q q' : List QEntry} {n m : SlotId} {op : WbOp} {ops : List WbOp} (h : OpWaits q n op)
    (hq : splitAddUsed q = some (m, ops, q')) : m = n ∧ (op = .addUsed ∨ op ∈ ops) ∨ OpWaits q' n op := by
  induction q generalizing q' with
  | nil => cases hq
  | cons e q ih =>
    have hskip (k : splitAddUsed (e :: q) = (splitAddUsed q).map fun (m, o, r) => (m, o, e :: r)) :
        m = n ∧ (op = .addUsed ∨ op ∈ ops) ∨ OpWaits q' n op := by
      rw [k] at hq
      obtain ⟨⟨m', o, r⟩, hr, he⟩ := Option.map_eq_some_iff.1 hq
      cases he
      rcases opWaits_cons h with ⟨os, rfl, ho⟩ | h
      · exact .inr ⟨os, List.mem_cons_self, ho⟩
      · exact (ih h hr).imp id fun h => h.cons e
    cases e with
    | admission k step => exact hskip rfl
    | passThrough k o l tag => exact hskip rfl
    | writeBack k os =>
      rw [splitAddUsed] at hq
      split at hq
      · cases hq
        rcases opWaits_cons h with ⟨os', he, ho⟩ | h
        · cases he
          by_cases hop : op = .addUsed
          · exact .inl ⟨rfl, .inl hop⟩
          · exact .inl ⟨rfl, .inr ((List.mem_erase_of_ne hop).2 ho)⟩
        · exact .inr h
      · next hc => exact hskip (by rw [splitAddUsed, if_neg hc])

/-- The arbiter starts the operation, or leaves it waiting. -/
theorem nextEntry_op {flush : Bool} {q q' : List QEntry} {n m : SlotId} {op : WbOp} {c : TxCommand}
    (h : OpWaits q n op) (hq : nextEntry flush q = some (m, c, q')) : m = n ∧ c = .writeBack op ∨ OpWaits q' n op := by
  unfold nextEntry at hq
  split at hq
  · obtain ⟨⟨m', ops, rest⟩, hr, he⟩ := Option.map_eq_some_iff.1 hq
    cases he
    rcases splitAddUsed_op h hr with ⟨rfl, rfl | ho⟩ | h
    · exact .inl ⟨rfl, rfl⟩
    · exact .inr (opWaits_leftover ho)
    · exact .inr (h.append_left _)
  · exact oldestEntry_op h hq

/-- An operation that does something when it is started: an ADD_USED has something to send (R94). -/
def Startable (s : State) (n : SlotId) (op : WbOp) : Prop := op = .addUsed → ∃ a, canSend s n a

theorem startable_of_ne {s : State} {n : SlotId} {op : WbOp} (h : op ≠ .addUsed) : Startable s n op := fun k => absurd k h

theorem Startable.congr {s t : State} {n : SlotId} {op : WbOp} (h : Startable s n op) (ha : t.accounts = s.accounts) (hs : t.slots = s.slots) :
    Startable t n op := fun k => by
  obtain ⟨a, hsend⟩ := h k
  refine ⟨a, ?_⟩
  unfold canSend contactLost at hsend ⊢
  rw [ha, hs]
  exact hsend

theorem addUsedBody_canSend {s : State} {n : SlotId} {a : Account} (h : canSend s n a) : ∃ e m t, addUsedBody s n = some (e, m, t) := by
  obtain ⟨ha, hp, hs, hd, hc, hmax⟩ := h
  unfold addUsedBody
  rw [ha]
  dsimp only
  rw [if_neg]
  · exact ⟨_, _, _, rfl⟩
  · rw [hs, hc, counterMax]
    simp only [Bool.false_eq_true, false_or]
    omega

theorem startTransaction_op {s : State} {n : SlotId} {op : WbOp} (hs : Startable s n op) :
    (startTransaction s n (.writeBack op)).cbc.line.map lineView = some (n, .writeBack op, false) := by
  cases op with
  | addUsed =>
    obtain ⟨a, ha⟩ := hs rfl
    obtain ⟨e, m, t, ht⟩ := addUsedBody_canSend ha
    unfold startTransaction
    simp only [ht]
    exact beginAttempt_view _ _
  | readUsage => exact beginAttempt_view s (newTransaction n (.writeBack .readUsage) [])
  | markSpent => exact beginAttempt_view s (newTransaction n (.writeBack .markSpent) [])

theorem arbitrateUpTo_op {n : SlotId} {op : WbOp} (k : Nat) (s : State) (hs : Startable s n op) (h : opPlaced s n op) :
    opPlaced (arbitrateUpTo k s) n op := by
  induction k generalizing s with
  | zero => exact h
  | succ k ih =>
    by_cases hl : s.cbc.line.isSome = true
    · rw [arbitrateUpTo_busy _ _ hl]; exact h
    · rw [arbitrateUpTo, if_neg hl]
      split
      · exact h
      · next m c q hq =>
        have hwait : OpWaits s.cbc.queue n op := h.resolve_right fun ⟨tx, htx, _⟩ => hl (by rw [htx]; rfl)
        have hs' : Startable { s with cbc := { s.cbc with queue := q } } n op := hs.congr rfl rfl
        rcases nextEntry_op hwait hq with ⟨rfl, rfl⟩ | hwait
        · have hv := startTransaction_op hs'
          obtain ⟨tx, htx, hn, hc, -⟩ := line_view.1 hv
          rw [arbitrateUpTo_busy _ _ (by rw [htx]; rfl)]
          exact .inr ⟨tx, htx, hn, hc⟩
        · have hq' : OpWaits (startTransaction { s with cbc := { s.cbc with queue := q } } m c).cbc.queue n op := by
            rw [startTransaction_queue]
            exact hwait
          rcases startTransaction_accounts { s with cbc := { s.cbc with queue := q } } m c (by simpa using hl) with heq | ⟨hbusy, -⟩
          · exact ih _ (hs'.congr heq (startTransaction_frame _ m c .slots (by decide))) (.inl hq')
          · rw [arbitrateUpTo_busy _ _ hbusy]
            exact .inl hq'

/-- An operation that waits as the line is left waits on, or is started. -/
theorem leaveLine_op {s : State} {n : SlotId} {op : WbOp} (hs : Startable s n op) (h : OpWaits s.cbc.queue n op) :
    opPlaced (leaveLine s) n op := by
  have hk : opPlaced (arbitrate (lineOff s)) n op := arbitrateUpTo_op _ (lineOff s) (hs.congr rfl rfl) (.inl h)
  unfold opPlaced at hk ⊢
  rwa [leaveLine_eq, drainCheck_cbc]

theorem withOp_waits (q : List QEntry) (n : SlotId) (op : WbOp) : OpWaits (withOp q n op) n op := by
  unfold withOp
  split
  · next h =>
    obtain ⟨e, he, hn⟩ := List.any_eq_true.1 h
    cases e with
    | admission m step => cases hn
    | passThrough m o l tag => cases hn
    | writeBack m ops =>
      obtain rfl : m = n := by simpa [QEntry.isWriteBackOf] using hn
      by_cases hc : ops.contains op = false
      · exact ⟨ops ++ [op], List.mem_map.2 ⟨_, he, if_pos ⟨rfl, hc⟩⟩, by simp⟩
      · exact ⟨ops, List.mem_map.2 ⟨_, he, if_neg fun h => hc h.2⟩, by simpa using hc⟩
  · exact ⟨[op], List.mem_append_right _ (List.mem_singleton_self _), List.mem_singleton_self _⟩

theorem OpWaits.withOp {q : List QEntry} {n : SlotId} {op : WbOp} (h : OpWaits q n op) (m : SlotId) (o : WbOp) :
    OpWaits (withOp q m o) n op := by
  obtain ⟨ops, hm, ho⟩ := h
  unfold Machine.withOp
  split
  · by_cases hc : n = m ∧ ops.contains o = false
    · exact ⟨ops ++ [o], List.mem_map.2 ⟨_, hm, if_pos hc⟩, List.mem_append_left _ ho⟩
    · exact ⟨ops, List.mem_map.2 ⟨_, hm, if_neg hc⟩, ho⟩
  · exact ⟨ops, List.mem_append_left _ hm, ho⟩

theorem OpWaits.requestAddUsed {s : State} {n : SlotId} {op : WbOp} (h : OpWaits s.cbc.queue n op) (m : SlotId) :
    OpWaits (requestAddUsed s m).cbc.queue n op := by
  unfold Machine.requestAddUsed
  split
  · exact h.withOp m .addUsed
  · exact h

theorem requestAddUsed_breakOwed (s : State) (n : SlotId) : (requestAddUsed s n).cbc.breakOwed = s.cbc.breakOwed := by
  unfold requestAddUsed
  split <;> rfl

theorem spentCheck_breakOwed (s : State) (n : SlotId) : (spentCheck s n).cbc.breakOwed = s.cbc.breakOwed := by
  unfold spentCheck
  split <;> rfl

/-! ### The oldest event (R160) -/

/-- An event at the head of the queue stays there as another is taken, unless it is an OVERFLOW. -/
theorem takeEvent_head {q : List Event} {x e : Event} (h : q.head? = some x) (hk : x.kind ≠ .overflow) :
    (takeEvent q e).1.head? = some x := by
  cases q with
  | nil => cases h
  | cons y q =>
    cases h
    unfold takeEvent
    split
    · rw [List.map_cons, List.head?_cons, bumpOverflow, if_neg hk]
    · split
      · rfl
      · next hlen =>
        cases q with
        | nil => simp at hlen
        | cons z q => rfl

/-- From `s` to `t` the oldest event waiting is not lost. -/
def HeadKept (s t : State) : Prop :=
  ∀ x, s.sysp.events.head? = some x → x.kind ≠ .overflow → t.sysp.events.head? = some x

theorem HeadKept.of_sysp {s t : State} (h : t.sysp = s.sysp) : HeadKept s t := fun x hx _ => by rw [h]; exact hx

theorem HeadKept.trans {s t u : State} (h : HeadKept s t) (k : HeadKept t u) : HeadKept s u := fun x hx hk => k x (h x hx hk) hk

theorem postEvent_headKept (s : State) (k : EventKind) (n c : Byte) (v : Option Word) : HeadKept s (postEvent s k n c v) :=
  fun _ hx hk => takeEvent_head hx hk

theorem storeFlushCheck_headKept (s : State) : HeadKept s (storeFlushCheck s) := by
  unfold storeFlushCheck
  split
  · exact HeadKept.trans (postEvent_headKept s .flushDone noSlot 0 none) (.of_sysp rfl)
  · exact .of_sysp rfl

theorem drainCheck_headKept (s : State) : HeadKept s (drainCheck s) := by
  rw [drainCheck_eq]
  split
  · have h : (storing (provisionalEntries s)).sysp = s.sysp := by
      rw [storing_frame _ .sysp (by decide), provisionalEntries_frame s .sysp (by decide)]
    generalize storing (provisionalEntries s) = v at h ⊢
    exact (HeadKept.of_sysp h).trans (storeFlushCheck_headKept v)
  · exact .of_sysp rfl

theorem leaveLine_headKept (s : State) : HeadKept s (leaveLine s) := by
  rw [leaveLine_eq]
  refine HeadKept.trans (.of_sysp ?_) (drainCheck_headKept _)
  rw [arbitrate_frame _ .sysp (by decide), lineOff_frame s .sysp (by decide)]

/-! ### Contact loss reported (R16, R100) -/

theorem rejectSlot_eq (s : State) (n : SlotId) (why : Reason) :
    rejectSlot s n why = raiseAlert (moveSlot s n (.rejected why)) n why.alert none := by
  rw [rejectSlot, changeState_eq_moveSlot s n (.rejected why) nofun]

theorem rejectSlot_frame_slot (s : State) (n : SlotId) (why : Reason) : OnlyChanges [.slots, .sysp, .engp] s (rejectSlot s n why) := by
  rw [rejectSlot_eq]
  exact (moveSlot_frame s n _).trans ((raiseAlert_frame_slot _ n _ _).mono (by decide))

/-- The events of a slot rejected: its move, then its alert (R20). -/
theorem rejectSlot_sysp (s : State) (n : SlotId) (why : Reason) :
    (rejectSlot s n why).sysp = (postEvent (postEvent s .slotState (slotByte n) (SlotState.rejected why).code
      (stateValue (.rejected why))) .alert (slotByte n) why.alert.code none).sysp := by
  rw [rejectSlot_eq, raiseAlert_sysp]
  exact postEvent_sysp_congr (moveSlot_sysp s n _) _ _ _ _

theorem rejectSlot_headKept (s : State) (n : SlotId) (why : Reason) : HeadKept s (rejectSlot s n why) :=
  ((postEvent_headKept s _ _ _ _).trans (postEvent_headKept _ _ _ _ _)).trans (.of_sysp (rejectSlot_sysp s n why))

/-- A failure count of `k` loses contact with a slot in an account state (R16, R100). -/
def LosesContact (s : State) (n : SlotId) (k : Nat) : Prop := k = 3 ∧ inAccountState s n = true

theorem reportIfLost_lost {s : State} {n : SlotId} {k : Nat} (h : LosesContact s n k) :
    reportIfLost s n k = rejectSlot s n .contactLost := (if_pos h.1).trans (if_pos h.2)

theorem reportIfLost_kept {s : State} {n : SlotId} {k : Nat} (h : ¬ LosesContact s n k) : reportIfLost s n k = s := by
  unfold reportIfLost
  split
  · next hk => exact if_neg fun ha => h ⟨hk, ha⟩
  · rfl

theorem reportIfLost_frame_slot (s : State) (n : SlotId) (k : Nat) : OnlyChanges [.slots, .sysp, .engp] s (reportIfLost s n k) := by
  by_cases h : LosesContact s n k
  · rw [reportIfLost_lost h]; exact rejectSlot_frame_slot s n _
  · rw [reportIfLost_kept h]; exact .refl _ s

theorem reportIfLost_headKept (s : State) (n : SlotId) (k : Nat) : HeadKept s (reportIfLost s n k) := by
  by_cases h : LosesContact s n k
  · rw [reportIfLost_lost h]; exact rejectSlot_headKept s n _
  · rw [reportIfLost_kept h]; exact .of_sysp rfl

theorem LosesContact.of_slots {s w : State} {n : SlotId} {k : Nat} (hw : w.slots = s.slots) : LosesContact w n k ↔ LosesContact s n k := by
  rw [LosesContact, LosesContact, inAccountState, inAccountState, hw]

/-- What is left once a failure has been counted (`w`), contact loss reported, and work asked for (`v`). -/
structure Failed (s w v : State) (n : SlotId) (k : Nat) : Prop where
  slots : w.slots = s.slots
  power : w.sto = s.sto
  asked : OnlyChanges [.cbc, .accounts] (reportIfLost w n k) v

theorem Failed.slot {s w v : State} {n : SlotId} {k : Nat} (h : Failed s w v n k) :
    OtherSlotsKept n s (leaveLine v) ∧
      (LosesContact s n k → (leaveLine v).slots[n].state = .rejected .contactLost) ∧
      (¬ LosesContact s n k → (leaveLine v).slots[n].state = s.slots[n].state) := by
  have hv : (leaveLine v).slots = (reportIfLost w n k).slots := by rw [leaveLine_slots, h.asked .slots (by decide)]
  rw [← LosesContact.of_slots h.slots]
  refine ⟨?_, fun hl => ?_, fun hl => ?_⟩
  · refine OtherSlotsKept.trans (.of_eq h.slots) (OtherSlotsKept.trans ?_ (.of_eq hv))
    by_cases hl : LosesContact w n k
    · rw [reportIfLost_lost hl]; exact rejectSlot_others w n _
    · rw [reportIfLost_kept hl]; exact .refl n w
  · rw [hv, reportIfLost_lost hl]
    exact (rejectSlot_same w n _).1
  · rw [hv, reportIfLost_kept hl, h.slots]

theorem Failed.leave_sysp {s w v : State} {n : SlotId} {k : Nat} (h : Failed s w v n k) (hp : s.sto.power ≠ .flushingBus) :
    (leaveLine v).sysp = (reportIfLost w n k).sysp := by
  have hpower : v.sto = s.sto := by rw [h.asked .sto (by decide), reportIfLost_frame_slot w n k .sto (by decide), h.power]
  rw [leaveLine_sysp (by rw [hpower]; exact hp), h.asked .sysp (by decide)]

theorem Failed.events_kept {s w v : State} {n : SlotId} {k : Nat} (h : Failed s w v n k) (hp : s.sto.power ≠ .flushingBus)
    (hl : ¬ LosesContact s n k) : (leaveLine v).sysp = w.sysp := by
  rw [h.leave_sysp hp, reportIfLost_kept (by rwa [LosesContact.of_slots h.slots])]

theorem Failed.events_lost {s w v : State} {n : SlotId} {k : Nat} (h : Failed s w v n k) (hp : s.sto.power ≠ .flushingBus)
    (hl : LosesContact s n k) :
    (leaveLine v).sysp = (postEvent (postEvent w .slotState (slotByte n) (SlotState.rejected .contactLost).code
      (stateValue (.rejected .contactLost))) .alert (slotByte n) AlertCode.contactLost.code none).sysp := by
  rw [h.leave_sysp hp, reportIfLost_lost ((LosesContact.of_slots h.slots).2 hl), rejectSlot_sysp]
  rfl

theorem Failed.head {s w v : State} {n : SlotId} {k : Nat} (h : Failed s w v n k) : HeadKept w (leaveLine v) :=
  ((reportIfLost_headKept w n k).trans (.of_sysp (h.asked .sysp (by decide)))).trans (leaveLine_headKept v)

/-- No work is asked for once contact is lost, or stands at its third failure (R91, R98 to R100). -/
theorem mayRequest_iff {w : State} {n : SlotId} {k : Nat} (h3 : ¬ LosesContact w n k) :
    mayRequest (reportIfLost w n k) n k = true ↔ k < 3 ∧ contactLost w n = false := by
  rw [reportIfLost_kept h3, mayRequest, Bool.and_eq_true, decide_eq_true_eq, Bool.not_eq_true']

theorem not_losesContact {s : State} {n : SlotId} {k : Nat} (h : k < 3) : ¬ LosesContact s n k := fun hl => by
  have := hl.1
  omega

/-! ### The failures of the three operations -/

/-- The failure of an operation counted and posted (R98, R99, R100). -/
def failureCounted (s : State) (n : SlotId) (b : Account) (e : BusError) : State :=
  postEvent (setAccount s n (some b)) .writebackFailed (slotByte n) e.code (some (BitVec.ofNat 32 b.failures))

theorem failureCounted_frame (s : State) (n : SlotId) (b : Account) (e : BusError) :
    OnlyChanges [.accounts, .sysp] s (failureCounted s n b e) :=
  ((setAccount_frame s n _).mono (by decide)).trans ((postEvent_frame _ _ _ _ _).mono (by decide))

theorem failureCounted_sysp {s u : State} (h : u.sysp = s.sysp) (n : SlotId) (b : Account) (e : BusError) :
    (failureCounted u n b e).sysp =
      (postEvent s .writebackFailed (slotByte n) e.code (some (BitVec.ofNat 32 b.failures))).sysp :=
  postEvent_sysp_congr (s := setAccount u n (some b)) (t := s) h _ _ _ _

theorem failureCounted_account (s : State) (n : SlotId) (b : Account) (e : BusError) :
    (failureCounted s n b e).accounts[n] = some b := put_same _ _ _

/-- The account that a failed ADD_USED leaves in doubt (R98). -/
def doubted (a : Account) : Account :=
  { a with pendingInk := a.pendingInk + a.inFlight, doubtful := a.inFlight, inFlight := 0, failures := min 3 (a.failures + 1) }

/-- The work asked for after a failed ADD_USED or READ_USAGE. -/
def doubtAsked (v : State) (n : SlotId) (k : Nat) (again : State → State) : State :=
  if mayRequest v n k then again (enqueueOp v n .readUsage) else v

theorem addUsedFailed_eq (s : State) (n : SlotId) (a : Account) (e : BusError) :
    addUsedFailed s n a e =
      doubtAsked (reportIfLost (failureCounted s n (doubted a) e) n (doubted a).failures) n (doubted a).failures
        (fun v => requestAddUsed v n) := rfl

theorem readUsageFailed_eq (s : State) (n : SlotId) (a : Account) (e : BusError) :
    readUsageFailed s n a e =
      doubtAsked (reportIfLost (failureCounted s n (countFailure a) e) n (countFailure a).failures) n (countFailure a).failures id := rfl

/-- The request for READ_USAGE, with or without one for ADD_USED, changes the queue alone and leaves READ_USAGE waiting. -/
structure AsksAgain (again : State → State) : Prop where
  frame : ∀ v, OnlyChanges [.cbc] v (again v)
  owed : ∀ v, (again v).cbc.breakOwed = v.cbc.breakOwed
  waits : ∀ v n op, OpWaits v.cbc.queue n op → OpWaits (again v).cbc.queue n op

theorem asksAgain_requestAddUsed (n : SlotId) : AsksAgain fun v => requestAddUsed v n :=
  ⟨fun v => requestAddUsed_frame v n, fun v => requestAddUsed_breakOwed v n, fun _ _ _ h => h.requestAddUsed n⟩

theorem asksAgain_id : AsksAgain id := ⟨fun v => .refl _ v, fun _ => rfl, fun _ _ _ h => h⟩

theorem doubtAsked_frame {again : State → State} (h : AsksAgain again) (v : State) (n : SlotId) (k : Nat) :
    OnlyChanges [.cbc] v (doubtAsked v n k again) :=
  .ite ((enqueueOp_frame v n _).trans (h.frame _)) (.refl _ v)

theorem doubtAsked_breakOwed {again : State → State} (h : AsksAgain again) (v : State) (n : SlotId) (k : Nat) :
    (doubtAsked v n k again).cbc.breakOwed = v.cbc.breakOwed := by
  unfold doubtAsked
  split
  · rw [h.owed]; rfl
  · rfl

/-- What the third failure of an ADD_USED or a READ_USAGE leaves, its account being `b` with the failure counted. -/
theorem doubt_spec {s u t : State} {n : SlotId} {b : Account} {e : BusError} {again : State → State} (hagain : AsksAgain again)
    (hu : LineMoved s u) (howed : u.cbc.breakOwed = true) (hd : 0 < b.doubtful)
    (ht : t = leaveLine (doubtAsked (reportIfLost (failureCounted u n b e) n b.failures) n b.failures again)) :
    let failed := postEvent s .writebackFailed (slotByte n) e.code (some (BitVec.ofNat 32 b.failures))
    OtherSlotsKept n s t ∧ t.accounts[n] = some b ∧
      (s.sysp.events = [] → t.sysp.events.head? = some ⟨s.sysp.seq, .writebackFailed, slotByte n, e.code,
        some (BitVec.ofNat 32 b.failures)⟩) ∧
      (s.sto.power ≠ .flushingBus → ¬ LosesContact s n b.failures → t.sysp = failed.sysp) ∧
      (s.sto.power ≠ .flushingBus → LosesContact s n b.failures → t.sysp =
        (postEvent (postEvent failed .slotState (slotByte n) (SlotState.rejected .contactLost).code
          (stateValue (.rejected .contactLost))) .alert (slotByte n) AlertCode.contactLost.code none).sysp) ∧
      (b.failures < 3 → contactLost s n = false → opPlaced t n .readUsage) ∧ t.cbc.breakOwed = true ∧
      (LosesContact s n b.failures → t.slots[n].state = .rejected .contactLost) ∧
      (¬ LosesContact s n b.failures → t.slots[n].state = s.slots[n].state) := by
  intro failed
  have hcount := failureCounted_frame u n b e
  have hsysp := failureCounted_sysp (s := s) (u := u) (hu.frame .sysp (by decide)) n b e
  have hacc := failureCounted_account u n b e
  have hslots : (failureCounted u n b e).slots = s.slots := (hcount .slots (by decide)).trans (hu.frame .slots (by decide))
  have hsto : (failureCounted u n b e).sto = s.sto := (hcount .sto (by decide)).trans (hu.frame .sto (by decide))
  have hcbc : (failureCounted u n b e).cbc = u.cbc := hcount .cbc (by decide)
  generalize failureCounted u n b e = w at ht hsysp hacc hslots hsto hcbc
  have hfailed : Failed s w (doubtAsked (reportIfLost w n b.failures) n b.failures again) n b.failures :=
    ⟨hslots, hsto, (doubtAsked_frame hagain _ n _).mono (by decide)⟩
  have hlost := reportIfLost_frame_slot w n b.failures
  obtain ⟨hother, hstate, hstate'⟩ := hfailed.slot
  rw [ht]
  refine ⟨hother, ?_, fun hempty => ?_, fun hp hl => (hfailed.events_kept hp hl).trans hsysp, fun hp hl => ?_, fun h3 hc => ?_, ?_, hstate, hstate'⟩
  · rw [leaveLine_accounts]
    refine arbitrate_account_doubtful (s := lineOff _) ?_ hd
    rw [lineOff_frame _ .accounts (by decide), doubtAsked_frame hagain _ n _ .accounts (by decide), hlost .accounts (by decide)]
    exact hacc
  · refine hfailed.head _ ?_ nofun
    rw [hsysp, postEvent_sysp, hempty]
    rfl
  · rw [hfailed.events_lost hp hl]
    exact postEvent_sysp_congr (postEvent_sysp_congr hsysp _ _ _ _) _ _ _ _
  · refine leaveLine_op (startable_of_ne nofun) ?_
    have hnl : ¬ LosesContact w n b.failures := not_losesContact h3
    have hmay := (mayRequest_iff hnl).2 ⟨h3, by rw [contactLost, hslots]; exact hc⟩
    rw [doubtAsked, if_pos hmay]
    exact hagain.waits _ n _ (withOp_waits _ n _)
  · refine leaveLine_breakOwed ?_
    rw [doubtAsked_breakOwed hagain, hlost .cbc (by decide), hcbc]
    exact howed

/-- The account whose MARK_SPENT has failed (R91). -/
def unmarked (a : Account) : Account := countFailure (if a.spent = .requested then { a with spent := .none } else a)

theorem markSpentFailed_eq (s : State) (n : SlotId) (a : Account) :
    markSpentFailed s n a =
      let v := reportIfLost (setAccount s n (some (unmarked a))) n (unmarked a).failures
      if mayRequest v n (unmarked a).failures then spentCheck v n else v := rfl

theorem unmarked_spec (a : Account) :
    unmarked a = { a with spent := if a.spent = .requested then .none else a.spent, failures := min 3 (a.failures + 1) } := by
  unfold unmarked countFailure
  split <;> rfl

theorem sent_kept {a b : Account} (h : Sent a b) : b.failures = a.failures ∧ b.inFlight + b.pendingInk = a.inFlight + a.pendingInk ∧
    b.base = a.base ∧ b.confirmed = a.confirmed ∧ b.doubtful = a.doubtful ∧ b.spent = a.spent := by
  obtain ⟨-, -, -, m, -, hm, rfl⟩ := h
  refine ⟨rfl, ?_, rfl, rfl, rfl, rfl⟩
  show a.inFlight + m + (a.pendingInk - m) = _
  omega

theorem spentDue_iff {s : State} {n : SlotId} {a : Account} (h : s.accounts[n] = some a) :
    spentDue s n = true ↔ a.metered = true ∧ s.slots[n].state = .exhausted ∧ a.spent = .none ∧ a.pendingInk = 0 ∧ a.inFlight = 0 ∧
      a.suspended = false := by
  unfold spentDue
  rw [h]
  simp only [Bool.and_eq_true, beq_iff_eq, decide_eq_true_eq, Bool.not_eq_true', and_assoc]

theorem spentCheck_due {s : State} {n : SlotId} {a : Account} (h : s.accounts[n] = some a) (hd : spentDue s n = true) :
    (spentCheck s n).accounts[n] = some { a with spent := .requested } ∧ OpWaits (spentCheck s n).cbc.queue n .markSpent := by
  rw [spentCheck, if_pos hd]
  refine ⟨?_, withOp_waits _ n _⟩
  show (upd s.accounts n _)[n] = _
  rw [upd_same, h]
  rfl

theorem spentCheck_idle {s : State} {n : SlotId} (h : spentDue s n = false) : spentCheck s n = s := if_neg (by rw [h]; nofun)

theorem handOver_addUsed {s : State} {tx : Transaction} {a : Account} (hc : tx.command = .writeBack .addUsed)
    (h : s.accounts[tx.slot] = some a) (e : BusError) : handOver s tx (.failure e) = addUsedFailed s tx.slot a e := by
  unfold handOver
  simp only [hc]
  unfold addUsedResult
  rw [h]

theorem handOver_readUsage {s : State} {tx : Transaction} {a : Account} (hc : tx.command = .writeBack .readUsage)
    (h : s.accounts[tx.slot] = some a) (e : BusError) : handOver s tx (.failure e) = readUsageFailed s tx.slot a e := by
  unfold handOver
  simp only [hc]
  unfold readUsageResult
  rw [h]

theorem handOver_markSpent {s : State} {tx : Transaction} {a : Account} (hc : tx.command = .writeBack .markSpent)
    (h : s.accounts[tx.slot] = some a) (e : BusError) : handOver s tx (.failure e) = markSpentFailed s tx.slot a := by
  unfold handOver
  simp only [hc]
  unfold markSpentResult
  rw [h]

/-- A MARK_SPENT asked for again, where it is due (R91). -/
def spentAsked (v : State) (n : SlotId) (k : Nat) : State := if mayRequest v n k then spentCheck v n else v

theorem spentAsked_frame (v : State) (n : SlotId) (k : Nat) : OnlyChanges [.cbc, .accounts] v (spentAsked v n k) :=
  .ite (spentCheck_frame v n) (.refl _ v)

theorem spentAsked_breakOwed (v : State) (n : SlotId) (k : Nat) : (spentAsked v n k).cbc.breakOwed = v.cbc.breakOwed := by
  unfold spentAsked
  split
  · exact spentCheck_breakOwed v n
  · rfl

/-- The conditions of R91 for another MARK_SPENT after `k` failures. -/
def SpentAgain (s : State) (n : SlotId) (a : Account) (k : Nat) : Prop :=
  k < 3 ∧ contactLost s n = false ∧ a.metered = true ∧ s.slots[n].state = .exhausted ∧ a.pendingInk = 0 ∧ a.inFlight = 0 ∧
    a.suspended = false ∧ (a.spent = .requested ∨ a.spent = .none)

/-- The mark after a failed MARK_SPENT is NONE just where it was not MARKED. -/
theorem unmarked_none (a : Account) : (unmarked a).spent = .none ↔ a.spent = .requested ∨ a.spent = .none := by
  rw [unmarked_spec]
  cases a.spent <;> simp

theorem spentAgain_iff {v : State} {n : SlotId} {a : Account} {k : Nat} (h : v.accounts[n] = some (unmarked a)) :
    mayRequest (reportIfLost v n k) n k = true ∧ spentDue (reportIfLost v n k) n = true ↔ SpentAgain v n a k := by
  have hacc : (reportIfLost v n k).accounts[n] = some (unmarked a) := by rw [reportIfLost_frame_slot v n k .accounts (by decide)]; exact h
  have hmark := unmarked_none a
  rw [unmarked_spec] at hmark
  rw [spentDue_iff hacc, unmarked_spec]
  constructor
  · rintro ⟨hm, hmet, hst, hs, hp, hf, hsu⟩
    have hk : k < 3 := of_decide_eq_true (Bool.and_eq_true .. ▸ hm).1
    have hnl := not_losesContact (s := v) (n := n) hk
    have hcl := ((mayRequest_iff hnl).1 hm).2
    rw [reportIfLost_kept hnl] at hst
    exact ⟨hk, hcl, hmet, hst, hp, hf, hsu, hmark.1 hs⟩
  · rintro ⟨hk, hcl, hmet, hst, hp, hf, hsu, hs⟩
    have hnl := not_losesContact (s := v) (n := n) hk
    refine ⟨(mayRequest_iff hnl).2 ⟨hk, hcl⟩, hmet, ?_, hmark.2 hs, hp, hf, hsu⟩
    rw [reportIfLost_kept hnl]
    exact hst

/-- The account after the mark has been asked for again, or not: only the mark can have changed (R91). -/
theorem spentAsked_account {v : State} {n : SlotId} {b : Account} {k : Nat} (h : v.accounts[n] = some b) :
    ∃ m, (spentAsked v n k).accounts[n] = some { b with spent := m } ∧
      (mayRequest v n k = true ∧ spentDue v n = true → m = .requested ∧ OpWaits (spentAsked v n k).cbc.queue n .markSpent) ∧
      (¬ (mayRequest v n k = true ∧ spentDue v n = true) → m = b.spent) := by
  by_cases hdue : mayRequest v n k = true ∧ spentDue v n = true
  · rw [spentAsked, if_pos hdue.1]
    obtain ⟨hacc, hwaits⟩ := spentCheck_due h hdue.2
    exact ⟨.requested, hacc, fun _ => ⟨rfl, hwaits⟩, fun hn => absurd hdue hn⟩
  · have hidle : spentAsked v n k = v := by
      unfold spentAsked
      split
      · next hm => exact spentCheck_idle (Bool.eq_false_iff.2 fun hd => hdue ⟨hm, hd⟩)
      · rfl
    exact ⟨b.spent, by rw [hidle]; exact h, fun hd => absurd hd hdue, fun _ => rfl⟩

/-- The arbiter, as the line is left, may send from an account; nothing else of it changes (R94). -/
theorem leaveLine_account {s : State} {n : SlotId} {a : Account} (h : s.accounts[n] = some a) :
    ∃ b, (leaveLine s).accounts[n] = some b ∧ b.failures = a.failures ∧ b.inFlight + b.pendingInk = a.inFlight + a.pendingInk ∧
      b.base = a.base ∧ b.confirmed = a.confirmed ∧ b.doubtful = a.doubtful ∧ b.spent = a.spent := by
  rw [leaveLine_accounts]
  rcases arbitrate_account (s := lineOff s) (by rw [lineOff_frame _ .accounts (by decide)]; exact h) with heq | ⟨b, hs, heq⟩
  · exact ⟨a, heq, rfl, rfl, rfl, rfl, rfl, rfl⟩
  · exact ⟨b, heq, sent_kept hs⟩

/-- What the third failure of a MARK_SPENT leaves. -/
theorem markSpentFailed_spec {s u t : State} {n : SlotId} {a : Account} (hu : LineMoved s u) (howed : u.cbc.breakOwed = true)
    (ht : t = leaveLine (markSpentFailed u n a)) :
    ∃ b, OtherSlotsKept n s t ∧ t.accounts[n] = some b ∧ b.failures = min 3 (a.failures + 1) ∧
      b.inFlight + b.pendingInk = a.inFlight + a.pendingInk ∧ b.base = a.base ∧ b.confirmed = a.confirmed ∧ b.doubtful = a.doubtful ∧
      (SpentAgain s n a (min 3 (a.failures + 1)) → b.spent = .requested ∧ opPlaced t n .markSpent) ∧
      (¬ SpentAgain s n a (min 3 (a.failures + 1)) → b.spent = if a.spent = .requested then .none else a.spent) ∧
      (s.sto.power ≠ .flushingBus → ¬ LosesContact s n (min 3 (a.failures + 1)) → t.sysp = s.sysp) ∧ t.cbc.breakOwed = true ∧
      (LosesContact s n (min 3 (a.failures + 1)) → t.slots[n].state = .rejected .contactLost) ∧
      (¬ LosesContact s n (min 3 (a.failures + 1)) → t.slots[n].state = s.slots[n].state) := by
  rw [markSpentFailed_eq] at ht
  have hk : (unmarked a).failures = min 3 (a.failures + 1) := by rw [unmarked_spec]
  rw [hk] at ht
  generalize min 3 (a.failures + 1) = k at hk ht ⊢
  have hw : OnlyChanges [.accounts] u (setAccount u n (some (unmarked a))) := setAccount_frame u n _
  have hacc : (setAccount u n (some (unmarked a))).accounts[n] = some (unmarked a) := put_same _ _ _
  generalize setAccount u n (some (unmarked a)) = w at ht hw hacc
  replace ht : t = leaveLine (spentAsked (reportIfLost w n k) n k) := ht
  have hslots : w.slots = s.slots := (hw .slots (by decide)).trans (hu.frame .slots (by decide))
  have hsto : w.sto = s.sto := (hw .sto (by decide)).trans (hu.frame .sto (by decide))
  have hsysp : w.sysp = s.sysp := (hw .sysp (by decide)).trans (hu.frame .sysp (by decide))
  have hfailed : Failed s w (spentAsked (reportIfLost w n k) n k) n k := ⟨hslots, hsto, spentAsked_frame _ n k⟩
  have hagain : SpentAgain w n a k ↔ SpentAgain s n a k := by rw [SpentAgain, SpentAgain, contactLost, contactLost, hslots]
  rw [← hagain, ← spentAgain_iff hacc]
  obtain ⟨hother, hstate, hstate'⟩ := hfailed.slot
  have hlacc : (reportIfLost w n k).accounts[n] = some (unmarked a) := by
    rw [reportIfLost_frame_slot w n k .accounts (by decide)]; exact hacc
  have howed' : (spentAsked (reportIfLost w n k) n k).cbc.breakOwed = true := by
    rw [spentAsked_breakOwed, reportIfLost_frame_slot w n k .cbc (by decide), hw .cbc (by decide)]
    exact howed
  obtain ⟨m, hm, hdue, hidle⟩ := spentAsked_account (k := k) hlacc
  generalize spentAsked (reportIfLost w n k) n k = v at *
  obtain ⟨b, hb, h1, h2, h3, h4, h5, h6⟩ := leaveLine_account hm
  subst ht
  refine ⟨b, hother, hb, h1.trans hk, ?_, ?_, ?_, ?_, fun hd => ?_, fun hd => ?_,
    fun hp hl => (hfailed.events_kept hp hl).trans hsysp, leaveLine_breakOwed howed', hstate, hstate'⟩
  · rw [h2, unmarked_spec]
  · rw [h3, unmarked_spec]
  · rw [h4, unmarked_spec]
  · rw [h5, unmarked_spec]
  · exact ⟨h6.trans (hdue hd).1, leaveLine_op (startable_of_ne nofun) (hdue hd).2⟩
  · rw [h6, hidle hd, unmarked_spec]

theorem eq_ite_of {α : Type} {p : Prop} [Decidable p] {x a b : α} (ha : p → x = a) (hb : ¬ p → x = b) : x = if p then a else b := by
  split
  · next h => exact ha h
  · next h => exact hb h

/-- Settles O35, one transaction command at a time. -/
theorem aThirdFailureOfAddUsedLeavesDoubt : Obligations.AThirdFailureOfAddUsedLeavesDoubt := by
  intro s tx i errors a hr hl h3 herr ha k lost failed
  obtain ⟨u, hu, howed, hexec⟩ := exec_thirdFailure hr hl h3 herr
  have hacc : u.accounts[tx.slot] = some a := by rw [hu.frame .accounts (by decide)]; exact ha
  have hframe := handOver_resultFrame (tx := tx) hu (.failure (reportedError errors))
  refine ⟨fun hc hf => ?_, fun hc hd => ?_, fun hc => ?_⟩
  · rw [handOver_addUsed hc hacc, addUsedFailed_eq] at hexec hframe
    obtain ⟨h1, h2, h3, h4, h5, h6, h7, h8, h9⟩ := doubt_spec (b := doubted a) (asksAgain_requestAddUsed tx.slot) hu howed hf rfl
    exact ⟨_, hexec, hframe, h1, h2, h3, h4, h5, h6, h7, eq_ite_of h8 h9⟩
  · rw [handOver_readUsage hc hacc, readUsageFailed_eq] at hexec hframe
    obtain ⟨h1, h2, -, h4, -, h6, h7, h8, h9⟩ := doubt_spec (b := countFailure a) asksAgain_id hu howed hd rfl
    exact ⟨_, hexec, hframe, h1, h2, h4, h6, h7, eq_ite_of h8 h9⟩
  · rw [handOver_markSpent hc hacc] at hexec hframe
    obtain ⟨b, h1, h2, h3, h4, h5, h6, h7, h8, h9, h10, h11, h12, h13⟩ := markSpentFailed_spec hu howed rfl
    exact ⟨_, b, hexec, hframe, h1, h2, h3, h4, h5, h6, h7, h8, h9, h10, h11, eq_ite_of h12 h13⟩

end Sys2Proof.Machine
end

section
/-! What a debit leaves of a slot: its holds (R89), its exhaustion (R15, R90), and the other slots (R88). -/

namespace Sys2Proof.Machine

/-! ### Holds fall (R89, R108, R110) -/

/-- From one entry of the swath table to another, slot `n`'s hold may only have fallen. -/
structure SwathFalls (n : SlotId) (w w' : Swath) : Prop where
  state : w'.state = w.state
  lists : lists w' n = lists w n
  hold : holdOf w' n ≤ holdOf w n

theorem SwathFalls.refl (n : SlotId) (w : Swath) : SwathFalls n w w := ⟨rfl, rfl, Nat.le_refl _⟩

theorem SwathFalls.trans {n : SlotId} {a b c : Swath} (h : SwathFalls n a b) (k : SwathFalls n b c) : SwathFalls n a c :=
  ⟨k.state.trans h.state, k.lists.trans h.lists, k.hold.trans h.hold⟩

theorem swathFalls_modListed (n : SlotId) (w : Swath) (m : SlotId) {f : Listed → Listed} (hs : ∀ l, (f l).slot = l.slot)
    (hh : ∀ l, (f l).hold ≤ l.hold) : SwathFalls n w (modListed w m f) := by
  have hslot (l : Listed) : (if l.slot = m then f l else l).slot = l.slot := by split <;> simp [hs]
  have hhold (l : Listed) : (if l.slot = m then f l else l).hold ≤ l.hold := by split <;> simp [hh]
  refine ⟨rfl, ?_, ?_⟩
  · simp only [Machine.lists, modListed, List.any_map, Function.comp_def, hslot]
  · simp only [holdOf, modListed, List.find?_map, Function.comp_def, hslot]
    cases w.slots.find? (·.slot == n) with
    | none => exact Nat.le_refl _
    | some l => exact hhold l

/-- From `s` to `t` slot `n`'s holds may only have fallen; the swaths that list it are as they were. -/
structure HoldsFall (n : SlotId) (s t : State) : Prop where
  table : List.Forall₂ (SwathFalls n) s.engp.table t.engp.table
  purge : purgeHold t n ≤ purgeHold s n

theorem HoldsFall.of_engp {n : SlotId} {s t : State} (ht : t.engp.table = s.engp.table) (hp : t.engp.purges = s.engp.purges) :
    HoldsFall n s t := by
  refine ⟨?_, ?_⟩
  · rw [ht]; exact List.forall₂_same.2 fun w _ => .refl n w
  · rw [purgeHold, purgeHold, hp]

theorem swathsFall_trans {n : SlotId} {l m r : List Swath} (h : List.Forall₂ (SwathFalls n) l m) (k : List.Forall₂ (SwathFalls n) m r) :
    List.Forall₂ (SwathFalls n) l r := by
  induction h generalizing r with
  | nil => exact k
  | cons h _ ih => cases k with
    | cons k ks => exact .cons (h.trans k) (ih ks)

theorem HoldsFall.trans {n : SlotId} {s t u : State} (h : HoldsFall n s t) (k : HoldsFall n t u) : HoldsFall n s u :=
  ⟨swathsFall_trans h.table k.table, k.purge.trans h.purge⟩

theorem HoldsFall.sum {n : SlotId} {l m : List Swath} (h : List.Forall₂ (SwathFalls n) l m) :
    (m.map (holdOf · n)).sum ≤ (l.map (holdOf · n)).sum := by
  induction h with
  | nil => exact Nat.le_refl _
  | cons h _ ih => exact Nat.add_le_add h.hold ih

theorem HoldsFall.holds {n : SlotId} {s t : State} (h : HoldsFall n s t) : holds t n ≤ holds s n :=
  Nat.add_le_add (HoldsFall.sum h.table) h.purge

theorem swathsFall_any {n : SlotId} {l m : List Swath} (h : List.Forall₂ (SwathFalls n) l m) :
    (m.any fun w => w.state == .opened && lists w n) = l.any fun w => w.state == .opened && lists w n := by
  induction h with
  | nil => rfl
  | cons h _ ih => rw [List.any_cons, List.any_cons, ih, h.state, h.lists]

theorem HoldsFall.inOpenSwath {n : SlotId} {s t : State} (h : HoldsFall n s t) : inOpenSwath t n = inOpenSwath s n :=
  swathsFall_any h.table

/-- Only OPEN swaths hold ink for slot `n` (R108). -/
def HoldsOpen (n : SlotId) (table : List Swath) : Prop := ∀ w ∈ table, w.state ≠ .opened → holdOf w n = 0

theorem HoldsOpen.falls {n : SlotId} {l m : List Swath} (ho : HoldsOpen n l) (h : List.Forall₂ (SwathFalls n) l m) : HoldsOpen n m := by
  induction h with
  | nil => exact ho
  | cons h _ ih =>
    obtain ⟨hw, hws⟩ := List.forall_mem_cons.1 ho
    refine List.forall_mem_cons.2 ⟨fun hs => ?_, ih hws⟩
    exact Nat.le_zero.1 (hw (h.state ▸ hs) ▸ h.hold)

/-- An EXPIRED swath holds nothing, so that only OPEN ones do. -/
theorem holdsOpen_of_safe {s : State} (h : SwathsSafe s) (n : SlotId) : HoldsOpen n s.engp.table := by
  obtain ⟨-, -, hexpired, -⟩ := h
  intro w hw hs
  have he : w.state = .expired := by
    cases hst : w.state with
    | opened => exact absurd hst hs
    | expired => rfl
  obtain ⟨-, hzero⟩ := hexpired w hw he
  unfold holdOf
  cases hf : w.slots.find? (·.slot == n) with
  | none => rfl
  | some l => exact hzero l (List.mem_of_find?_eq_some hf)

/-! ### The hold clamp (R89) -/

theorem holdOf_unlisted {w : Swath} {n : SlotId} (h : lists w n = false) : holdOf w n = 0 := by
  have hf : w.slots.find? (·.slot == n) = none := List.find?_eq_none.2 fun l hl => by
    have := List.any_eq_false.1 h l hl
    exact this
  rw [holdOf, hf]
  rfl

theorem cutSwaths_falls (m n : SlotId) (ws : List Swath) (e : Nat) : List.Forall₂ (SwathFalls n) ws (cutSwaths m ws e).1 := by
  induction ws with
  | nil => exact .nil
  | cons w ws ih =>
    unfold cutSwaths
    dsimp only
    split
    · exact .cons (swathFalls_modListed n w m (fun _ => rfl) fun _ => Nat.sub_le _ _) ih
    · exact .cons (.refl n w) ih

/-- The swaths' cuts take what there is of the excess, and leave the rest of it (R89). -/
theorem cutSwaths_sum (n : SlotId) {ws : List Swath} (ho : HoldsOpen n ws) (e : Nat) :
    ((cutSwaths n ws e).1.map (holdOf · n)).sum = (ws.map (holdOf · n)).sum - e ∧
      (cutSwaths n ws e).2.1 = e - (ws.map (holdOf · n)).sum := by
  induction ws with
  | nil => exact ⟨by simp [cutSwaths], by simp [cutSwaths]⟩
  | cons w ws ih =>
    obtain ⟨hw, hws⟩ := List.forall_mem_cons.1 ho
    obtain ⟨h1, h2⟩ := ih hws
    unfold cutSwaths
    dsimp only
    rw [List.map_cons, List.sum_cons]
    split
    · have hcut : holdOf (modListed w n fun l => { l with hold := l.hold - min (holdOf w n) (cutSwaths n ws e).2.1 }) n =
          holdOf w n - min (holdOf w n) (cutSwaths n ws e).2.1 := by
        rw [holdOf, find?_modListed w n (fun l => { l with hold := l.hold - min (holdOf w n) (cutSwaths n ws e).2.1 }) fun _ => rfl]
        rw [holdOf]
        cases w.slots.find? (·.slot == n) with
        | none => simp
        | some l => rfl
      rw [List.map_cons, List.sum_cons, hcut, h1, h2]
      dsimp only
      omega
    · next hc =>
      have hzero : holdOf w n = 0 := by
        by_cases hs : w.state = .opened
        · exact holdOf_unlisted (Bool.eq_false_iff.2 fun hl => hc ⟨hs, hl⟩)
        · exact hw hs
      rw [List.map_cons, List.sum_cons, h1, hzero]
      exact ⟨by omega, by rw [h2]; omega⟩

/-- The state after the cuts, before their events. -/
def cut (s : State) (n : SlotId) (excess : Nat) : State :=
  let r := cutSwaths n s.engp.table excess
  { s with engp := { s.engp with
    table := r.1, purges := upd s.engp.purges n (Option.map fun p => { p with hold := p.hold - min (purgeHold s n) r.2.1 }) } }

theorem cut_purgeHold (s : State) (n m : SlotId) (excess : Nat) :
    purgeHold (cut s n excess) m =
      if m = n then purgeHold s n - min (purgeHold s n) (cutSwaths n s.engp.table excess).2.1 else purgeHold s m := by
  unfold cut
  dsimp only
  rw [purgeHold, upd_get]
  split
  · next h =>
    subst h
    rw [purgeHold]
    cases s.engp.purges[m] with
    | none => simp
    | some p => rfl
  · rfl

theorem cut_falls (s : State) (n m : SlotId) (excess : Nat) : HoldsFall m s (cut s n excess) := by
  refine ⟨cutSwaths_falls n m _ _, ?_⟩
  rw [cut_purgeHold]
  split
  · next h => subst h; exact Nat.sub_le _ _
  · exact Nat.le_refl _

theorem cut_holds {s : State} {n : SlotId} (ho : HoldsOpen n s.engp.table) (excess : Nat) :
    holds (cut s n excess) n = holds s n - excess := by
  obtain ⟨h1, h2⟩ := cutSwaths_sum n ho excess
  rw [holds, cut_purgeHold, if_pos rfl, h2, holds]
  show ((cutSwaths n s.engp.table excess).1.map (holdOf · n)).sum + _ = _
  rw [h1]
  omega

theorem clampHolds_eq {s : State} {n : SlotId} {a : Account} (h : s.accounts[n] = some a) :
    ∃ cuts, clampHolds s n =
      if a.metered = true ∧ headroom a < holds s n then postCuts (cut s n (holds s n - headroom a)) n cuts else s := by
  unfold clampHolds
  rw [h]
  exact ⟨_, rfl⟩

theorem HoldsFall.of_frame {n : SlotId} {s t : State} {ps : List Part} (h : OnlyChanges ps s t) (hp : .engp ∉ ps) : HoldsFall n s t :=
  .of_engp (by rw [h .engp hp]) (by rw [h .engp hp])

/-- The clamp lowers holds alone: a metered slot's to its headroom at most; the gate lines stay. -/
theorem clampHolds_spec (s : State) (n : SlotId) :
    (clampHolds s n).engp.gates = s.engp.gates ∧ (∀ m, HoldsFall m s (clampHolds s n)) ∧
      ∀ a, s.accounts[n] = some a → a.metered = true → HoldsOpen n s.engp.table → holds (clampHolds s n) n ≤ headroom a := by
  cases ha : s.accounts[n] with
  | none =>
    have hs : clampHolds s n = s := by unfold clampHolds; rw [ha]
    rw [hs]
    exact ⟨rfl, fun m => .of_engp rfl rfl, nofun⟩
  | some a =>
    obtain ⟨cuts, hs⟩ := clampHolds_eq ha
    rw [hs]
    split
    · have hpost := postCuts_frame (cut s n (holds s n - headroom a)) n cuts
      have hengp := hpost .engp (by decide)
      refine ⟨by rw [hengp]; rfl, fun m => (cut_falls s n m _).trans (.of_frame hpost (by decide)), ?_⟩
      rintro b ⟨⟩ - ho
      have hh : holds (postCuts (cut s n (holds s n - headroom a)) n cuts) n ≤ holds (cut s n (holds s n - headroom a)) n :=
        (HoldsFall.of_frame hpost (by decide)).holds
      rw [cut_holds ho] at hh
      omega
    · next hc =>
      refine ⟨rfl, fun m => .of_engp rfl rfl, ?_⟩
      rintro b ⟨⟩ hm -
      exact Nat.le_of_not_lt fun h => hc ⟨hm, h⟩

/-! ### Other slots (R88) -/

/-- From `s` to `t` slot `m` keeps its record, its account and its gate line, and gains no hold. -/
structure Untouched (m : SlotId) (s t : State) : Prop where
  slot : t.slots[m] = s.slots[m]
  account : t.accounts[m] = s.accounts[m]
  gate : t.engp.gates[m] = s.engp.gates[m]
  holds : HoldsFall m s t

theorem Untouched.refl (m : SlotId) (s : State) : Untouched m s s := ⟨rfl, rfl, rfl, .of_engp rfl rfl⟩

theorem Untouched.trans {m : SlotId} {s t u : State} (h : Untouched m s t) (k : Untouched m t u) : Untouched m s u :=
  ⟨k.slot.trans h.slot, k.account.trans h.account, k.gate.trans h.gate, h.holds.trans k.holds⟩

theorem Untouched.of_frame {m : SlotId} {s t : State} {ps : List Part} (h : OnlyChanges ps s t)
    (hp : ∀ p ∈ [Part.slots, .accounts, .engp], p ∉ ps) : Untouched m s t :=
  ⟨by rw [h .slots (hp _ (by decide))], by rw [h .accounts (hp _ (by decide))], by rw [h .engp (hp _ (by decide))],
    .of_frame h (hp _ (by decide))⟩

theorem Untouched.ite {m : SlotId} {s t u : State} {c : Prop} [Decidable c] (h : Untouched m s t) (k : Untouched m s u) :
    Untouched m s (if c then t else u) := by
  split
  · exact h
  · exact k

theorem clampHolds_untouched (m n : SlotId) (s : State) : Untouched m s (clampHolds s n) := by
  obtain ⟨hg, hf, -⟩ := clampHolds_spec s n
  have h := clampHolds_frame s n
  exact ⟨by rw [h .slots (by decide)], by rw [h .accounts (by decide)], by rw [hg], hf m⟩

section
variable {m n : SlotId} (hm : m ≠ n)
include hm

theorem setAccount_untouched (s : State) (a : Option Account) : Untouched m s (setAccount s n a) :=
  ⟨rfl, by rw [setAccount_accounts, put_other _ _ _ _ hm], rfl, .of_engp rfl rfl⟩

theorem lampAfterChange_untouched (s : State) : Untouched m s (lampAfterChange s n) :=
  ⟨lampAfterChange_others s n m hm, rfl, rfl, .of_engp rfl rfl⟩

theorem refreshLevel_untouched (s : State) : Untouched m s (refreshLevel s n) := by
  unfold refreshLevel
  split
  · exact .refl m s
  · refine .ite ?_ (.refl m s)
    have h (a : Option Account) (c : Byte) (v : Option Word) : Untouched m s (postEvent (setAccount s n a) .level (slotByte n) c v) :=
      (setAccount_untouched hm s a).trans (.of_frame (postEvent_frame _ _ _ _ _) (by decide))
    exact .ite ((h _ _ _).trans (lampAfterChange_untouched hm _)) (h _ _ _)

theorem spentCheck_untouched (s : State) : Untouched m s (spentCheck s n) := by
  refine .ite ⟨rfl, ?_, rfl, .of_engp rfl rfl⟩ (.refl m s)
  exact upd_other _ _ _ _ hm

theorem moveSlot_untouched (s : State) (st : SlotState) : Untouched m s (moveSlot s n st) := by
  have he := moveSlot_engp s n st
  refine ⟨moveSlot_others s n st m hm, rfl, ?_, .of_engp (by rw [he]) (by rw [he])⟩
  rw [he]
  exact put_other _ _ _ _ hm

theorem changeState_untouched (s : State) (st : SlotState) : Untouched m s (changeState s n st) :=
  .ite (((moveSlot_untouched hm s st).trans (.of_frame (requestAddUsed_frame _ n) (by decide))).trans (spentCheck_untouched hm _))
    (moveSlot_untouched hm s st)

theorem raiseAlert_untouched (s : State) (c : AlertCode) (v : Option Word) : Untouched m s (raiseAlert s n c v) := by
  have h := raiseAlert_frame_slot s n c v
  exact ⟨raiseAlert_others s n c v m hm, by rw [h .accounts (by decide)], by rw [h .engp (by decide)], .of_frame h (by decide)⟩

theorem reevalGate_untouched (s : State) : Untouched m s (reevalGate s n) :=
  ⟨rfl, rfl, put_other _ _ _ _ hm, .of_engp rfl rfl⟩

theorem reportExhaustion_untouched (s : State) : Untouched m s (reportExhaustion s n) := by
  unfold reportExhaustion
  refine Untouched.trans ?_ (raiseAlert_untouched hm _ _ _)
  exact (reevalGate_untouched hm s).trans (.ite (changeState_untouched hm _ _) (.refl m _))

theorem afterDebit_untouched (s : State) (before : Nat) : Untouched m s (afterDebit s n before) := by
  unfold afterDebit
  split
  · exact .refl m s
  · next a _ =>
    refine .ite ?_ (.refl m s)
    have h : Untouched m s (if 0 < before ∧ headroom a = 0 then
        reportExhaustion (clampHolds (refreshLevel s n) n) n else clampHolds (refreshLevel s n) n) :=
      ((refreshLevel_untouched hm s).trans (clampHolds_untouched m n _)).trans (.ite (reportExhaustion_untouched hm _) (.refl m _))
    dsimp only
    split
    · exact .ite (h.trans (.of_frame (requestAddUsed_frame _ n) (by decide))) h
    · exact h

end

/-! ### The slot debited (R15, R88, R90) -/

/-- Slot `n` is exhausted, with the alert of its exhaustion: gate closed, nothing held. -/
def Shut (c : AlertCode) (n : SlotId) (t : State) : Prop :=
  t.engp.gates[n] = false ∧ t.slots[n].state = .exhausted ∧ holds t n = 0 ∧ t.slots[n].alert = some c

theorem Shut.of_parts {c : AlertCode} {n : SlotId} {s t : State} (h : Shut c n s) (hs : t.slots = s.slots) (hg : t.engp.gates = s.engp.gates)
    (hf : HoldsFall n s t) : Shut c n t := by
  obtain ⟨h1, h2, h3, h4⟩ := h
  exact ⟨by rw [hg]; exact h1, by rw [hs]; exact h2, Nat.le_zero.1 (h3 ▸ hf.holds), by rw [hs]; exact h4⟩

theorem Shut.of_frame {c : AlertCode} {n : SlotId} {s t : State} {ps : List Part} (h : Shut c n s) (hf : OnlyChanges ps s t)
    (hs : .slots ∉ ps) (he : .engp ∉ ps) : Shut c n t := h.of_parts (hf .slots hs) (by rw [hf .engp he]) (.of_frame hf he)

/-- The alert exhaustion raises (R90). -/
def exhaustionAlert (s : State) (n : SlotId) : AlertCode := if inOpenSwath s n then .starved else .exhausted

theorem reportExhaustion_eq {s : State} {n : SlotId} (h : s.slots[n].state = .ready) :
    reportExhaustion s n = raiseAlert (changeState (reevalGate s n) n .exhausted) n (exhaustionAlert s n) none := by
  unfold reportExhaustion exhaustionAlert
  dsimp only
  rw [if_pos (c := (reevalGate s n).slots[n].state = .ready) h]

theorem spentCheck_account {s : State} {n : SlotId} {a : Account} (h : s.accounts[n] = some a) :
    ∃ x, (spentCheck s n).accounts[n] = some { a with spent := x } := by
  cases hd : spentDue s n with
  | true => exact ⟨_, (spentCheck_due h hd).1⟩
  | false => exact ⟨a.spent, by rw [spentCheck_idle hd]; exact h⟩

theorem changeState_account {s : State} {n : SlotId} {a : Account} (st : SlotState) (h : s.accounts[n] = some a) :
    ∃ x, (changeState s n st).accounts[n] = some { a with spent := x } := by
  unfold changeState
  dsimp only
  split
  · refine spentCheck_account ?_
    rw [requestAddUsed_frame _ n .accounts (by decide)]
    exact h
  · exact ⟨a.spent, h⟩

/-- Exhaustion reported for a READY slot without alert that holds nothing (R15, R90). -/
theorem reportExhaustion_spec {s : State} {n : SlotId} {a : Account} (hr : s.slots[n].state = .ready) (hal : s.slots[n].alert = none)
    (hh : holds s n = 0) (ha : s.accounts[n] = some a) :
    Shut (exhaustionAlert s n) n (reportExhaustion s n) ∧ HoldsFall n s (reportExhaustion s n) ∧
      ∃ x, (reportExhaustion s n).accounts[n] = some { a with spent := x } := by
  rw [reportExhaustion_eq hr]
  obtain ⟨hst, -, halert, -⟩ := raiseAlert_state (changeState (reevalGate s n) n .exhausted) n (exhaustionAlert s n) none
  have hraise := raiseAlert_frame_slot (changeState (reevalGate s n) n .exhausted) n (exhaustionAlert s n) none
  have hengp : (changeState (reevalGate s n) n .exhausted).engp = { s.engp with gates := put (reevalGate s n).engp.gates n false } := by
    rw [changeState_engp, moveSlot_engp_low (st := .exhausted) _ n nofun]
    rfl
  have hfall : HoldsFall n s (raiseAlert (changeState (reevalGate s n) n .exhausted) n (exhaustionAlert s n) none) := by
    refine .of_engp ?_ ?_ <;> rw [hraise .engp (by decide), hengp]
  refine ⟨⟨?_, ?_, Nat.le_zero.1 (hh ▸ hfall.holds), ?_⟩, hfall, ?_⟩
  · rw [hraise .engp (by decide), hengp]
    exact put_same _ _ _
  · rw [hst, changeState_state]
  · rw [halert, changeState_slots, (moveSlot_kept _ n _).2]
    show some (s.slots[n].alert.getD _) = _
    rw [hal]
    rfl
  · rw [hraise .accounts (by decide)]
    exact changeState_account (s := reevalGate s n) .exhausted ha

/-- A level computed afresh changes a metered slot's level and lamp alone (R87). -/
theorem refreshLevel_at {s : State} {n : SlotId} {a : Account} (h : s.accounts[n] = some a) :
    (∃ l, (refreshLevel s n).accounts[n] = some { a with level := l }) ∧ (refreshLevel s n).slots[n].state = s.slots[n].state ∧
      (refreshLevel s n).slots[n].alert = s.slots[n].alert := by
  have hlamp {v : State} (hacc : ∃ l, v.accounts[n] = some { a with level := l }) (hslots : v.slots = s.slots) :
      (∃ l, (if v.slots[n].state = .ready then lampAfterChange v n else v).accounts[n] = some { a with level := l }) ∧
        (if v.slots[n].state = .ready then lampAfterChange v n else v).slots[n].state = s.slots[n].state ∧
        (if v.slots[n].state = .ready then lampAfterChange v n else v).slots[n].alert = s.slots[n].alert := by
    rw [← hslots]
    split
    · refine ⟨hacc, ?_⟩
      rw [lampAfterChange, modSlot_same]
      split <;> exact ⟨rfl, rfl⟩
    · exact ⟨hacc, rfl, rfl⟩
  unfold refreshLevel
  rw [h]
  dsimp only
  split
  · exact hlamp ⟨_, put_same _ _ _⟩ rfl
  · exact ⟨⟨a.level, h⟩, rfl, rfl⟩

/-- Slot `n`, its metered account `b`, in the course of debits: READY without alert while there is headroom, and exhausted
with alert `c` when there is none. -/
structure Standing (c : AlertCode) (n : SlotId) (b : Account) (t : State) : Prop where
  account : t.accounts[n] = some b
  metered : b.metered = true
  alert : exhaustionAlert t n = c
  opened : HoldsOpen n t.engp.table
  state : 0 < headroom b ∧ t.slots[n].state = .ready ∧ t.slots[n].alert = none ∨ headroom b = 0 ∧ Shut c n t

theorem Standing.shut {c : AlertCode} {n : SlotId} {b : Account} {t : State} (h : Standing c n b t) (hb : headroom b = 0) :
    Shut c n t := by
  rcases h.state with ⟨hpos, -⟩ | ⟨-, h⟩
  · omega
  · exact h

theorem HoldsFall.exhaustionAlert {n : SlotId} {s t : State} (h : HoldsFall n s t) : exhaustionAlert t n = exhaustionAlert s n := by
  rw [Machine.exhaustionAlert, Machine.exhaustionAlert, h.inOpenSwath]

theorem Shut.of_untouched {c : AlertCode} {n : SlotId} {s t : State} (h : Shut c n s) (hu : Untouched n s t) : Shut c n t := by
  obtain ⟨h1, h2, h3, h4⟩ := h
  exact ⟨hu.gate.trans h1, by rw [hu.slot]; exact h2, Nat.le_zero.1 (h3 ▸ hu.holds.holds), by rw [hu.slot]; exact h4⟩

theorem Standing.untouched {c : AlertCode} {n : SlotId} {b : Account} {s t : State} (h : Standing c n b s) (hu : Untouched n s t) :
    Standing c n b t := by
  refine ⟨hu.account.trans h.account, h.metered, hu.holds.exhaustionAlert.trans h.alert, h.opened.falls hu.holds.table, ?_⟩
  rw [hu.slot]
  exact h.state.imp id (And.imp_right (Shut.of_untouched · hu))

/-- The last step after a debit: the threshold trigger (R88, R92). -/
def thresholdTaken (s : State) (n : SlotId) : State :=
  match s.accounts[n] with
  | some b => if s.settings.limits.threshold ≤ b.pendingInk then requestAddUsed s n else s
  | none => s

theorem thresholdTaken_frame (s : State) (n : SlotId) : OnlyChanges [.cbc] s (thresholdTaken s n) := by
  unfold thresholdTaken
  split
  · exact .ite (requestAddUsed_frame s n) (.refl _ s)
  · exact .refl _ s

theorem afterDebit_eq {s : State} {n : SlotId} {a : Account} (h : s.accounts[n] = some a) (hm : a.metered = true) (before : Nat) :
    afterDebit s n before = thresholdTaken (if 0 < before ∧ headroom a = 0 then
      reportExhaustion (clampHolds (refreshLevel s n) n) n else clampHolds (refreshLevel s n) n) n := by
  unfold afterDebit
  rw [h]
  dsimp only
  rw [if_pos hm]
  rfl

/-- What a debit or a rebase that leaves account `b` makes of the slot (R88). -/
theorem Standing.debited {c : AlertCode} {n : SlotId} {a b : Account} {s v : State} (h : Standing c n a s)
    (hslot : v.slots[n] = s.slots[n]) (hgate : v.engp.gates[n] = s.engp.gates[n]) (hfall : HoldsFall n s v) (hb : v.accounts[n] = some b)
    (hm : b.metered = true) (hle : headroom b ≤ headroom a) :
    ∃ l x, Standing c n { b with level := l, spent := x } (afterDebit v n (headroom a)) := by
  rw [afterDebit_eq hb hm]
  obtain ⟨⟨l, hlacc⟩, hlstate, hlalert⟩ := refreshLevel_at hb
  have hlfall : HoldsFall n s (refreshLevel v n) := hfall.trans (.of_frame (refreshLevel_frame v n) (by decide))
  have hlgates : (refreshLevel v n).engp.gates[n] = s.engp.gates[n] := by rw [refreshLevel_frame v n .engp (by decide)]; exact hgate
  obtain ⟨hcgates, hcfall, hcholds⟩ := clampHolds_spec (refreshLevel v n) n
  have hcframe := clampHolds_frame (refreshLevel v n) n
  have hholds := hcholds _ hlacc hm (h.opened.falls hlfall.table)
  have hacc : (clampHolds (refreshLevel v n) n).accounts[n] = some { b with level := l } := by
    rw [hcframe .accounts (by decide)]; exact hlacc
  have hstate : (clampHolds (refreshLevel v n) n).slots[n].state = s.slots[n].state := by
    rw [hcframe .slots (by decide), hlstate, hslot]
  have halert : (clampHolds (refreshLevel v n) n).slots[n].alert = s.slots[n].alert := by
    rw [hcframe .slots (by decide), hlalert, hslot]
  have hgates : (clampHolds (refreshLevel v n) n).engp.gates[n] = s.engp.gates[n] := by rw [hcgates]; exact hlgates
  have hall := hlfall.trans (hcfall n)
  generalize clampHolds (refreshLevel v n) n = u at hholds hacc hstate halert hgates hall
  have hhead : headroom { b with level := l } = headroom b := rfl
  rw [hhead] at hholds
  have hcode : Machine.exhaustionAlert u n = c := hall.exhaustionAlert.trans h.alert
  have htake {w : State} {x : SpentState} (hw : Standing c n { b with level := l, spent := x } w) :
      ∃ l x, Standing c n { b with level := l, spent := x } (thresholdTaken w n) :=
    ⟨l, x, hw.untouched (.of_frame (thresholdTaken_frame w n) (by decide))⟩
  rcases h.state with ⟨hpos, hready, hnone⟩ | ⟨hzero, hshut⟩
  · by_cases hb0 : headroom b = 0
    · rw [if_pos ⟨hpos, hb0⟩]
      obtain ⟨hs, hf, x, hx⟩ := reportExhaustion_spec (hstate.trans hready) (halert.trans hnone) (by omega) hacc
      rw [hcode] at hs
      have hf' := hall.trans hf
      exact htake (x := x) ⟨hx, hm, hf'.exhaustionAlert.trans h.alert, h.opened.falls hf'.table, .inr ⟨hb0, hs⟩⟩
    · rw [if_neg fun hc => hb0 hc.2]
      exact htake (x := b.spent) ⟨hacc, hm, hcode, h.opened.falls hall.table,
        .inl ⟨Nat.pos_of_ne_zero hb0, hstate.trans hready, halert.trans hnone⟩⟩
  · have hb0 : headroom b = 0 := by omega
    obtain ⟨h1, h2, -, h4⟩ := hshut
    rw [if_neg fun hc => by omega]
    exact htake (x := b.spent) ⟨hacc, hm, hcode, h.opened.falls hall.table,
      .inr ⟨hb0, hgates.trans h1, hstate.trans h2, by omega, halert.trans h4⟩⟩

end Sys2Proof.Machine
end

section
/-! Whatever takes the headroom to 0 exhausts the slot (R15, R90; O47). -/

namespace Sys2Proof.Machine

/-! ### Before the debit -/

/-- A metered READY slot with headroom and no alert. -/
theorem standing_ready {s : State} {n : SlotId} {a : Account} (ha : s.accounts[n] = some a) (hm : a.metered = true)
    (hr : s.slots[n].state = .ready) (hal : s.slots[n].alert = none) (hh : 0 < headroom a) (hs : SwathsSafe s) :
    Standing (exhaustionAlert s n) n a s := ⟨ha, hm, rfl, holdsOpen_of_safe hs n, .inl ⟨hh, hr, hal⟩⟩

theorem endEngSelection_untouched (n : SlotId) (s : State) (ready : Bool) (k : Nat) : Untouched n s (endEngSelection s ready k) :=
  ⟨rfl, rfl, rfl, .of_engp rfl rfl⟩

theorem restartWatchdog_untouched (n : SlotId) (s : State) : Untouched n s (restartWatchdog s) :=
  .ite ⟨rfl, rfl, rfl, .of_engp rfl rfl⟩ (.refl n s)

/-! ### Debits (R77, R80) -/

theorem clearPurge_falls (s : State) (n : SlotId) : HoldsFall n s (clearPurge s n) := by
  refine ⟨List.forall₂_same.2 fun w _ => .refl n w, ?_⟩
  have hnone : (clearPurge s n).engp.purges[n] = none := put_same _ _ _
  rw [purgeHold, hnone]
  exact Nat.zero_le _

/-- A purge that draws what is left exhausts the slot (R80, R90). -/
theorem debitPurge_shut {c : AlertCode} {n : SlotId} {a : Account} {s : State} {amount : Nat} (h : Standing c n a s)
    (hdry : a.capacity ≤ consumedView a + amount) : Shut c n (debitPurge (clearPurge s n) n amount) := by
  unfold debitPurge
  rw [show (clearPurge s n).accounts[n] = some a from h.account]
  dsimp only
  generalize hb : ({ a with pendingInk := a.pendingInk + amount, purgeTotal := a.purgeTotal + amount } : Account) = b
  have hhead : headroom b = 0 := by
    rw [← hb]
    simp only [headroom, consumedView] at hdry ⊢
    omega
  obtain ⟨l, x, hk⟩ := h.debited (v := setAccount (clearPurge s n) n (some b)) (b := b) rfl rfl
    ((clearPurge_falls s n).trans (.of_engp rfl rfl))
    (put_same _ _ _) (by rw [← hb]; exact h.metered) (by omega)
  exact hk.shut hhead

theorem debitPurge_others (s : State) (n : SlotId) (amount : Nat) : OtherSlotsKept n s (debitPurge (clearPurge s n) n amount) := by
  intro m hm
  unfold debitPurge
  split
  · rfl
  · exact ((setAccount_untouched hm (clearPurge s n) _).trans (afterDebit_untouched hm _ _)).slot

theorem arbitrateIfJoined_engp (s t : State) : (arbitrateIfJoined s t).engp = t.engp := by
  unfold arbitrateIfJoined
  split
  · rfl
  · rw [arbitrate_frame t .engp (by decide)]

theorem Shut.arbitrated {c : AlertCode} {n : SlotId} {t : State} (h : Shut c n t) (s : State) : Shut c n (arbitrateIfJoined s t) := by
  have he := arbitrateIfJoined_engp s t
  exact h.of_parts (arbitrateIfJoined_slots s t) (by rw [he]) (.of_engp (by rw [he]) (by rw [he]))

theorem arbitrateIfJoined_frame_debit {s t : State} (h : OnlyChanges debitParts s t) : OnlyChanges debitParts s (arbitrateIfJoined s t) :=
  .ite h (h.trans ((arbitrate_frame t).mono (by decide)))

/-! ### A report's entries (R71, R76 to R78) -/

/-- From one account to another `q` fine units of ink are metered, in whole microlitres and residue (R76). -/
structure Metered (a b : Account) (q : Nat) : Prop where
  capacity : b.capacity = a.capacity
  residue : b.residue < unitsPerMicrolitre
  ink : consumedView b * unitsPerMicrolitre + b.residue = consumedView a * unitsPerMicrolitre + a.residue + q

theorem Metered.refl {a : Account} (h : a.residue < unitsPerMicrolitre) : Metered a a 0 := ⟨rfl, h, (Nat.add_zero _).symm⟩

theorem Metered.trans {a b c : Account} {p q : Nat} (h : Metered a b p) (k : Metered b c q) : Metered a c (p + q) :=
  ⟨k.capacity.trans h.capacity, k.residue, by rw [k.ink, h.ink, Nat.add_assoc]⟩

/-- A report that meters what is left of the capacity leaves no headroom. -/
theorem Metered.dry {a b : Account} {q : Nat} (h : Metered a b q)
    (hdry : a.capacity ≤ consumedView a + (a.residue + q) / unitsPerMicrolitre) : headroom b = 0 := by
  obtain ⟨hc, hr, hi⟩ := h
  unfold headroom
  rw [hc]
  unfold unitsPerMicrolitre at *
  omega

theorem debitDrops_none {s : State} {n : SlotId} (id : Byte) : debitDrops s n id 0 = s := by
  unfold debitDrops
  split
  · rfl
  · exact if_pos rfl

/-- The account after a debit of `d` whole microlitres, before its level (R77). -/
def drawn (a : Account) (d : Nat) : Account := { a with pendingInk := a.pendingInk + d, dropTotal := a.dropTotal + d }

theorem debitDrops_eq {s : State} {n : SlotId} {a : Account} (h : s.accounts[n] = some a) (id : Byte) {d : Nat} (hd : d ≠ 0) :
    debitDrops s n id d =
      afterDebit (modSwath (setAccount s n (some (drawn a d))) id fun w => countInSwath w n d) n (headroom a) := by
  unfold debitDrops
  rw [h]
  exact if_neg hd

theorem countInSwath_falls (m n : SlotId) (w : Swath) (d : Nat) : SwathFalls m w (countInSwath w n d) :=
  swathFalls_modListed m w n (fun _ => rfl) fun l => by
    dsimp only
    split
    · exact Nat.sub_le _ _
    · exact Nat.le_refl _

theorem modSwath_falls (m n : SlotId) (s : State) (id : Byte) (d : Nat) : HoldsFall m s (modSwath s id fun w => countInSwath w n d) := by
  refine ⟨?_, Nat.le_refl _⟩
  show List.Forall₂ _ s.engp.table (s.engp.table.map _)
  refine List.forall₂_map_right_iff.2 (List.forall₂_same.2 fun w _ => ?_)
  split
  · exact countInSwath_falls m n w d
  · exact .refl m w

theorem debitDrops_untouched {m n : SlotId} (hm : m ≠ n) (s : State) (id : Byte) (d : Nat) : Untouched m s (debitDrops s n id d) := by
  by_cases hd : d = 0
  · rw [hd, debitDrops_none]
    exact .refl m s
  · cases ha : s.accounts[n] with
    | none =>
      have hs : debitDrops s n id d = s := by unfold debitDrops; rw [ha]
      rw [hs]
      exact .refl m s
    | some a =>
      rw [debitDrops_eq ha id hd]
      have hcount : Untouched m (setAccount s n (some (drawn a d))) (modSwath (setAccount s n (some (drawn a d))) id fun w => countInSwath w n d) :=
        ⟨rfl, rfl, rfl, modSwath_falls m n _ id d⟩
      exact ((setAccount_untouched hm s _).trans hcount).trans (afterDebit_untouched hm _ _)

/-- An entry's ink metered to a slot (R75 to R78). -/
theorem Standing.entryMetered {c : AlertCode} {n : SlotId} {a : Account} {s : State} (h : Standing c n a s) (id : Byte) (e : DropEntry) (t : Nat) :
    ∃ b, Standing c n b (meterEntry s n a id e t).1 ∧ Metered a b (fineVolume s.cal[n] e t) := by
  unfold meterEntry carry
  dsimp only
  generalize fineVolume s.cal[n] e t = q
  generalize hr : ({ a with residue := (a.residue + q) % unitsPerMicrolitre } : Account) = r
  have hhead : headroom r = headroom a := by rw [← hr]; rfl
  have hmet : r.metered = true := by rw [← hr]; exact h.metered
  have hres : r.residue = (a.residue + q) % unitsPerMicrolitre := by rw [← hr]
  have hcap : r.capacity = a.capacity := by rw [← hr]
  have hview : consumedView r = consumedView a := by rw [← hr]; rfl
  have hstand : Standing c n r (setAccount s n (some r)) :=
    ⟨put_same _ _ _, hmet, h.alert, h.opened, by rw [hhead]; exact h.state⟩
  generalize hd : (a.residue + q) / unitsPerMicrolitre = d
  have hpos : 0 < unitsPerMicrolitre := by decide
  have hdiv := Nat.div_add_mod (a.residue + q) unitsPerMicrolitre
  rw [hd, ← hres, Nat.mul_comm] at hdiv
  have hlt : r.residue < unitsPerMicrolitre := by rw [hres]; exact Nat.mod_lt _ hpos
  by_cases hz : d = 0
  · refine ⟨r, by rw [hz, debitDrops_none]; exact hstand, hcap, hlt, ?_⟩
    rw [hview]
    rw [hz] at hdiv
    omega
  · rw [debitDrops_eq hstand.account id hz]
    have hdrawn : headroom (drawn r d) ≤ headroom r := by
      simp only [headroom, consumedView, drawn]
      omega
    obtain ⟨l, x, hk⟩ := hstand.debited
      (v := modSwath (setAccount (setAccount s n (some r)) n (some (drawn r d))) id fun w => countInSwath w n d) (b := drawn r d) rfl rfl
      (HoldsFall.trans (t := setAccount (setAccount s n (some r)) n (some (drawn r d))) (.of_engp rfl rfl) (modSwath_falls n n _ id d)) (put_same _ _ _) hmet hdrawn
    refine ⟨_, hk, hcap, hlt, ?_⟩
    have hv : consumedView { drawn r d with level := l, spent := x } = consumedView a + d := by
      rw [← hview]
      simp only [consumedView, drawn]
      omega
    have hr' : ({ drawn r d with level := l, spent := x } : Account).residue = r.residue := rfl
    rw [hv, hr', Nat.add_mul]
    omega

theorem fineSum_cons (s : State) (n : SlotId) (t : Nat) (e : DropEntry) (l : List DropEntry) :
    fineSum s n t (e :: l) = (if slotOf e.slot = some n then fineVolume s.cal[n] e t else 0) + fineSum s n t l := by
  unfold fineSum
  by_cases h : slotOf e.slot = some n
  · rw [List.filter_cons_of_pos (by simp [h]), if_pos h, List.map_cons, List.sum_cons]
  · rw [List.filter_cons_of_neg (by simp [h]), if_neg h, Nat.zero_add]

theorem fineSum_congr {s t : State} (h : t.cal = s.cal) (n : SlotId) (k : Nat) (l : List DropEntry) : fineSum t n k l = fineSum s n k l := by
  unfold fineSum
  rw [h]

theorem takeEntry_frame (id : Byte) (t : Nat) (s : State) (e : DropEntry) : OnlyChanges debitParts s (takeEntry s id t e).1 := by
  unfold takeEntry
  dsimp only
  split
  · exact ((setAccount_frame s _ _).mono (by decide)).trans (debitDrops_frame _ _ id _)
  · exact .refl _ s

theorem entryAccount_eq {s : State} {b : Byte} {n : SlotId} {a : Account} (hs : slotOf b = some n) (ha : s.accounts[n] = some a) :
    entryAccount s b = some (n, a) := by
  unfold entryAccount
  rw [hs]
  dsimp only
  rw [ha]
  rfl

theorem entryAccount_slot {s : State} {b : Byte} {n : SlotId} {a : Account} (h : entryAccount s b = some (n, a)) : slotOf b = some n := by
  unfold entryAccount at h
  split at h
  · next hs =>
    obtain ⟨x, -, hx⟩ := Option.map_eq_some_iff.1 h
    cases hx
    exact hs
  · cases h

/-- One entry of a report: metered to its own slot, of no matter to another (R71, R111). -/
theorem Standing.entryTaken {c : AlertCode} {n : SlotId} {a : Account} {s : State} (h : Standing c n a s) (hr : a.residue < unitsPerMicrolitre)
    (id : Byte) (t : Nat) (e : DropEntry) :
    ∃ b, Standing c n b (takeEntry s id t e).1 ∧ Metered a b (if slotOf e.slot = some n then fineVolume s.cal[n] e t else 0) := by
  have hsame : Metered a a 0 := .refl hr
  unfold takeEntry
  dsimp only
  by_cases hs : slotOf e.slot = some n
  · rw [entryAccount_eq hs h.account, if_pos hs]
    exact h.entryMetered id e t
  · rw [if_neg hs]
    split
    · next m b hm =>
      have hne : n ≠ m := fun hnm => hs (hnm ▸ entryAccount_slot hm)
      exact ⟨a, h.untouched ((setAccount_untouched hne s _).trans (debitDrops_untouched hne _ id _)), hsame⟩
    · exact ⟨a, h, hsame⟩

/-- The entries of a report, taken in order (R71, R76). -/
theorem Standing.entriesTaken {c : AlertCode} {n : SlotId} (id : Byte) (t : Nat) (l : List DropEntry) {a : Account} {s : State}
    (h : Standing c n a s) (hr : a.residue < unitsPerMicrolitre) :
    ∃ b, Standing c n b (takeEntries id t s l).1 ∧ Metered a b (fineSum s n t l) := by
  induction l generalizing a s with
  | nil => exact ⟨a, h, .refl hr⟩
  | cons e l ih =>
    obtain ⟨b, hb, hab⟩ := h.entryTaken hr id t e
    obtain ⟨d, hd, hbd⟩ := ih hb hab.residue
    rw [fineSum_congr (takeEntry_frame id t s e .cal (by decide))] at hbd
    refine ⟨d, hd, ?_⟩
    rw [fineSum_cons]
    exact hab.trans hbd

/-! ### Rebases (R95, R99) -/

/-- A rebase that leaves no headroom. -/
theorem Standing.rebased {c : AlertCode} {n : SlotId} {a : Account} {s u : State} {base : Nat} (h : Standing c n a s) (hu : LineMoved s u)
    (hdry : a.capacity ≤ consumedView { a with base := base }) :
    Shut c n (afterDebit (setAccount u n (some { a with base := base })) n (headroom a)) := by
  have hhead : headroom { a with base := base } = 0 := Nat.sub_eq_zero_of_le hdry
  obtain ⟨l, x, hk⟩ := h.debited (v := setAccount u n (some { a with base := base })) (b := { a with base := base })
    (by rw [setAccount_slots, hu.frame .slots (by decide)]) (by rw [setAccount_engp, hu.frame .engp (by decide)])
    (HoldsFall.trans (.of_frame hu.frame (by decide)) (.of_engp rfl rfl)) (put_same _ _ _) h.metered (by omega)
  exact hk.shut hhead

theorem rebased_others (u : State) (n : SlotId) (a : Option Account) (before : Nat) :
    OtherSlotsKept n u (afterDebit (setAccount u n a) n before) :=
  fun _ hm => ((setAccount_untouched hm u a).trans (afterDebit_untouched hm _ before)).slot

theorem Shut.leftLine {c : AlertCode} {n : SlotId} {s : State} (h : Shut c n s) : Shut c n (leaveLine s) := by
  have he := leaveLine_engp s
  exact h.of_parts (leaveLine_slots s) (by rw [he]) (.of_engp (by rw [he]) (by rw [he]))

/-- What a rebased slot's state leaves as the line is left, `v` doing what the result asks besides. -/
theorem rebased_leaves {c : AlertCode} {n : SlotId} {s u w v : State} (hu : LineMoved s u) (hw : Shut c n w) (ho : OtherSlotsKept n u w)
    (hv : OnlyChanges [.cbc, .accounts] w v) : OtherSlotsKept n s (leaveLine v) ∧ Shut c n (leaveLine v) := by
  refine ⟨?_, (hw.of_frame hv (by decide) (by decide)).leftLine⟩
  refine OtherSlotsKept.trans (.of_eq (hu.frame .slots (by decide))) (ho.trans (.of_eq ?_))
  rw [leaveLine_slots, hv .slots (by decide)]

theorem handOver_addUsed_lands {u : State} {tx : Transaction} {a : Account} {st : CartStatus} {body : List Byte}
    (hc : tx.command = .writeBack .addUsed) (ha : u.accounts[tx.slot] = some a) (hs : st ≠ .refusedSpent)
    (hk : tx.expected + tx.amount ≤ (counterOf body).toNat) :
    handOver u tx (.reply st body) = landed u tx.slot a (counterOf body).toNat (tx.expected + tx.amount) := by
  unfold handOver
  simp only [hc]
  unfold addUsedResult
  rw [ha]
  cases st with
  | refusedSpent => exact absurd rfl hs
  | _ => exact if_pos hk

theorem landed_rebases {u : State} {n : SlotId} {a : Account} {k total : Nat} (h : total < k) :
    OnlyChanges [.cbc, .accounts] (afterDebit (setAccount u n (some { a with base := k - a.confirmed - a.inFlight })) n (headroom a))
      (landed u n a k total) := by
  unfold landed
  rw [if_pos h]
  exact ((modAccount_frame _ n _).mono (by decide)).trans (spentCheck_frame _ n)

theorem handOver_readUsage_settles {u : State} {tx : Transaction} {a : Account} {st : CartStatus} {body : List Byte}
    (hc : tx.command = .writeBack .readUsage) (ha : u.accounts[tx.slot] = some a) (hd : 0 < a.doubtful) :
    handOver u tx (.reply st body) = settleDoubt u tx.slot a (counterOf body).toNat := by
  unfold handOver
  simp only [hc]
  unfold readUsageResult
  rw [ha]
  exact if_neg (by omega)

theorem settleDoubt_rebases {u : State} {n : SlotId} {a : Account} {k : Nat} (hd : 0 < a.doubtful) (h : a.base + a.confirmed + a.doubtful < k) :
    OnlyChanges [.cbc, .accounts] (afterDebit (setAccount u n (some { a with base := k - a.confirmed - a.doubtful })) n (headroom a))
      (settleDoubt u n a k) := by
  unfold settleDoubt
  dsimp only
  rw [if_neg (by omega), if_neg (by omega), if_pos h]
  exact (((modAccount_frame _ n _).mono (by decide)).trans ((requestAddUsed_frame _ n).mono (by decide))).trans (spentCheck_frame _ n)

/-! ### The five routes -/

theorem exec_purgeTimer {s : State} {n : SlotId} {p : Purge} (hr : s.phase = .running) (hp : s.engp.purges[n] = some p) :
    exec (.purgeTimerExpiry n) s = .next (arbitrateIfJoined s
      (postEvent (debitPurge (clearPurge s n) n p.requested) .purgeAssumed (slotByte n) 0 (some (BitVec.ofNat 32 p.requested)))) := by
  show execPurgeTimerExpiry n s = _
  unfold execPurgeTimerExpiry
  rw [hp]
  exact congrArg _ (if_pos hr)

theorem actPurgeEnd_held {s : State} {n : SlotId} {p : Purge} {slot : Byte} {actual : Half} (hs : slotOf slot = some n)
    (hp : s.engp.purges[n] = some p) :
    (actPurgeEnd slot actual s).state =
      arbitrateIfJoined s (requestAddUsed (debitPurge (clearPurge s n) n (min actual.toNat 4000)) n) := by
  unfold actPurgeEnd
  rw [hs]
  dsimp only
  rw [hp]
  rfl

theorem actDropReport_taken {s : State} {id carried : Byte} {entries : List DropEntry} (h1 : 1 ≤ entries.length) (h10 : entries.length ≤ 10) :
    (actDropReport id carried entries s).state =
      arbitrateIfJoined s (takeEntries id (workingTemperature carried) (restartWatchdog s) entries).1 := by
  unfold actDropReport
  rw [if_neg (by omega)]

theorem clearPurge_frame (s : State) (n : SlotId) : OnlyChanges [.engp] s (clearPurge s n) := engp_frame s _

theorem purged_frame (s : State) (n : SlotId) (amount : Nat) : OnlyChanges debitParts s (debitPurge (clearPurge s n) n amount) :=
  ((clearPurge_frame s n).mono (by decide)).trans (debitPurge_frame _ n amount)

/-- An engine request whose act leaves a slot shut leaves it shut. -/
theorem engRequest_shut {c : AlertCode} {n : SlotId} {s : State} {sel : Selection} {k : Byte} {len : Nat} {act : State → EngAnswer}
    (hr : s.phase = .running) (hf : ∀ u, OnlyChanges debitParts u (act u).state)
    (h : Shut c n (act (endEngSelection s sel.ready (len + 3 + sel.filler))).state) :
    ∃ t, (Host.Outcome.next (engRequest s sel k len act) : Outcome) = .next t ∧ OnlyChanges debitParts s t ∧ Shut c n t ∧
      (OtherSlotsKept n (endEngSelection s sel.ready (len + 3 + sel.filler)) (act (endEngSelection s sel.ready (len + 3 + sel.filler))).state →
        OtherSlotsKept n s t) := by
  obtain ⟨t, hexec, hframe, ht, -⟩ := engRequest_next (ps := debitParts) s sel k len act hr (by decide) (hf _)
  generalize act (endEngSelection s sel.ready (len + 3 + sel.filler)) = ans at h ht
  have hslots : t.slots = ans.state.slots := by rw [ht]
  have hengp : t.engp = { ans.state.engp with reply := t.engp.reply } := congrArg State.engp ht
  refine ⟨t, hexec, hframe, h.of_parts hslots (by rw [hengp]) (.of_engp (by rw [hengp]) (by rw [hengp])), fun ho => ?_⟩
  exact OtherSlotsKept.trans (.of_eq rfl) (ho.trans (.of_eq hslots))

theorem actDropReport_frame (id carried : Byte) {entries : List DropEntry} (h1 : 1 ≤ entries.length) (h10 : entries.length ≤ 10) (u : State) :
    OnlyChanges debitParts u (actDropReport id carried entries u).state := by
  rw [actDropReport_taken h1 h10]
  refine arbitrateIfJoined_frame_debit (OnlyChanges.trans ?_ (takeEntries_frame id _ entries _))
  exact .ite ((engp_frame u _).mono (by decide)) (.refl _ u)

theorem actPurgeEnd_frame (slot : Byte) (actual : Half) (u : State) : OnlyChanges debitParts u (actPurgeEnd slot actual u).state := by
  unfold actPurgeEnd
  split
  · exact .refl _ u
  · split
    · exact arbitrateIfJoined_frame_debit ((purged_frame u _ _).trans ((requestAddUsed_frame _ _).mono (by decide)))
    · exact .refl _ u

/-- Settles O47, one route at a time. -/
theorem exhaustionClosesTheGate : Obligations.ExhaustionClosesTheGate := by
  intro s n a hr ha hm hready hal hhead hsafe exhausted
  have h := standing_ready ha hm hready hal hhead hsafe
  refine ⟨fun p hp hdry => ?_, fun p slot actual sel hp hs hdry => ?_, fun id carried entries sel h1 h10 hres hdry => ?_,
    fun tx address rest st hl hn hc hact he hst hne hex ham hlt hdry => ?_, fun tx address rest hl hn hc hact he hst hd hlt hdry => ?_⟩
  · have hshut := debitPurge_shut h hdry
    have hothers := debitPurge_others s n p.requested
    have hframe := purged_frame s n p.requested
    have hexec := exec_purgeTimer hr hp
    generalize debitPurge (clearPurge s n) n p.requested = v at hshut hothers hframe hexec
    have hpost := postEvent_frame v .purgeAssumed (slotByte n) 0 (some (BitVec.ofNat 32 p.requested))
    generalize postEvent v .purgeAssumed (slotByte n) 0 (some (BitVec.ofNat 32 p.requested)) = w at hpost hexec
    refine ⟨_, hexec, arbitrateIfJoined_frame_debit (hframe.trans (hpost.mono (by decide))), ?_,
      (hshut.of_frame hpost (by decide) (by decide)).arbitrated s⟩
    exact hothers.trans (.of_eq ((arbitrateIfJoined_slots s w).trans (hpost .slots (by decide))))
  · have hstart := h.untouched (endEngSelection_untouched n s sel.ready (3 + 3 + sel.filler))
    have hshut := debitPurge_shut hstart hdry
    have hothers := debitPurge_others (endEngSelection s sel.ready (3 + 3 + sel.filler)) n (min actual.toNat 4000)
    have hstate := actPurgeEnd_held (s := endEngSelection s sel.ready (3 + 3 + sel.filler)) (actual := actual) hs hp
    have hreq := requestAddUsed_frame (debitPurge (clearPurge (endEngSelection s sel.ready (3 + 3 + sel.filler)) n) n (min actual.toNat 4000)) n
    obtain ⟨t, hexec, hframe, ht, ho⟩ := engRequest_shut (n := n) (c := exhaustionAlert s n) (sel := sel) (k := 0x25) (len := 3) hr
      (actPurgeEnd_frame slot actual) (by rw [hstate]; exact (hshut.of_frame hreq (by decide) (by decide)).arbitrated _)
    refine ⟨t, hexec, hframe, ho ?_, ht⟩
    rw [hstate]
    exact hothers.trans (.of_eq ((arbitrateIfJoined_slots _ _).trans (hreq .slots (by decide))))
  · have hstart := (h.untouched (endEngSelection_untouched n s sel.ready (2 + 7 * entries.length + 3 + sel.filler))).untouched
      (restartWatchdog_untouched n _)
    obtain ⟨b, hb, hmet⟩ := hstart.entriesTaken id (workingTemperature carried) entries hres
    rw [fineSum_congr (s := s) (by unfold restartWatchdog; split <;> rfl)] at hmet
    obtain ⟨t, hexec, hframe, ht, -⟩ := engRequest_shut (n := n) (c := exhaustionAlert s n) (sel := sel) (k := 0x22) (len := 2 + 7 * entries.length) hr
      (actDropReport_frame id carried h1 h10) (by rw [actDropReport_taken h1 h10]; exact (hb.shut (hmet.dry hdry)).arbitrated _)
    exact ⟨t, hexec, hframe, ht⟩
  · subst hn
    obtain ⟨u, hu, hexec⟩ := exec_replyHandedOver hr hl hact he hst (.inl (by rw [hc]; nofun))
    have hacc : u.accounts[tx.slot] = some a := by rw [hu.frame .accounts (by decide)]; exact ha
    have hframe := handOver_resultFrame (tx := tx) hu (.reply st (replyData rest))
    rw [handOver_addUsed_lands hc hacc hne (Nat.le_of_lt hlt)] at hexec hframe
    have hshut := h.rebased (base := (counterOf (replyData rest)).toNat - a.confirmed - a.inFlight) hu
      (by simp only [consumedView]; omega)
    obtain ⟨ho, ht⟩ := rebased_leaves hu hshut (rebased_others u tx.slot _ _) (landed_rebases hlt)
    exact ⟨_, hexec, hframe, ho, ht⟩
  · subst hn
    obtain ⟨u, hu, hexec⟩ := exec_replyHandedOver hr hl hact he hst (.inl (by rw [hc]; nofun))
    have hacc : u.accounts[tx.slot] = some a := by rw [hu.frame .accounts (by decide)]; exact ha
    have hframe := handOver_resultFrame (tx := tx) hu (.reply .done (replyData rest))
    rw [handOver_readUsage_settles hc hacc hd] at hexec hframe
    have hshut := h.rebased (base := (counterOf (replyData rest)).toNat - a.confirmed - a.doubtful) hu
      (by simp only [consumedView]; omega)
    obtain ⟨ho, ht⟩ := rebased_leaves hu hshut (rebased_others u tx.slot _ _) (settleDoubt_rebases hd hlt)
    exact ⟨_, hexec, hframe, ho, ht⟩

end Sys2Proof.Machine
end

section
/-! What decides an admission: the identity filters (R140 to R143) and the cartridge's history (R133 to R137); the parts of
O40 about them. -/

namespace Sys2Proof.Machine

/-! ### The match of a filter (R140, R141) -/

theorem selectedBytes_eq (f : Filter) (id : IdRecord) :
    selectedBytes f id = ((List.range 24).filter fun k => f.mask.getLsbD k && decide (effectiveOffset f id + k ≤ 61)).map fun k =>
      byteAt id.raw (effectiveOffset f id + k) := by
  rw [← List.filterMap_eq_map, List.filterMap_filter]
  refine congrArg (fun g => List.filterMap g (List.range 24)) (funext fun k => ?_)
  simp only [Bool.and_eq_true, decide_eq_true_eq]
  rfl

theorem filterMatch_iff (f : Filter) (id : IdRecord) :
    filterMatch f id = true ↔ selectedBytes f id ≠ [] ∧ (crc16 (selectedBytes f id) = f.expected ↔ f.invert = false) := by
  unfold filterMatch
  dsimp only
  cases hb : selectedBytes f id with
  | nil => simp
  | cons b l =>
    simp only [List.isEmpty_cons, Bool.false_eq_true, if_false, ne_eq, reduceCtorEq, not_false_eq_true, true_and]
    by_cases hc : crc16 (b :: l) = f.expected <;> cases f.invert <;> simp [hc]

/-! ### Signals and the decision (R142, R143) -/

/-- The signals of filters in order, given the signal before them (R142). -/
def signals (id : IdRecord) : Bool → List Filter → List Bool
  | _, [] => []
  | prev, f :: l => (filterMatch f id && (!f.chain || prev)) :: signals id (filterMatch f id && (!f.chain || prev)) l

/-- The signal before the `i`th filter. -/
def signalBefore (prev : Bool) (sig : List Bool) : Nat → Bool
  | 0 => prev
  | i + 1 => sig.getD i false

theorem signals_getD (id : IdRecord) (prev : Bool) (l : List Filter) (i : Nat) (h : i < l.length) :
    (signals id prev l).getD i false = (filterMatch l[i] id && (!l[i].chain || signalBefore prev (signals id prev l) i)) := by
  induction l generalizing prev i with
  | nil => exact absurd h (Nat.not_lt_zero i)
  | cons f l ih =>
    cases i with
    | zero => rfl
    | succ i =>
      have hi := ih (filterMatch f id && (!f.chain || prev)) i (Nat.lt_of_succ_lt_succ h)
      rw [signals, List.getD_cons_succ, List.getElem_cons_succ, hi]
      cases i <;> rfl

/-- An enabled filter with a signal asks for the action. -/
def Acts (id : IdRecord) (prev : Bool) (l : List Filter) (a : FilterAction) : Prop :=
  ∃ i, ∃ h : i < l.length, l[i].enabled = true ∧ (signals id prev l).getD i false = true ∧ l[i].action = a

theorem acts_cons (id : IdRecord) (prev : Bool) (f : Filter) (l : List Filter) (a : FilterAction) :
    Acts id prev (f :: l) a ↔ (f.enabled && (filterMatch f id && (!f.chain || prev))) = true ∧ f.action = a ∨
      Acts id (filterMatch f id && (!f.chain || prev)) l a := by
  constructor
  · rintro ⟨i, h, he, hs, ha⟩
    cases i with
    | zero => exact .inl ⟨Bool.and_eq_true_iff.2 ⟨he, hs⟩, ha⟩
    | succ i => exact .inr ⟨i, Nat.lt_of_succ_lt_succ h, he, hs, ha⟩
  · rintro (⟨h, ha⟩ | ⟨i, h, he, hs, ha⟩)
    · obtain ⟨he, hs⟩ := Bool.and_eq_true_iff.1 h
      exact ⟨0, Nat.zero_lt_succ _, he, hs, ha⟩
    · exact ⟨i + 1, Nat.succ_lt_succ h, he, hs, ha⟩

/-- REJECT stands before SUSPECT (R143). -/
theorem decisionFrom_iff (id : IdRecord) (prev : Bool) (l : List Filter) :
    (decisionFrom id prev l = .reject ↔ Acts id prev l .reject) ∧
      (decisionFrom id prev l = .suspect ↔ Acts id prev l .suspect ∧ ¬ Acts id prev l .reject) := by
  induction l generalizing prev with
  | nil =>
    have hno (a : FilterAction) : ¬ Acts id prev [] a := fun ⟨_, h, _⟩ => Nat.not_lt_zero _ h
    exact ⟨⟨nofun, fun h => absurd h (hno _)⟩, ⟨nofun, fun h => absurd h.1 (hno _)⟩⟩
  | cons f l ih =>
    obtain ⟨hr, hs⟩ := ih (filterMatch f id && (!f.chain || prev))
    rw [acts_cons, acts_cons, ← hr, decisionFrom]
    generalize hd : decisionFrom id (filterMatch f id && (!f.chain || prev)) l = d at hr hs ⊢
    split
    · next hsig =>
      rw [hsig]
      cases ha : f.action <;> cases d <;> simp_all
    · next hsig => simp_all

theorem filterDecision_signals (s : State) (id : IdRecord) : ∃ signal : Fin 6 → Bool,
    (∀ e : Fin 6, signal e = true ↔ filterMatch s.his.filters[e] id = true ∧
      (s.his.filters[e].chain = true → ∀ d : Fin 6, d.val + 1 = e.val → signal d = true)) ∧
    (∀ a : FilterAction, (∃ e : Fin 6, s.his.filters[e].enabled = true ∧ signal e = true ∧ s.his.filters[e].action = a) ↔
      Acts id true s.his.filters.toList a) := by
  refine ⟨fun e => (signals id true s.his.filters.toList).getD e.val false, fun e => ?_, fun a => ?_⟩
  · have h := signals_getD id true s.his.filters.toList e.val (by rw [Vector.length_toList]; exact e.isLt)
    show (signals id true s.his.filters.toList).getD e.val false = true ↔ _
    rw [h, Vector.getElem_toList]
    simp only [Bool.and_eq_true, Bool.or_eq_true, Bool.not_eq_true', Fin.getElem_fin]
    refine and_congr_right fun _ => ?_
    obtain ⟨k, hk⟩ := e
    cases k with
    | zero =>
      refine ⟨fun _ _ d hd => ?_, fun _ => .inr rfl⟩
      exact absurd hd (Nat.succ_ne_zero _)
    | succ k =>
      dsimp only
      constructor
      · rintro (hf | hb) hc d hd
        · rw [hc] at hf; cases hf
        · obtain rfl : d.val = k := Nat.succ.inj hd
          exact hb
      · intro h
        cases hc : s.his.filters[k + 1].chain with
        | false => exact .inl rfl
        | true => exact .inr (h hc ⟨k, Nat.lt_of_succ_lt hk⟩ rfl)
  · constructor
    · rintro ⟨e, he, hs, ha⟩
      refine ⟨e.val, by rw [Vector.length_toList]; exact e.isLt, ?_, hs, ?_⟩
      · rw [Vector.getElem_toList]; exact he
      · rw [Vector.getElem_toList]; exact ha
    · rintro ⟨i, h, he, hs, ha⟩
      rw [Vector.getElem_toList] at he ha
      rw [Vector.length_toList] at h
      exact ⟨⟨i, h⟩, he, hs, ha⟩

/-! ### The cartridge's history (R133 to R137) -/

theorem hasSerial_iff (serial : Serial) (x : Option SeenEntry) : hasSerial serial x = true ↔ ∃ e, x = some e ∧ e.serial = serial := by
  cases x with
  | none => exact ⟨nofun, nofun⟩
  | some e => simp [hasSerial]

/-- With one entry a serial, the entry found is the one there is (R129). -/
theorem seenEntry_some {s : State} (h : NoTwins SeenEntry.serial s.his.seen) {p : Fin 32} {e : SeenEntry} (hp : s.his.seen[p] = some e) :
    seenEntry s e.serial = some e := by
  unfold seenEntry
  cases hf : s.his.seen.toList.find? (hasSerial e.serial) with
  | none =>
    refine absurd ((hasSerial_iff e.serial s.his.seen[p]).2 ⟨e, hp, rfl⟩) ?_
    exact List.find?_eq_none.1 hf _ (Vector.mem_toList_iff.2 (Vector.getElem_mem p.isLt))
  | some x =>
    obtain ⟨y, rfl, hy⟩ := (hasSerial_iff _ _).1 (List.find?_some hf)
    obtain ⟨i, hi, hq⟩ := List.mem_iff_getElem.1 (List.mem_of_find?_eq_some hf)
    rw [Vector.length_toList] at hi
    rw [Vector.getElem_toList] at hq
    obtain rfl := h ⟨i, hi⟩ p y e hq hp hy
    exact hq.symm.trans hp

theorem seenEntry_none {s : State} {serial : Serial} (h : ∀ (p : Fin 32) (e : SeenEntry), s.his.seen[p] = some e → e.serial ≠ serial) :
    seenEntry s serial = none := by
  unfold seenEntry
  cases hf : s.his.seen.toList.find? (hasSerial serial) with
  | none => rfl
  | some x =>
    obtain ⟨y, rfl, hy⟩ := (hasSerial_iff _ _).1 (List.find?_some hf)
    obtain ⟨i, hi, hq⟩ := List.mem_iff_getElem.1 (List.mem_of_find?_eq_some hf)
    rw [Vector.length_toList] at hi
    rw [Vector.getElem_toList] at hq
    exact absurd hy (h ⟨i, hi⟩ y hq)

theorem seenEntry_holds {s : State} {serial : Serial} {e : SeenEntry} (h : seenEntry s serial = some e) :
    ∃ p : Fin 32, s.his.seen[p] = some e ∧ e.serial = serial := by
  by_contra hno
  have hsome : ∃ x, s.his.seen.toList.find? (hasSerial serial) = some (some x) ∧ x = e := by
    unfold seenEntry at h
    exact ⟨e, Option.join_eq_some_iff.1 h, rfl⟩
  obtain ⟨x, hf, rfl⟩ := hsome
  obtain ⟨y, hxy, hy⟩ := (hasSerial_iff _ _).1 (List.find?_some hf)
  cases hxy
  obtain ⟨i, hi, hq⟩ := List.mem_iff_getElem.1 (List.mem_of_find?_eq_some hf)
  rw [Vector.length_toList] at hi
  rw [Vector.getElem_toList] at hq
  exact hno ⟨⟨i, hi⟩, hq, hy⟩

theorem retiredIs_iff (serial : Serial) (x : Option RetiredEntry) : retiredIs serial x = true ↔ ∃ e, x = some e ∧ e.serial = serial := by
  cases x with
  | none => exact ⟨nofun, nofun⟩
  | some e => simp [retiredIs]

theorem isRetired_entry (s : State) (serial : Serial) :
    isRetired s serial = true ↔ ∃ (p : Fin 64) (e : RetiredEntry), s.his.retired[p] = some e ∧ e.serial = serial := by
  rw [isRetired_iff]
  exact exists_congr fun p => retiredIs_iff serial _

/-- The counter is below what the seen entry says was written (R134). -/
def CounterFell (s : State) (serial : Serial) (c : Nat) : Prop :=
  ∃ (p : Fin 32) (e : SeenEntry), s.his.seen[p] = some e ∧ e.serial = serial ∧ c < e.consumed - e.unwritten

theorem counterFell_iff {s : State} (h : NoTwins SeenEntry.serial s.his.seen) (serial : Serial) (c : Nat) :
    (match seenEntry s serial with
      | some e => decide (c < e.consumed - e.unwritten)
      | none => false) = true ↔ CounterFell s serial c := by
  constructor
  · intro hc
    cases he : seenEntry s serial with
    | none => rw [he] at hc; cases hc
    | some e =>
      rw [he] at hc
      obtain ⟨p, hp, hserial⟩ := seenEntry_holds he
      exact ⟨p, e, hp, hserial, of_decide_eq_true hc⟩
  · rintro ⟨p, e, hp, rfl, hlt⟩
    rw [seenEntry_some h hp]
    exact decide_eq_true hlt

/-- The refill reason is that of the first check to trigger (R134). -/
theorem refillReason_spec {s : State} (h : NoTwins SeenEntry.serial s.his.seen) (id : IdRecord) (c : Nat) (spent : Bool) :
    let full := spent = true ∧ c < id.capacity.toNat
    let retired := ∃ (p : Fin 64) (e : RetiredEntry), s.his.retired[p] = some e ∧ e.serial = id.serial
    (full → refillReason s id c spent = some .spentButFull) ∧
      (¬ full → retired → refillReason s id c spent = some .retiredSerial) ∧
      (¬ full → ¬ retired → CounterFell s id.serial c → refillReason s id c spent = some .counterFell) ∧
      (¬ full → ¬ retired → ¬ CounterFell s id.serial c →
        refillReason s id c spent = if filterDecision s id = .suspect then some .filterMatch else none) := by
  intro full retired
  have hr : isRetired s id.serial = true ↔ retired := isRetired_entry s id.serial
  have hf := counterFell_iff h id.serial c
  refine ⟨fun h1 => if_pos h1, fun h1 h2 => ?_, fun h1 h2 h3 => ?_, fun h1 h2 h3 => ?_⟩
  · exact (if_neg h1).trans (if_pos (hr.2 h2))
  · exact ((if_neg h1).trans (if_neg fun k => h2 (hr.1 k))).trans (if_pos (hf.2 h3))
  · exact ((if_neg h1).trans (if_neg fun k => h2 (hr.1 k))).trans (if_neg fun k => h3 (hf.1 k))

theorem catchUpOf_seen {s : State} (h : NoTwins SeenEntry.serial s.his.seen) {p : Fin 32} {e : SeenEntry} (hp : s.his.seen[p] = some e)
    (c : Nat) : catchUpOf s e.serial c = e.consumed - c := by
  unfold catchUpOf
  rw [seenEntry_some h hp]

theorem catchUpOf_unseen {s : State} {serial : Serial} (h : ∀ (p : Fin 32) (e : SeenEntry), s.his.seen[p] = some e → e.serial ≠ serial)
    (c : Nat) : catchUpOf s serial c = 0 := by
  unfold catchUpOf
  rw [seenEntry_none h]

/-- The outcome goes by REJECT of the filters, then by the suspect policy, then by what is left of the capacity (R136, R137). -/
theorem reconcile_eq (s : State) (id : IdRecord) (c : Nat) (spent : Bool) :
    reconcile s id c spent =
      if filterDecision s id = .reject then .reject .filterReject
      else if refillReason s id c spent ≠ none ∧ s.settings.suspect = .block then .reject .refillBlocked
      else .opens (decide (id.capacity.toNat ≤ c + catchUpOf s id.serial c))
        (if refillReason s id c spent = none then .genuine else .suspectRefill) (refillReason s id c spent) (catchUpOf s id.serial c) := by
  unfold reconcile
  dsimp only
  cases refillReason s id c spent with
  | none => simp
  | some r => simp

end Sys2Proof.Machine
end

section
/-! What the outcome of a proof leaves of its slot (R8, R9, R36 to R38, R83, R87, R91, R137; O40). -/

namespace Sys2Proof.Machine

/-! ### The line left, or not (R59) -/

theorem sent_fields {a b : Account} (h : Sent a b) : b = { a with inFlight := b.inFlight, pendingInk := b.pendingInk } ∧
    b.inFlight + b.pendingInk = a.inFlight + a.pendingInk := by
  obtain ⟨-, -, -, m, -, hm, rfl⟩ := h
  refine ⟨rfl, ?_⟩
  show a.inFlight + m + (a.pendingInk - m) = _
  omega

/-- The state after a result, the line left or kept. -/
def Delivered (v t : State) : Prop := t = leaveLine v ∨ t = v

theorem leaveHeld_delivered (v : State) : Delivered v (leaveHeld v) := by
  unfold leaveHeld
  split
  · split
    · exact .inl rfl
    · exact .inr rfl
  · exact .inr rfl

section
variable {v t : State} (h : Delivered v t)
include h

theorem Delivered.slots : t.slots = v.slots := by
  rcases h with rfl | rfl
  · exact leaveLine_slots v
  · rfl

theorem Delivered.engp : t.engp = v.engp := by
  rcases h with rfl | rfl
  · exact leaveLine_engp v
  · rfl

theorem Delivered.identity : t.prf.identity = v.prf.identity := by
  rcases h with rfl | rfl
  · exact leaveLine_identity v
  · rfl

theorem Delivered.sysp (hp : v.sto.power ≠ .flushingBus) : t.sysp = v.sysp := by
  rcases h with rfl | rfl
  · exact leaveLine_sysp hp
  · rfl

theorem Delivered.op {n : SlotId} {op : WbOp} (hs : Startable v n op) (hw : OpWaits v.cbc.queue n op) : opPlaced t n op := by
  rcases h with rfl | rfl
  · exact leaveLine_op hs hw
  · exact .inl hw

/-- The arbiter may have moved pending ink to in-flight, and no more (R94). -/
theorem Delivered.account {n : SlotId} {a : Account} (ha : v.accounts[n] = some a) :
    ∃ b, t.accounts[n] = some b ∧ b = { a with inFlight := b.inFlight, pendingInk := b.pendingInk } ∧
      b.inFlight + b.pendingInk = a.inFlight + a.pendingInk := by
  rcases h with rfl | rfl
  · rw [leaveLine_accounts]
    rcases arbitrate_account (s := lineOff v) ha with heq | ⟨b, hs, heq⟩
    · exact ⟨a, heq, rfl, rfl⟩
    · exact ⟨b, heq, sent_fields hs⟩
  · exact ⟨a, ha, rfl, rfl⟩

theorem Delivered.feeds (m : SlotId) : t.accounts[m].map feeds = v.accounts[m].map feeds := by
  rcases h with rfl | rfl
  · rw [leaveLine_accounts, arbitrate_feeds]
    rfl
  · rfl

theorem Delivered.account_none {m : SlotId} (ha : v.accounts[m] = none) : t.accounts[m] = none := by
  have hf := h.feeds m
  rw [ha] at hf
  exact Option.map_eq_none_iff.1 hf

end

theorem storeFlushCheck_pfail {s : State} (h : pfailAsserted s = true) : pfailAsserted (storeFlushCheck s) = true := by
  unfold storeFlushCheck
  split
  · rfl
  · exact h

/-- A drained bus leaves a power failure a power failure (R183). -/
theorem drainCheck_pfail (s : State) : pfailAsserted (drainCheck s) = pfailAsserted s := by
  rw [drainCheck_eq]
  split
  · next hc =>
    have hs : pfailAsserted s = true := by unfold pfailAsserted; rw [hc.1]; rfl
    have hk : pfailAsserted (storing (provisionalEntries s)) = true := rfl
    rw [hs]
    generalize storing (provisionalEntries s) = u at hk ⊢
    exact storeFlushCheck_pfail hk
  · rfl

theorem Delivered.pfail {v t : State} (h : Delivered v t) : pfailAsserted t = pfailAsserted v := by
  rcases h with rfl | rfl
  · have hsto : (arbitrate (lineOff v)).sto = v.sto := by rw [arbitrate_frame _ .sto (by decide), lineOff_frame v .sto (by decide)]
    rw [leaveLine_eq, drainCheck_pfail, pfailAsserted, hsto]
    rfl
  · rfl

theorem Delivered.gateFollows {n : SlotId} {s v t : State} (h : Delivered v t) (hg : GateFollows n s v) : GateFollows n s t := by
  have hcond : gateCondition t n = gateCondition v n := by
    simp only [gateCondition, h.pfail, h.slots, h.engp, h.feeds]
  refine ⟨?_, fun m hm => ?_⟩
  · rw [hcond, h.engp]; exact hg.1
  · rw [h.engp]; exact hg.2 m hm

/-! ### A slot placed by the outcome of its proof -/

/-- From `r` to `t` slot `n` has been moved to state `st` by the outcome of its proof. -/
structure Placed (n : SlotId) (r t : State) (st : SlotState) : Prop where
  others : OtherSlotsKept n r t
  identity : t.prf.identity[n] = none
  target : t.slots[n].target = r.slots[n].target
  gate : GateFollows n r t
  state : t.slots[n].state = st

theorem Placed.after {n : SlotId} {s r t : State} {st : SlotState} (h : Placed n r t st) (ho : OtherSlotsKept n s r)
    (ht : r.slots[n].target = s.slots[n].target) (hg : ∀ m : SlotId, m ≠ n → r.engp.gates[m] = s.engp.gates[m]) : Placed n s t st :=
  ⟨ho.trans h.others, h.identity, h.target.trans ht, ⟨h.gate.1, fun m hm => (h.gate.2 m hm).trans (hg m hm)⟩, h.state⟩

theorem Placed.of_frame {n : SlotId} {s r t : State} {st : SlotState} {ps : List Part} (h : Placed n r t st) (hf : OnlyChanges ps s r)
    (hs : .slots ∉ ps) (he : .engp ∉ ps) : Placed n s t st :=
  h.after (.of_eq (hf .slots hs)) (by rw [hf .slots hs]) fun m _ => by rw [hf .engp he]

/-- What raising alerts leaves of the gate lines: they follow as they did. -/
theorem GateFollows.raised {n : SlotId} {s v w : State} (h : GateFollows n s v) (hf : OnlyChanges [.slots, .sysp, .prf] v w)
    (hs : w.slots[n].state = v.slots[n].state) : GateFollows n s w := by
  have hc : gateCondition w n = gateCondition v n :=
    gateCondition_feeds n hs (by rw [hf .accounts (by decide)]) (by rw [hf .sto (by decide)]) (by rw [hf .engp (by decide)])
  refine ⟨?_, fun m hm => ?_⟩
  · rw [hc, hf .engp (by decide)]; exact h.1
  · rw [hf .engp (by decide)]; exact h.2 m hm

/-! ### A refusal -/

theorem rejectSlot_target (s : State) (n : SlotId) (why : Reason) : (rejectSlot s n why).slots[n].target = s.slots[n].target := by
  rw [rejectSlot_eq, (raiseAlert_state _ n _ _).2.1, (moveSlot_kept s n _).1]

theorem rejectSlot_gateFollows (s : State) (n : SlotId) (why : Reason) : GateFollows n s (rejectSlot s n why) :=
  (changeState_gateFollows s n (.rejected why)).raised ((raiseAlert_frame_slot _ n _ _).mono (by decide)) (raiseAlert_state _ n _ _).1

/-- A slot refused, its identity record discarded (R8, R9, R29). -/
theorem refused_spec {r t : State} {n : SlotId} {why : Reason} (ht : Delivered (rejectSlot (setIdentity r n none) n why) t) :
    Placed n r t (.rejected why) ∧ t.slots[n].alert = some (r.slots[n].alert.getD why.alert) ∧
      (r.accounts[n] = none → t.accounts[n] = none) ∧
      (r.sto.power ≠ .flushingBus → t.sysp = (postEvent (postEvent r .slotState (slotByte n) (SlotState.rejected why).code
        (stateValue (.rejected why))) .alert (slotByte n) why.alert.code none).sysp) := by
  have hset := setIdentity_frame r n none
  have hnone : (setIdentity r n none).prf.identity[n] = none := put_same _ _ _
  have hreject := rejectSlot_frame_slot (setIdentity r n none) n why
  have hothers := rejectSlot_others (setIdentity r n none) n why
  have htarget := rejectSlot_target (setIdentity r n none) n why
  have hgate := rejectSlot_gateFollows (setIdentity r n none) n why
  obtain ⟨hstate, halert⟩ := rejectSlot_same (setIdentity r n none) n why
  have hsysp := rejectSlot_sysp (setIdentity r n none) n why
  generalize rejectSlot (setIdentity r n none) n why = v at *
  have hpower : v.sto = r.sto := (hreject .sto (by decide)).trans (hset .sto (by decide))
  have hplaced : Placed n (setIdentity r n none) t (.rejected why) := by
    refine ⟨hothers.trans (.of_eq ht.slots), ?_, ?_, ht.gateFollows hgate, ?_⟩
    · rw [ht.identity, hreject .prf (by decide)]; exact hnone
    · rw [ht.slots]; exact htarget
    · rw [ht.slots]; exact hstate
  refine ⟨hplaced.of_frame hset (by decide) (by decide), ?_, fun ha => ht.account_none ?_, fun hp => ?_⟩
  · rw [ht.slots]; exact halert
  · rw [hreject .accounts (by decide)]; exact ha
  · rw [ht.sysp (by rw [hpower]; exact hp), hsysp]
    exact postEvent_sysp_congr (postEvent_sysp_congr (hset .sysp (by decide)) _ _ _ _) _ _ _ _

/-! ### Alerts raised one after another (R18, R19) -/

theorem raiseAlerts_frame (s : State) (n : SlotId) (l : List (AlertCode × Option Word)) : OnlyChanges [.slots, .sysp] s (raiseAlerts s n l) :=
  OnlyChanges.foldl (fun t x => raiseAlert t n x.1 x.2) (fun t x => raiseAlert_frame_slot t n x.1 x.2) l s

theorem raiseAlerts_others (s : State) (n : SlotId) (l : List (AlertCode × Option Word)) : OtherSlotsKept n s (raiseAlerts s n l) := by
  induction l generalizing s with
  | nil => exact .refl n s
  | cons x l ih => exact (raiseAlert_others s n x.1 x.2).trans (ih _)

/-- The alert pending, and how many more were raised, once a list of alerts has been raised on a slot. -/
theorem raiseAlerts_same (s : State) (n : SlotId) (l : List (AlertCode × Option Word)) :
    (raiseAlerts s n l).slots[n].state = s.slots[n].state ∧ (raiseAlerts s n l).slots[n].target = s.slots[n].target ∧
      (raiseAlerts s n l).slots[n].alert = s.slots[n].alert.or (l.head?.map (·.1)) ∧
      (raiseAlerts s n l).slots[n].alertCount = (if l = [] then s.slots[n].alertCount
        else if s.slots[n].alert = none then min 15 (l.length - 1) else min 15 (s.slots[n].alertCount + l.length)) := by
  induction l generalizing s with
  | nil => exact ⟨rfl, rfl, (Option.or_none ..).symm, rfl⟩
  | cons x l ih =>
    obtain ⟨h1, h2, h3, h4⟩ := ih (raiseAlert s n x.1 x.2)
    have hr := raiseAlert_same s n x.1 x.2
    rw [show raiseAlerts s n (x :: l) = raiseAlerts (raiseAlert s n x.1 x.2) n l from rfl, h1, h2, h3, h4, hr]
    cases ha : s.slots[n].alert with
    | none =>
      refine ⟨rfl, rfl, rfl, ?_⟩
      cases l with
      | nil => rfl
      | cons y l => simp
    | some c =>
      refine ⟨rfl, rfl, by dsimp only; rw [ha]; rfl, ?_⟩
      cases l with
      | nil => simp
      | cons y l =>
        simp only [ha, reduceCtorEq, if_false, List.length_cons]
        omega

/-- The events of alerts raised one after another. -/
def alertsPosted (u : State) (n : SlotId) (l : List (AlertCode × Option Word)) : State :=
  l.foldl (fun u x => postEvent u .alert (slotByte n) x.1.code x.2) u

theorem raiseAlerts_sysp {s u : State} (h : s.sysp = u.sysp) (n : SlotId) (l : List (AlertCode × Option Word)) :
    (raiseAlerts s n l).sysp = (alertsPosted u n l).sysp := by
  induction l generalizing s u with
  | nil => exact h
  | cons x l ih => exact ih ((raiseAlert_sysp s n x.1 x.2).trans (postEvent_sysp_congr h _ _ _ _))

/-! ### An account opened (R9, R83, R91) -/

theorem changeState_sysp (s : State) (n : SlotId) (st : SlotState) : (changeState s n st).sysp = (moveSlot s n st).sysp := by
  unfold changeState
  dsimp only
  split
  · rw [spentCheck_frame _ n .sysp (by decide), requestAddUsed_frame _ n .sysp (by decide)]
  · rfl

theorem changeState_waits {s : State} {n m : SlotId} {op : WbOp} (st : SlotState) (h : OpWaits s.cbc.queue n op) :
    OpWaits (changeState s m st).cbc.queue n op := by
  unfold changeState
  dsimp only
  split
  · have hr : OpWaits (requestAddUsed (moveSlot s m st) m).cbc.queue n op := OpWaits.requestAddUsed (s := moveSlot s m st) h m
    generalize requestAddUsed (moveSlot s m st) m = u at hr
    unfold spentCheck
    split
    · exact hr.withOp m .markSpent
    · exact hr
  · exact h

/-- The account of a slot that goes to a state: marked as to be spent where R91 asks for it. -/
theorem changeState_account_eq {s : State} {n : SlotId} {a : Account} (st : SlotState) (h : s.accounts[n] = some a) :
    (changeState s n st).accounts[n] = some { a with spent := if st = .exhausted ∧ a.metered = true ∧ a.spent = .none ∧ a.pendingInk = 0 ∧
      a.inFlight = 0 ∧ a.suspended = false then .requested else a.spent } := by
  unfold changeState
  dsimp only
  by_cases hst : st = .exhausted
  · rw [if_pos hst]
    have hf := requestAddUsed_frame (moveSlot s n st) n
    have hacc : (requestAddUsed (moveSlot s n st) n).accounts[n] = some a := by rw [hf .accounts (by decide)]; exact h
    have hstate : (requestAddUsed (moveSlot s n st) n).slots[n].state = .exhausted := by
      rw [hf .slots (by decide), moveSlot_state]; exact hst
    generalize requestAddUsed (moveSlot s n st) n = u at hacc hstate
    have hdue := spentDue_iff hacc
    by_cases hd : spentDue u n = true
    · obtain ⟨h1, -, h2, h3, h4, h5⟩ := hdue.1 hd
      rw [if_pos ⟨hst, h1, h2, h3, h4, h5⟩]
      exact (spentCheck_due hacc hd).1
    · rw [if_neg fun ⟨_, h1, h2, h3, h4, h5⟩ => hd (hdue.2 ⟨h1, hstate, h2, h3, h4, h5⟩), spentCheck_idle (Bool.eq_false_iff.2 hd)]
      exact hacc
  · rw [if_neg hst, if_neg fun h => hst h.1]
    exact h

/-- What a slot with a new account leaves: `a` the account opened, `st` the state, `l` the alerts. -/
theorem opened_spec {r t : State} {n : SlotId} {a : Account} {st : SlotState} {l : List (AlertCode × Option Word)}
    (ht : Delivered (raiseAlerts (openedAs r n a st) n l) t) :
    Placed n r t st ∧ t.slots[n].alert = r.slots[n].alert.or (l.head?.map (·.1)) ∧
      t.slots[n].alertCount = (if l = [] then r.slots[n].alertCount
        else if r.slots[n].alert = none then min 15 (l.length - 1) else min 15 (r.slots[n].alertCount + l.length)) ∧
      (r.sto.power ≠ .flushingBus → t.sysp = (alertsPosted (postEvent r .slotState (slotByte n) st.code (stateValue st)) n l).sysp) ∧
      (∃ b, t.accounts[n] = some b ∧ b.inFlight + b.pendingInk = a.inFlight + a.pendingInk ∧
        b = { a with
          inFlight := b.inFlight, pendingInk := b.pendingInk
          spent := if st = .exhausted ∧ a.metered = true ∧ a.spent = .none ∧ a.pendingInk = 0 ∧ a.inFlight = 0 ∧ a.suspended = false
            then .requested else a.spent }) ∧
      (contactLost r n = false → st ≠ .rejected .contactLost → a.metered = true → a.suspended = false → a.doubtful = 0 → 0 < a.pendingInk →
        a.base + a.confirmed < 4294967295 → opPlaced t n .addUsed) := by
  have hopen := openAccount_frame r n a
  have hoacc : (openAccount r n a).accounts[n] = some a := by rw [openAccount_accounts]; exact put_same _ _ _
  have howaits (hc : contactLost r n = false) (hm : a.metered = true) (hs : a.suspended = false) (hp : 0 < a.pendingInk) :
      OpWaits (openAccount r n a).cbc.queue n .addUsed := by
    have hdue : triggerDue (setAccount r n (some a)) n = true := by
      unfold triggerDue
      rw [show (setAccount r n (some a)).accounts[n] = some a from put_same _ _ _]
      show (a.metered && !a.suspended && !contactLost r n && decide (0 < a.pendingInk)) = true
      rw [hm, hs, hc, decide_eq_true hp]
      rfl
    rw [openAccount, requestAddUsed, if_pos hdue]
    exact withOp_waits _ n _
  have hgo := changeState_gateFollows (openAccount r n a) n st
  have hmoved := moveSlot_same (openAccount r n a) n st
  rw [← changeState_slots] at hmoved
  have hothers := changeState_others (openAccount r n a) n st
  have hsysp := changeState_sysp (openAccount r n a) n st
  have hacc := changeState_account_eq st hoacc
  have hwaits := fun h => changeState_waits (s := openAccount r n a) (m := n) (n := n) (op := .addUsed) st h
  have hsto := changeState_frame (openAccount r n a) n st .sto (by decide)
  rw [moveSlot_sysp] at hsysp
  have hid : (openedAs r n a st).prf.identity[n] = none := put_same _ _ _
  have hset : OnlyChanges [.prf] (changeState (openAccount r n a) n st) (openedAs r n a st) := setIdentity_frame _ n none
  generalize openAccount r n a = o at *
  generalize changeState o n st = v at *
  generalize openedAs r n a st = w at *
  have hslots : w.slots = v.slots := hset .slots (by decide)
  have hraise := raiseAlerts_frame w n l
  obtain ⟨hs1, hs2, hs3, hs4⟩ := raiseAlerts_same w n l
  have hraised := raiseAlerts_others w n l
  have hposted : w.sysp = (postEvent r .slotState (slotByte n) st.code (stateValue st)).sysp := by
    rw [hset .sysp (by decide), hsysp]
    exact postEvent_sysp_congr (hopen .sysp (by decide)) _ _ _ _
  have hevents := raiseAlerts_sysp hposted n l
  generalize raiseAlerts w n l = x at *
  have hoslots : o.slots = r.slots := hopen .slots (by decide)
  rw [hslots, hmoved, hoslots] at hs1 hs2 hs3 hs4
  have hxacc : x.accounts = v.accounts := (hraise .accounts (by decide)).trans (hset .accounts (by decide))
  rw [← hxacc] at hacc
  have hxcbc : x.cbc = v.cbc := (hraise .cbc (by decide)).trans (hset .cbc (by decide))
  have hxsto : x.sto = r.sto := by
    rw [hraise .sto (by decide), hset .sto (by decide), hsto, hopen .sto (by decide)]
  have hxgate : GateFollows n o x := by
    refine hgo.raised ((hset.mono (by decide)).trans (hraise.mono (by decide))) ?_
    rw [hs1, hmoved]
  have hplaced : Placed n o t st := by
    refine ⟨?_, ?_, ?_, ht.gateFollows hxgate, ?_⟩
    · exact hothers.trans ((OtherSlotsKept.of_eq hslots).trans (hraised.trans (.of_eq ht.slots)))
    · rw [ht.identity, hraise .prf (by decide)]; exact hid
    · rw [ht.slots, hs2, hoslots]
    · rw [ht.slots]; exact hs1
  refine ⟨hplaced.of_frame hopen (by decide) (by decide), ?_, ?_, fun hp => ?_, ?_, fun hc hst hm hsu hd hp hmax => ?_⟩
  · rw [ht.slots]; exact hs3
  · rw [ht.slots]; exact hs4
  · rw [ht.sysp (by rw [hxsto]; exact hp)]
    exact hevents
  · obtain ⟨b, hb, hfields, hsum⟩ := ht.account hacc
    exact ⟨b, hb, hsum, hfields⟩
  · refine ht.op (fun _ => ?_) (by rw [hxcbc]; exact hwaits (howaits hc hm hsu hp))
    refine ⟨_, hacc, hp, hsu, hd, ?_, hmax⟩
    rw [contactLost, hs1]
    exact beq_eq_false_iff_ne.2 hst

end Sys2Proof.Machine
end

section
/-! The response decides the proof (R34 to R38), and what follows for its slot (R8, R9, R83; O40). -/

namespace Sys2Proof.Machine

/-! ### The reply held for the response check (R34, R36, R59) -/

theorem startResponseDigest_reply (s : State) :
    (startResponseDigest s).prf.ctx.response = s.prf.ctx.response ∧ (startResponseDigest s).prf.ctx.counter = s.prf.ctx.counter ∧
      (startResponseDigest s).prf.ctx.flags = s.prf.ctx.flags := by
  unfold startResponseDigest
  dsimp only
  split
  · split <;> exact ⟨rfl, rfl, rfl⟩
  · exact ⟨rfl, rfl, rfl⟩

theorem startResponseDigest_starts {s : State} {n : SlotId} {key : BitVec 64} {ch : BitVec 96} {c : Word} {f : Byte} {id : IdRecord}
    (h1 : s.prf.ctx.slot = some n) (h2 : s.prf.ctx.derivedKey = .value key) (h3 : s.prf.ctx.challenge = some ch)
    (h4 : s.prf.ctx.counter = some c) (h5 : s.prf.ctx.flags = some f) (h6 : s.prf.identity[n] = some id) :
    (startResponseDigest s).prf.digest = some (responseDigest key ch id.serial c f) := by
  unfold startResponseDigest
  simp only [h1, h2, h3, h4, h5, h6]

theorem startResponseDigest_waits {s : State} (h : s.prf.ctx.derivedKey = .computing) : startResponseDigest s = s := by
  unfold startResponseDigest
  dsimp only
  split
  · next hk _ _ _ => rw [h] at hk; cases hk
  · rfl

theorem replyIdle_accepted {tx : Transaction} {address : Byte} {rest : List CbusChar} (h : replyErrors tx address rest = []) :
    replyIdle address rest = 12 := by
  have hlen : lengthFails tx address rest = false := by
    unfold replyErrors at h
    cases hl : lengthFails tx address rest with
    | false => rfl
    | true => rw [hl] at h; simp at h
  unfold lengthFails at hlen
  simp only [Bool.or_eq_false_iff] at hlen
  obtain ⟨⟨⟨-, hne⟩, hmark⟩, -⟩ := hlen
  cases hlast : rest.getLast? with
  | none => rw [List.getLast?_eq_none_iff.1 hlast] at hne; cases hne
  | some c =>
    exact replyIdle_dataChar address rest c hlast (Bool.eq_false_iff.2 (List.any_eq_false.1 hmark c (List.mem_of_getLast? hlast)))

theorem exec_replyHeld {s : State} {tx : Transaction} {address : Byte} {rest : List CbusChar} (hr : s.phase = .running)
    (hl : s.cbc.line = some tx) (hc : tx.command = .admission .challenge) (hslot : s.prf.ctx.slot = some tx.slot)
    (ha : tx.action = .taking address) (he : replyErrors tx address rest = []) (hs : replyStatus address = some .done) :
    exec (.cbusReplyEnd rest) s = .next (startResponseDigest (replyTaken (heldLine (withIdle s 12) tx) (replyData rest))) := by
  rw [execCbusReplyEnd_taking hr hl ha, replyIdle_accepted he, replyEnded_accepted he hs, ← takeChallengeReply_eq]
  exact congrArg _ (if_pos ⟨hc, rfl, hslot⟩)

/-! ### A mismatch (R8, R37) -/

/-- The account of an unproven cartridge let in (R37, R83). -/
def unmeteredAccount (s : State) (id : IdRecord) (base : Nat) (spent : Bool) : Account :=
  openingAccount s.settings.limits id .nonGenuine none base 0 spent

theorem admittedState_eq (s : State) (n : SlotId) (st : SlotState) :
    admittedState s n st = if s.slots[n].target = .parked then .parked else st := by
  unfold admittedState
  cases s.slots[n].target <;> rfl

theorem mismatchOutcome_blocks {s : State} (h : s.settings.nonGenuine = .block) (n : SlotId) (id : IdRecord) (c : Option Word) (f : Option Byte) :
    mismatchOutcome s n id c f = rejectSlot (setIdentity s n none) n .authFailed := if_pos h

theorem mismatchOutcome_opens {s : State} (h : s.settings.nonGenuine ≠ .block) (n : SlotId) (id : IdRecord) (c : Option Word) (f : Option Byte) :
    mismatchOutcome s n id c f =
      raiseAlerts (openedAs s n (unmeteredAccount s id ((c.map BitVec.toNat).getD 0) ((f.map spentFlag).getD false)) (admittedState s n .ready))
        n [(.authFailed, none)] := by
  unfold mismatchOutcome
  rw [if_neg h]
  have hslots : (openAccount s n (unmeteredAccount s id ((c.map BitVec.toNat).getD 0) ((f.map spentFlag).getD false))).slots = s.slots :=
    openAccount_frame s n _ .slots (by decide)
  have hst : admittedState (openAccount s n (unmeteredAccount s id ((c.map BitVec.toNat).getD 0) ((f.map spentFlag).getD false))) n .ready =
      admittedState s n .ready := by rw [admittedState, admittedState, hslots]
  rw [← hst]
  rfl

/-- What a mismatch leaves, the slot refused or its account opened unmetered. -/
theorem mismatch_spec {r t : State} {n : SlotId} {id : IdRecord} {c : Option Word} {f : Option Byte} (hnone : r.accounts[n] = none)
    (ht : Delivered (mismatchOutcome r n id c f) t) :
    Placed n r t t.slots[n].state ∧ t.slots[n].alert = some (r.slots[n].alert.getD .authFailed) ∧
      (r.sto.power ≠ .flushingBus → t.sysp = (postEvent (postEvent r .slotState (slotByte n) t.slots[n].state.code
        (stateValue t.slots[n].state)) .alert (slotByte n) AlertCode.authFailed.code none).sysp) ∧
      (r.settings.nonGenuine = .block → t.slots[n].state = .rejected .authFailed ∧ t.accounts[n] = none) ∧
      (r.settings.nonGenuine = .allowUnmetered →
        t.slots[n].state = (if r.slots[n].target = .parked then .parked else .ready) ∧
        ∃ b : Account, t.accounts[n] = some b ∧ b.serial = id.serial ∧ b.cls = .nonGenuine ∧ b.metered = false ∧
          b.base = (c.map BitVec.toNat).getD 0 ∧ b.level = .unknown ∧ b.inFlight = 0 ∧ b.pendingInk = 0 ∧
          b.spent = if (f.map spentFlag).getD false then .found else .none) := by
  by_cases hp : r.settings.nonGenuine = .block
  · rw [mismatchOutcome_blocks hp] at ht
    obtain ⟨hplaced, halert, hacc, hsysp⟩ := refused_spec ht
    have hstate := hplaced.state
    rw [← hstate] at hplaced
    refine ⟨hplaced, halert, ?_, fun _ => ⟨hstate, hacc hnone⟩, fun h => ?_⟩
    · rw [hstate]; exact hsysp
    · rw [hp] at h; cases h
  · rw [mismatchOutcome_opens hp] at ht
    obtain ⟨hplaced, halert, -, hsysp, ⟨b, hb, hsum, hfields⟩, -⟩ := opened_spec ht
    have hstate := hplaced.state
    rw [← hstate] at hplaced
    refine ⟨hplaced, ?_, ?_, fun h => absurd h hp, fun _ => ⟨?_, b, hb, congrArg Account.serial hfields, congrArg Account.cls hfields,
      congrArg Account.metered hfields, congrArg Account.base hfields, congrArg Account.level hfields, ?_, ?_, ?_⟩⟩
    · rw [halert]
      cases r.slots[n].alert <;> rfl
    · rw [hstate]; exact hsysp
    · rw [hstate, admittedState_eq]
    · exact Nat.eq_zero_of_add_eq_zero_right hsum
    · exact Nat.eq_zero_of_add_eq_zero_left hsum
    · exact (congrArg Account.spent hfields).trans (if_neg fun h => nomatch h.2.1)

/-! ### A proof (R8, R9, R133) -/

theorem alertsPosted_sysp_congr {u v : State} (h : u.sysp = v.sysp) (n : SlotId) (l : List (AlertCode × Option Word)) :
    (alertsPosted u n l).sysp = (alertsPosted v n l).sysp := by
  induction l generalizing u v with
  | nil => exact h
  | cons x l ih => exact ih (postEvent_sysp_congr h _ _ _ _)

theorem openAlerts_length (empty : Bool) (refill : Option RefillReason) : (openAlerts empty refill).length ≤ 2 := by
  cases empty <;> cases refill <;> simp [openAlerts]

theorem filterDecision_congr {s u : State} (h : u.his = s.his) (id : IdRecord) : filterDecision u id = filterDecision s id := by
  rw [filterDecision, filterDecision, h]

/-- Reconciliation reads the history and the policy, and no more. -/
theorem reconcile_of_frame {s u : State} {ps : List Part} (h : OnlyChanges ps s u) (hh : .his ∉ ps) (hset : .settings ∉ ps) (id : IdRecord)
    (c : Nat) (spent : Bool) : reconcile u id c spent = reconcile s id c spent := by
  have hhis : u.his = s.his := h .his hh
  have hseen (x : Serial) : seenEntry u x = seenEntry s x := by rw [seenEntry, seenEntry, hhis]
  have hret (x : Serial) : isRetired u x = isRetired s x := by rw [isRetired, isRetired, hhis]
  rw [reconcile_eq, reconcile_eq, h .settings hset, filterDecision_congr hhis, refillReason, refillReason, catchUpOf, catchUpOf, hseen, hret,
    filterDecision_congr hhis]

theorem reconcile_class {s : State} {id : IdRecord} {c : Nat} {spent empty : Bool} {cls : AccountClass} {refill : Option RefillReason} {k : Nat}
    (h : reconcile s id c spent = .opens empty cls refill k) : cls ≠ .nonGenuine := by
  rw [reconcile_eq] at h
  split at h
  · cases h
  · split at h
    · cases h
    · obtain ⟨-, hc, -⟩ := ReconOutcome.opens.inj h
      rw [← hc]
      split <;> nofun

/-- The account of a proven cartridge, its figures written out (R83, R87). -/
theorem openingAccount_metered {cls : AccountClass} (h : cls ≠ .nonGenuine) (lim : Limits) (id : IdRecord) (refill : Option RefillReason)
    (c k : Nat) (spent : Bool) :
    openingAccount lim id cls refill c k spent =
      { serial := id.serial, capacity := id.capacity.toNat, keyIndex := id.keyIndex, version := id.version, cls := cls
        refill := refill, metered := true, base := c, catchUp := k, confirmed := 0, inFlight := 0, pendingInk := k
        doubtful := 0, residue := 0, dropTotal := 0, purgeTotal := 0, failures := 0, suspended := false
        spent := if spent then .found else .none
        level := levelComputed lim id.capacity.toNat (id.capacity.toNat - (c + k)) } := by
  unfold openingAccount
  simp only [ne_eq, h, not_false_eq_true, decide_true, if_true]

/-- The mark of a proven cartridge's account: found marked, or asked for where nothing is left to be written (R91). -/
theorem openingMark (spent : Bool) (st : SlotState) (k : Nat) :
    (if st = .exhausted ∧ true = true ∧ (if spent then SpentState.found else .none) = .none ∧ k = 0 ∧ 0 = 0 ∧ false = false then .requested
      else if spent then SpentState.found else .none) =
      if spent then .found else if st = .exhausted ∧ k = 0 then .requested else .none := by
  cases spent <;> simp

/-- The state of a slot whose response has been found equal (R8). -/
def reconciling (s : State) (n : SlotId) : State := moveSlot (freePrf s) n .reconciling

theorem provenOutcome_eq (s : State) (n : SlotId) (id : IdRecord) (c : Word) (f : Byte) :
    provenOutcome (freePrf s) n id c f = reconcileSlot (reconciling s n) n id c.toNat (f.getLsbD 0) := by
  rw [provenOutcome, changeState_eq_moveSlot _ n .reconciling nofun]
  rfl

theorem reconciling_frame (s : State) (n : SlotId) : OnlyChanges [.prf, .slots, .sysp, .engp] s (reconciling s n) :=
  ((freePrf_frame s).mono (by decide)).trans ((moveSlot_frame (freePrf s) n .reconciling).mono (by decide))

theorem Placed.reconciled {n : SlotId} {s t : State} {st : SlotState} (h : Placed n (reconciling s n) t st) : Placed n s t st := by
  refine h.after ?_ ?_ fun m hm => ?_
  · exact moveSlot_others (freePrf s) n .reconciling
  · exact (moveSlot_kept (freePrf s) n .reconciling).1
  · show (moveSlot (freePrf s) n .reconciling).engp.gates[m] = s.engp.gates[m]
    rw [moveSlot_engp]
    exact put_other _ _ _ _ hm

theorem reconciling_slot (s : State) (n : SlotId) :
    (reconciling s n).slots[n].state = .reconciling ∧ (reconciling s n).slots[n].target = s.slots[n].target ∧
      (reconciling s n).slots[n].alert = s.slots[n].alert ∧ (reconciling s n).slots[n].alertCount = s.slots[n].alertCount := by
  rw [reconciling, moveSlot_same]
  exact ⟨rfl, rfl, rfl, rfl⟩

theorem reconciling_sysp (s : State) (n : SlotId) :
    (reconciling s n).sysp = (postEvent s .slotState (slotByte n) SlotState.reconciling.code (stateValue .reconciling)).sysp :=
  (moveSlot_sysp (freePrf s) n .reconciling).trans (postEvent_sysp_congr (s := freePrf s) (t := s) rfl _ _ _ _)

theorem reconcileSlot_rejects {s : State} {n : SlotId} {id : IdRecord} {c : Nat} {spent : Bool} {why : Reason}
    (h : reconcile s id c spent = .reject why) : reconcileSlot s n id c spent = rejectSlot (setIdentity s n none) n why := by
  unfold reconcileSlot
  rw [h]

theorem reconcileSlot_opens {s : State} {n : SlotId} {id : IdRecord} {c : Nat} {spent empty : Bool} {cls : AccountClass}
    {refill : Option RefillReason} {k : Nat} (h : reconcile s id c spent = .opens empty cls refill k) :
    reconcileSlot s n id c spent =
      raiseAlerts (openedAs s n (outcomeAccount s id c spent cls refill k) (outcomeState s n empty)) n (openAlerts empty refill) := by
  unfold reconcileSlot
  rw [h]
  exact openOutcome_eq s n id c spent empty cls refill k

theorem proven_rejected {s t : State} {n : SlotId} {id : IdRecord} {c : Word} {f : Byte} {why : Reason} (hnone : s.accounts[n] = none)
    (h : reconcile s id c.toNat (f.getLsbD 0) = .reject why) (ht : Delivered (provenOutcome (freePrf s) n id c f) t) :
    Placed n s t (.rejected why) ∧ t.accounts[n] = none ∧ t.slots[n].alert = some (s.slots[n].alert.getD why.alert) ∧
      (s.sto.power ≠ .flushingBus → t.sysp = (postEvent (postEvent (postEvent s .slotState (slotByte n) SlotState.reconciling.code
        (stateValue .reconciling)) .slotState (slotByte n) (SlotState.rejected why).code (stateValue (.rejected why))) .alert (slotByte n)
        why.alert.code none).sysp) := by
  have hf := reconciling_frame s n
  have hslot := (reconciling_slot s n).2.2.1
  have hsysp := reconciling_sysp s n
  rw [provenOutcome_eq, reconcileSlot_rejects ((reconcile_of_frame hf (by decide) (by decide) ..).trans h)] at ht
  obtain ⟨hplaced, halert, hacc, hevents⟩ := refused_spec ht
  rw [hslot] at halert
  refine ⟨hplaced.reconciled, hacc (by rw [hf .accounts (by decide)]; exact hnone), halert, fun hp => ?_⟩
  rw [hevents (by rw [hf .sto (by decide)]; exact hp)]
  exact postEvent_sysp_congr (postEvent_sysp_congr hsysp _ _ _ _) _ _ _ _

theorem proven_opened {s t : State} {n : SlotId} {id : IdRecord} {c : Word} {f : Byte} {empty : Bool} {cls : AccountClass}
    {refill : Option RefillReason} {k : Nat} {st : SlotState} (h : reconcile s id c.toNat (f.getLsbD 0) = .opens empty cls refill k)
    (hst : st = if s.slots[n].target = .parked then .parked else if empty then .exhausted else .ready)
    (ht : Delivered (provenOutcome (freePrf s) n id c f) t) :
    Placed n s t st ∧ t.slots[n].alert = s.slots[n].alert.or ((openAlerts empty refill).head?.map (·.1)) ∧
      t.slots[n].alertCount = (if openAlerts empty refill = [] then s.slots[n].alertCount
        else if s.slots[n].alert = none then (openAlerts empty refill).length - 1
        else min 15 (s.slots[n].alertCount + (openAlerts empty refill).length)) ∧
      (s.sto.power ≠ .flushingBus → t.sysp = (alertsPosted (postEvent (postEvent s .slotState (slotByte n) SlotState.reconciling.code
        (stateValue .reconciling)) .slotState (slotByte n) st.code (stateValue st)) n (openAlerts empty refill)).sysp) ∧
      (0 < k → c.toNat < 4294967295 → opPlaced t n .addUsed) ∧
      ∃ b : Account, t.accounts[n] = some b ∧ b.inFlight + b.pendingInk = k ∧
        b = { serial := id.serial, capacity := id.capacity.toNat, keyIndex := id.keyIndex, version := id.version, cls := cls
              refill := refill, metered := true, base := c.toNat, catchUp := k, confirmed := 0
              inFlight := b.inFlight, pendingInk := b.pendingInk, doubtful := 0, residue := 0, dropTotal := 0
              purgeTotal := 0, failures := 0, suspended := false
              spent := if f.getLsbD 0 then .found else if st = .exhausted ∧ k = 0 then .requested else .none
              level := levelComputed s.settings.limits id.capacity.toNat (id.capacity.toNat - (c.toNat + k)) } := by
  have hf := reconciling_frame s n
  obtain ⟨hrstate, hrtarget, hralert, hrcount⟩ := reconciling_slot s n
  have hsysp := reconciling_sysp s n
  have hout : outcomeState (reconciling s n) n empty = st := by
    rw [outcomeState, admittedState_eq, hrtarget, hst]
  have hacct : outcomeAccount (reconciling s n) id c.toNat (f.getLsbD 0) cls refill k =
      { serial := id.serial, capacity := id.capacity.toNat, keyIndex := id.keyIndex, version := id.version, cls := cls
        refill := refill, metered := true, base := c.toNat, catchUp := k, confirmed := 0, inFlight := 0, pendingInk := k
        doubtful := 0, residue := 0, dropTotal := 0, purgeTotal := 0, failures := 0, suspended := false
        spent := if f.getLsbD 0 then .found else .none
        level := levelComputed s.settings.limits id.capacity.toNat (id.capacity.toNat - (c.toNat + k)) } := by
    rw [outcomeAccount, openingAccount_metered (reconcile_class h), hf .settings (by decide)]
  rw [provenOutcome_eq, reconcileSlot_opens ((reconcile_of_frame hf (by decide) (by decide) ..).trans h), hout, hacct] at ht
  obtain ⟨hplaced, halert, hcount, hevents, ⟨b, hb, hsum, hfields⟩, hop⟩ := opened_spec ht
  rw [hralert] at halert hcount
  rw [hrcount] at hcount
  refine ⟨hplaced.reconciled, halert, ?_, fun hp => ?_, fun hk hmax => ?_, b, hb, ?_, ?_⟩
  · rw [hcount]
    have hlen := openAlerts_length empty refill
    rw [Nat.min_eq_right (by omega : (openAlerts empty refill).length - 1 ≤ 15)]
  · rw [hevents (by rw [hf .sto (by decide)]; exact hp)]
    exact alertsPosted_sysp_congr (postEvent_sysp_congr hsysp _ _ _ _) n _
  · refine hop ?_ ?_ rfl rfl rfl hk hmax
    · rw [contactLost, hrstate]; rfl
    · rw [hst]
      split
      · nofun
      · split <;> nofun
  · rw [hsum]
    exact Nat.zero_add k
  · rw [← openingMark]
    exact hfields

/-! ### The response judged -/

theorem responseChecked_equal {s : State} {d : BitVec 64} {n : SlotId} {c : Word} {f : Byte} {id : IdRecord} (h1 : s.prf.ctx.slot = some n)
    (h2 : s.prf.ctx.counter = some c) (h3 : s.prf.ctx.flags = some f) (h4 : s.prf.identity[n] = some id) (h : s.prf.ctx.response = some d) :
    responseChecked s d = provenOutcome (freePrf s) n id c f := by
  unfold responseChecked
  simp only [h1, h2, h3, h4, if_pos h]

theorem responseChecked_differs {s : State} {d : BitVec 64} {n : SlotId} {c : Word} {f : Byte} {id : IdRecord} (h1 : s.prf.ctx.slot = some n)
    (h2 : s.prf.ctx.counter = some c) (h3 : s.prf.ctx.flags = some f) (h4 : s.prf.identity[n] = some id) (h : s.prf.ctx.response ≠ some d) :
    responseChecked s d = mismatchOutcome (freePrf s) n id (some c) (some f) := by
  unfold responseChecked
  simp only [h1, h2, h3, h4, if_neg h]

theorem exec_responseDigest {s : State} {key : BitVec 128} {message : List Byte} (hr : s.phase = .running)
    (hd : s.prf.digest = some (.response key message)) :
    exec .responseDigestComplete s = .next (leaveHeld (responseChecked s (Config.kd key message))) := by
  show execResponseDigestComplete s = _
  unfold execResponseDigestComplete
  rw [hd]
  exact congrArg _ (if_pos hr)

theorem handOver_challenge {s : State} {tx : Transaction} (hc : tx.command = .admission .challenge) (r : TxResult) :
    handOver s tx r = challengeResult s tx.slot r := by
  unfold handOver
  simp only [hc]

theorem challengeResult_statusAlone {s : State} {n : SlotId} {id : IdRecord} (hslot : s.prf.ctx.slot = some n) (hid : s.prf.identity[n] = some id)
    (st : CartStatus) (body : List Byte) : challengeResult s n (.reply st body) = mismatchOutcome (freePrf s) n id none none := by
  unfold challengeResult
  rw [if_neg (not_not.2 hslot), hid]

theorem challengeResult_failed {s : State} {n : SlotId} (hslot : s.prf.ctx.slot = some n) (e : BusError) :
    challengeResult s n (.failure e) = rejectSlot (setIdentity (freePrf s) n none) n .noResponse := by
  unfold challengeResult
  rw [if_neg (not_not.2 hslot)]
  rfl

/-- The reply's result freed from the proof context: the bus and the proof alone have moved. -/
theorem freed_frame {s u : State} (hu : LineMoved s u) : OnlyChanges [.prf, .cbc] s (freePrf u) :=
  (hu.frame.mono (by decide)).trans ((freePrf_frame u).mono (by decide))

/-- The bus and the proof context hold a whole CHALLENGE reply (R34, R59). -/
theorem replyTaken_frame (s : State) (tx : Transaction) (body : List Byte) :
    OnlyChanges [.cbc, .prf] s (replyTaken (heldLine (withIdle s 12) tx) body) :=
  (((cbc_frame s _).trans (cbc_frame (withIdle s 12) _)).mono (by decide)).trans ((prf_frame (heldLine (withIdle s 12) tx) _).mono (by decide))

/-- Settles O40: the reply, the response digest's end, then reconciliation and the filters. -/
theorem theResponseDecidesTheProof : Obligations.TheResponseDecidesTheProof := by
  refine ⟨fun s tx id hr hl hc hslot hid hnone => ?_, ?_, fun s id c spent hs => ?_, fun s id => ?_, fun f id => ?_⟩
  · refine ⟨fun address rest st ha he hs => ⟨?_, fun hst => ?_⟩, fun i errors h3 h => ?_⟩
    · rintro rfl
      refine ⟨_, exec_replyHeld hr hl hc hslot ha he hs, ?_⟩
      obtain ⟨-, -, hphase⟩ := startResponseDigest_spec (replyTaken (heldLine (withIdle s 12) tx) (replyData rest))
      obtain ⟨hresp, hcount, hflags⟩ := startResponseDigest_reply (replyTaken (heldLine (withIdle s 12) tx) (replyData rest))
      have hframe := startResponseDigest_frame (replyTaken (heldLine (withIdle s 12) tx) (replyData rest))
      refine ⟨(replyTaken_frame s tx (replyData rest)).trans (hframe.mono (by decide)), hframe .cbc (by decide), hphase, hresp, hcount, hflags, fun key ch hk hch => ?_, fun hk => ?_⟩
      · exact startResponseDigest_starts (s := replyTaken (heldLine (withIdle s 12) tx) (replyData rest)) hslot hk hch rfl rfl hid
      · rw [startResponseDigest_waits (s := replyTaken (heldLine (withIdle s 12) tx) (replyData rest)) hk]
        rfl
    · obtain ⟨u, hu, hexec⟩ := exec_replyHandedOver hr hl ha he hs (.inr hst)
      have hframe := handOver_resultFrame (tx := tx) hu (.reply st (replyData rest))
      rw [handOver_challenge hc, challengeResult_statusAlone (by rw [hu.frame .prf (by decide)]; exact hslot)
        (by rw [hu.frame .prf (by decide)]; exact hid)] at hexec hframe
      have hf := freed_frame hu
      obtain ⟨hplaced, halert, -, hblock, hallow⟩ := mismatch_spec (t := leaveLine (mismatchOutcome (freePrf u) tx.slot id none none))
        (by rw [hf .accounts (by decide)]; exact hnone) (.inl rfl)
      have hslots : (freePrf u).slots = s.slots := hf .slots (by decide)
      have hplaced' := hplaced.of_frame hf (by decide) (by decide)
      rw [hslots] at halert hallow
      rw [hf .settings (by decide)] at hblock hallow
      refine ⟨_, hexec, hframe, hplaced'.others, hplaced'.identity, halert, hplaced'.gate, hblock, fun hp => ?_⟩
      obtain ⟨hstate, b, h1, h2, h3, h4, h5, h6, -, -, h7⟩ := hallow hp
      exact ⟨hstate, b, h1, h2, h3, h4, h5, h6, h7⟩
    · obtain ⟨u, hu, -, hexec⟩ := exec_thirdFailure hr hl h3 h
      have hframe := handOver_resultFrame (tx := tx) hu (.failure (reportedError errors))
      rw [handOver_challenge hc, challengeResult_failed (by rw [hu.frame .prf (by decide)]; exact hslot)] at hexec hframe
      have hf := freed_frame hu
      obtain ⟨hplaced, halert, hacc, -⟩ := refused_spec
        (t := leaveLine (rejectSlot (setIdentity (freePrf u) tx.slot none) tx.slot .noResponse)) (.inl rfl)
      have hslots : (freePrf u).slots = s.slots := hf .slots (by decide)
      have hplaced' := hplaced.of_frame hf (by decide) (by decide)
      rw [hslots] at halert
      exact ⟨_, hexec, hframe, hplaced'.others, hplaced'.state, halert, hplaced'.gate,
        hacc (by rw [hf .accounts (by decide)]; exact hnone), hplaced'.identity⟩
  · intro s key message n c f id hr hd hslot hcount hflags hid hnone moved raised
    have hexec := exec_responseDigest hr hd
    have ht := leaveHeld_delivered (responseChecked s (Config.kd key message))
    have hframe : OnlyChanges resultParts s (leaveHeld (responseChecked s (Config.kd key message))) :=
      ((responseChecked_frame s _).mono (by decide)).trans (leaveHeld_frame _)
    generalize leaveHeld (responseChecked s (Config.kd key message)) = t at hexec ht hframe
    refine ⟨t, hexec, hframe, ?_⟩
    by_cases hresp : s.prf.ctx.response = some (Config.kd key message)
    · rw [responseChecked_equal hslot hcount hflags hid hresp] at ht
      cases hrec : reconcile s id c.toNat (f.getLsbD 0) with
      | reject why =>
        obtain ⟨hplaced, hacc, halert, hsysp⟩ := proven_rejected hnone hrec ht
        refine ⟨hplaced.others, hplaced.identity, hplaced.target, hplaced.gate, fun _ => ⟨fun why' hw => ?_, nofun⟩, fun h => absurd hresp h⟩
        cases hw
        exact ⟨hplaced.state, hacc, halert, hsysp⟩
      | opens empty cls refill k =>
        obtain ⟨hplaced, halert, hcount, hsysp, hop, hacc⟩ := proven_opened hrec rfl ht
        refine ⟨hplaced.others, hplaced.identity, hplaced.target, hplaced.gate, fun _ => ⟨nofun, fun empty' cls' refill' k' hw => ?_⟩,
          fun h => absurd hresp h⟩
        cases hw
        exact ⟨hplaced.state, halert, hcount, hsysp, hop, hacc⟩
    · rw [responseChecked_differs hslot hcount hflags hid hresp] at ht
      have hf : OnlyChanges [.prf] s (freePrf s) := freePrf_frame s
      obtain ⟨hplaced, halert, hsysp, hblock, hallow⟩ := mismatch_spec (r := freePrf s) hnone ht
      have hplaced' := hplaced.of_frame hf (by decide) (by decide)
      exact ⟨hplaced'.others, hplaced'.identity, hplaced'.target, hplaced'.gate, fun h => absurd h hresp,
        fun _ => ⟨hblock, hallow, halert, hsysp⟩⟩
  · obtain ⟨hseen, -, -⟩ := hs
    obtain ⟨h1, h2, h3, h4⟩ := refillReason_spec hseen id c spent
    refine ⟨catchUpOf s id.serial c, refillReason s id c spent, fun p e hp he => ?_, fun h => catchUpOf_unseen h c, h1, h2, h3, h4,
      reconcile_eq s id c spent⟩
    rw [← he]
    exact catchUpOf_seen hseen hp c
  · obtain ⟨signal, hsignal, hacts⟩ := filterDecision_signals s id
    obtain ⟨hreject, hsuspect⟩ := decisionFrom_iff id true s.his.filters.toList
    rw [← hacts] at hreject
    rw [← hacts, ← hacts] at hsuspect
    exact ⟨signal, hsignal, hreject, hsuspect⟩
  · have h := filterMatch_iff f id
    rw [selectedBytes_eq] at h
    exact h

end Sys2Proof.Machine
end

section
/-! The start-up load's records (R175 to R177, R147): what a good record is read as; for O60. -/

namespace Sys2Proof.Machine

/-! ### Good records (R175) -/

theorem goodContents_none {s : State} {r : Fin 118} (h : judged s r ≠ .good) : goodContents s r = none := by
  unfold judged judgeRecord at h
  unfold goodContents
  split
  · next c k hw =>
    rw [hw] at h
    refine if_neg fun hc => h ?_
    exact if_pos hc
  · rfl

theorem goodContents_written {s : State} {r : Fin 118} {c : Contents} {k : Half} (hw : s.sto.stored[r] = .written c k)
    (h : judged s r = .good) : goodContents s r = some c ∧ contentsFit r c = true := by
  unfold judged judgeRecord at h
  rw [hw] at h
  unfold goodContents
  rw [hw]
  dsimp only at h ⊢
  split at h
  · next hc => exact ⟨if_pos hc, hc.2⟩
  · cases h

theorem goodContents_good {s : State} {r : Fin 118} (h : judged s r = .good) :
    ∃ c k, s.sto.stored[r] = .written c k ∧ goodContents s r = some c ∧ contentsFit r c = true := by
  cases hw : s.sto.stored[r] with
  | blank => unfold judged at h; rw [hw] at h; cases h
  | broken => unfold judged at h; rw [hw] at h; cases h
  | written c k => exact ⟨c, k, rfl, goodContents_written hw h⟩

/-- The numbers of the records that hold contents of a kind (R174). -/
def recordRange : Contents → Nat × Nat
  | .settings _ => (0, 0)
  | .calibration _ _ _ _ => (1, 10)
  | .locks _ => (11, 11)
  | .filter _ => (12, 17)
  | .key _ => (18, 21)
  | .seen _ => (22, 53)
  | .retired _ => (54, 117)

theorem within_iff {lo hi v : Nat} : within lo hi v = true ↔ lo ≤ v ∧ v ≤ hi := by
  rw [within, Bool.and_eq_true, decide_eq_true_eq, decide_eq_true_eq]

theorem contentsFit_range {r : Fin 118} {c : Contents} (h : contentsFit r c = true) :
    (recordRange c).1 ≤ r.val ∧ r.val ≤ (recordRange c).2 := by
  cases c with
  | settings x =>
    obtain rfl := of_decide_eq_true (Bool.and_eq_true_iff.1 h).1
    exact ⟨Nat.le_refl _, Nat.le_refl _⟩
  | calibration vS vM vL kappa => exact within_iff.1 (Bool.and_eq_true_iff.1 h).1
  | locks l =>
    obtain rfl := of_decide_eq_true h
    exact ⟨Nat.le_refl _, Nat.le_refl _⟩
  | filter x => exact within_iff.1 (Bool.and_eq_true_iff.1 h).1
  | key v => exact within_iff.1 h
  | seen x =>
    cases x with
    | none => exact within_iff.1 h
    | some x => exact within_iff.1 (Bool.and_eq_true_iff.1 h).1
  | retired x =>
    cases x with
    | none => exact within_iff.1 h
    | some x => exact within_iff.1 (Bool.and_eq_true_iff.1 h).1

theorem fit_settings {c : Contents} (h : contentsFit recSettings c = true) : ∃ x, c = .settings x ∧ (readSettings x).isSome = true := by
  have hr := contentsFit_range h
  cases c with
  | settings x =>
    have hread : (decide (recSettings = recSettings) && (readSettings x).isSome) = true := h
    exact ⟨x, rfl, (Bool.and_eq_true_iff.1 hread).2⟩
  | _ => simp only [recordRange, recSettings] at hr; omega

theorem fit_calibration {n : SlotId} {c : Contents} (h : contentsFit (recCalibration n) c = true) :
    ∃ vS vM vL kappa, c = .calibration vS vM vL kappa := by
  have hr := contentsFit_range h
  cases c with
  | calibration vS vM vL kappa => exact ⟨vS, vM, vL, kappa, rfl⟩
  | _ => simp only [recordRange, recCalibration] at hr; omega

theorem fit_locks {c : Contents} (h : contentsFit recLocks c = true) : ∃ l, c = .locks l := by
  have hr := contentsFit_range h
  cases c with
  | locks l => exact ⟨l, rfl⟩
  | _ => simp only [recordRange, recLocks] at hr; omega

/-! ### Settings (R176) -/

theorem loadedSettings_bad {s : State} (h : judged s recSettings ≠ .good) : loadedSettings s = none := by
  unfold loadedSettings
  rw [goodContents_none h]

theorem loadedSettings_written {s : State} {x : SettingsImage} {k : Half} (hw : s.sto.stored[recSettings] = .written (.settings x) k)
    (h : judged s recSettings = .good) : loadedSettings s = readSettings x := by
  unfold loadedSettings
  rw [(goodContents_written hw h).1]

theorem loadedSettings_good (s : State) : (loadedSettings s).isSome = true ↔ judged s recSettings = .good := by
  constructor
  · intro h
    by_contra hb
    rw [loadedSettings_bad hb] at h
    cases h
  · intro h
    obtain ⟨c, k, hw, -, hfit⟩ := goodContents_good h
    obtain ⟨x, rfl, hx⟩ := fit_settings hfit
    rw [loadedSettings_written hw h]
    exact hx

/-- A settings record is read as its values stand (R174, R175). -/
theorem readSettings_some {x : SettingsImage} {y : Settings} (h : readSettings x = some y) :
    some y.nonGenuine = NonGenuinePolicy.ofCode x.nonGenuine ∧ some y.suspect = SuspectPolicy.ofCode x.suspect ∧
      y.limits = ⟨x.low.toNat, x.reserve.toNat, x.threshold.toNat, x.window.toNat, x.swath.toNat, x.purge.toNat⟩ ∧
      (∀ n : SlotId, some y.modes[n] = Mode.ofCode x.modes[n]) ∧ y.colours = x.colours ∧ y.region = x.region := by
  unfold readSettings at h
  split at h
  · next g p hg hp =>
    split at h
    · next hc =>
      cases h
      simp only [Bool.and_eq_true, List.all_eq_true] at hc
      obtain ⟨⟨-, hmodes⟩, -⟩ := hc
      refine ⟨hg.symm, hp.symm, rfl, fun n => ?_, rfl, rfl⟩
      obtain ⟨m, hm⟩ := Option.isSome_iff_exists.1 (hmodes x.modes[n] (Vector.mem_toList_iff.2 (Vector.getElem_mem n.isLt)))
      show some (x.modes.map fun m => (Mode.ofCode m).getD .auto)[n] = _
      rw [Fin.getElem_fin, Vector.getElem_map, ← Fin.getElem_fin, hm]
      rfl
    · cases h
  · cases h

/-! ### Calibration, keys and filters (R30, R69, R139) -/

theorem loadedCalibration_written {s : State} {n : SlotId} {vS vM vL : Half} {kappa : Byte} {k : Half}
    (hw : s.sto.stored[recCalibration n] = .written (.calibration vS vM vL kappa) k) (h : judged s (recCalibration n) = .good) :
    loadedCalibration s n = ⟨vS, vM, vL, kappa, true⟩ := by
  unfold loadedCalibration
  rw [(goodContents_written hw h).1]

theorem loadedCalibration_valid (s : State) (n : SlotId) : (loadedCalibration s n).valid = true ↔ judged s (recCalibration n) = .good := by
  constructor
  · intro h
    by_contra hb
    unfold loadedCalibration at h
    rw [goodContents_none hb] at h
    cases h
  · intro h
    obtain ⟨c, k, hw, -, hfit⟩ := goodContents_good h
    obtain ⟨vS, vM, vL, kappa, rfl⟩ := fit_calibration hfit
    rw [loadedCalibration_written hw h]

theorem loadedKey_bad {s : State} {k : Fin 4} (h : judged s (recKey k) ≠ .good) : loadedKey s k = none := by
  unfold loadedKey
  rw [goodContents_none h]

theorem loadedKey_written {s : State} {k : Fin 4} {v : BitVec 128} {c : Half} (hw : s.sto.stored[recKey k] = .written (.key v) c)
    (h : judged s (recKey k) = .good) : loadedKey s k = some v := by
  unfold loadedKey
  rw [(goodContents_written hw h).1]

theorem loadedFilter_bad {s : State} {e : Fin 6} (h : judged s (recFilter e) ≠ .good) : loadedFilter s e = clearedFilter := by
  unfold loadedFilter
  rw [goodContents_none h]

theorem yesNoOfCode_some {b : Byte} {v : Bool} (h : yesNoOfCode b = some v) : v = (b == 1) := by
  unfold yesNoOfCode at h
  split at h
  · next h0 => cases h; rw [h0]; rfl
  · split at h
    · next h1 => cases h; rw [h1]; rfl
    · cases h

theorem readFilter_some {x : FilterImage} {f : Filter} (h : readFilter x = some f) :
    ∃ a, FilterAction.ofCode x.action = some a ∧ f = ⟨x.enabled == 1, x.offset, x.mask, x.expected, x.chain == 1, x.invert == 1, a⟩ := by
  unfold readFilter at h
  split at h
  · next e c i a he hc hi ha =>
    split at h
    · cases h
      exact ⟨a, ha, by rw [← yesNoOfCode_some he, ← yesNoOfCode_some hc, ← yesNoOfCode_some hi]⟩
    · cases h
  · cases h

theorem loadedFilter_written {s : State} {e : Fin 6} {x : FilterImage} {k : Half} (hw : s.sto.stored[recFilter e] = .written (.filter x) k)
    (h : judged s (recFilter e) = .good) :
    ∃ a, FilterAction.ofCode x.action = some a ∧
      loadedFilter s e = ⟨x.enabled == 1, x.offset, x.mask, x.expected, x.chain == 1, x.invert == 1, a⟩ := by
  obtain ⟨hg, hfit⟩ := goodContents_written hw h
  obtain ⟨f, hf⟩ := Option.isSome_iff_exists.1 (Bool.and_eq_true_iff.1 hfit).2
  obtain ⟨a, ha, hfa⟩ := readFilter_some hf
  refine ⟨a, ha, ?_⟩
  unfold loadedFilter
  rw [hg]
  dsimp only
  rw [hf]
  exact hfa

/-! ### History entries (R128, R130, R147) -/

theorem loadedSeen_bad {s : State} {p : Fin 32} (h : judged s (recSeen p) ≠ .good) : loadedSeen s p = none := by
  unfold loadedSeen
  rw [goodContents_none h]

theorem loadedSeen_empty {s : State} {p : Fin 32} {k : Half} (hw : s.sto.stored[recSeen p] = .written (.seen none) k) :
    loadedSeen s p = none := by
  by_cases h : judged s (recSeen p) = .good
  · unfold loadedSeen
    rw [(goodContents_written hw h).1]
  · exact loadedSeen_bad h

theorem loadedSeen_written {s : State} {p : Fin 32} {x : SeenImage} {k : Half} (hw : s.sto.stored[recSeen p] = .written (.seen (some x)) k)
    (h : judged s (recSeen p) = .good) :
    ∃ (n : SlotId) (c : AccountClass), slotOf x.lastSlot = some n ∧ seenClassOfCode x.lastClass = some c ∧
      loadedSeen s p = some ⟨x.serial, x.consumed.toNat, x.unwritten.toNat, n, c, x.stamp.toNat⟩ := by
  obtain ⟨hg, hfit⟩ := goodContents_written hw h
  obtain ⟨e, he⟩ := Option.isSome_iff_exists.1 (Bool.and_eq_true_iff.1 hfit).2
  have hl : loadedSeen s p = readSeen x := by
    unfold loadedSeen
    rw [hg]
  rw [hl]
  unfold readSeen at he ⊢
  split at he
  · next n c hn hc =>
    split at he
    · next hr => exact ⟨n, c, hn, hc, if_pos hr⟩
    · cases he
  · cases he

theorem loadedRetired_bad {s : State} {p : Fin 64} (h : judged s (recRetired p) ≠ .good) : loadedRetired s p = none := by
  unfold loadedRetired
  rw [goodContents_none h]

theorem loadedRetired_empty {s : State} {p : Fin 64} {k : Half} (hw : s.sto.stored[recRetired p] = .written (.retired none) k) :
    loadedRetired s p = none := by
  by_cases h : judged s (recRetired p) = .good
  · unfold loadedRetired
    rw [(goodContents_written hw h).1]
  · exact loadedRetired_bad h

theorem loadedRetired_written {s : State} {p : Fin 64} {x : RetiredImage} {k : Half}
    (hw : s.sto.stored[recRetired p] = .written (.retired (some x)) k) (h : judged s (recRetired p) = .good) :
    ∃ w, RetiredReason.ofCode x.reason = some w ∧ loadedRetired s p = some ⟨x.serial, w, x.number.toNat⟩ := by
  obtain ⟨hg, hfit⟩ := goodContents_written hw h
  obtain ⟨e, he⟩ := Option.isSome_iff_exists.1 (Bool.and_eq_true_iff.1 hfit).2
  have hl : loadedRetired s p = readRetired x := by
    unfold loadedRetired
    rw [hg]
  rw [hl]
  unfold readRetired at he ⊢
  split at he
  · next w hw' =>
    split at he
    · next hr => exact ⟨w, hw', if_pos hr⟩
    · cases he
  · cases he

/-! ### The duplicate rule and the counters (R147) -/

section
variable {α : Type} {k : Nat} {serial : α → Serial} {num : α → Nat} {t : Vector (Option α) k} {p : Fin k}

/-- An entry that yields stands beside another of its serial, whose number is no lower. -/
theorem yields_twin (h : yields serial num t p = true) :
    ∃ (q : Fin k) (x y : α), t[p] = some x ∧ t[q] = some y ∧ q ≠ p ∧ serial x = serial y ∧ num x ≤ num y := by
  obtain ⟨q, -, hq⟩ := List.any_eq_true.1 h
  split at hq
  · next x y hx hy =>
    simp only [Bool.and_eq_true, Bool.or_eq_true, decide_eq_true_eq, beq_iff_eq] at hq
    obtain ⟨⟨hne, hs⟩, hn⟩ := hq
    exact ⟨q, x, y, hx, hy, hne, hs, hn.elim Nat.le_of_lt fun h => Nat.le_of_eq h.1⟩
  · cases hq

/-- The lower number yields. -/
theorem yields_of_lower {q : Fin k} {x y : α} (hx : t[p] = some x) (hy : t[q] = some y) (hs : serial x = serial y) (hn : num x < num y) :
    yields serial num t p = true := by
  refine List.any_eq_true.2 ⟨q, List.mem_finRange q, ?_⟩
  have hne : q ≠ p := by
    rintro rfl
    rw [hx] at hy
    cases hy
    exact Nat.lt_irrefl _ hn
  rw [hx, hy]
  simp [hne, hs, hn]

theorem withoutDuplicates_get (p : Fin k) :
    (withoutDuplicates serial num t)[p] = if yields serial num t p = true then none else t[p] := tab_get _ p

/-- What the duplicate rule leaves of a position (R147). -/
theorem withoutDuplicates_spec (p : Fin k) :
    (t[p] = none → (withoutDuplicates serial num t)[p] = none) ∧
      ∀ x : α, t[p] = some x →
        ((∀ (q : Fin k) (y : α), q ≠ p → t[q] = some y → serial y = serial x → num y < num x) → (withoutDuplicates serial num t)[p] = some x) ∧
        ((∃ (q : Fin k) (y : α), t[q] = some y ∧ serial y = serial x ∧ num x < num y) → (withoutDuplicates serial num t)[p] = none) ∧
        ((withoutDuplicates serial num t)[p] = some x ∨ (withoutDuplicates serial num t)[p] = none) := by
  rw [withoutDuplicates_get]
  refine ⟨fun h => by rw [h]; exact ite_self _, fun x hx => ⟨fun hall => ?_, fun ⟨q, y, hy, hs, hn⟩ => ?_, ?_⟩⟩
  · rw [if_neg fun h => ?_]
    · exact hx
    · obtain ⟨q, x', y, hx', hy, hne, hs, hn⟩ := yields_twin h
      obtain rfl : x = x' := Option.some.inj (hx.symm.trans hx')
      have := hall q y hne hy hs.symm
      omega
  · exact if_pos (yields_of_lower hx hy hs.symm hn)
  · split
    · exact .inr rfl
    · exact .inl hx

/-- The positions the rule empties are those that held an entry and hold none (R147). -/
theorem yields_iff (p : Fin k) : yields serial num t p = true ↔ t[p].isSome = true ∧ (withoutDuplicates serial num t)[p] = none := by
  rw [withoutDuplicates_get]
  constructor
  · intro h
    obtain ⟨q, x, y, hx, -⟩ := yields_twin h
    exact ⟨by rw [hx]; rfl, if_pos h⟩
  · rintro ⟨hs, hn⟩
    by_contra h
    rw [if_neg h] at hn
    rw [hn] at hs
    cases hs

theorem foldl_max_le (f : Option α → Nat) (l : List (Option α)) (m : Nat) : m ≤ l.foldl (fun m e => max m (f e)) m ∧
    ∀ e ∈ l, f e ≤ l.foldl (fun m e => max m (f e)) m := by
  induction l generalizing m with
  | nil => exact ⟨Nat.le_refl _, nofun⟩
  | cons a l ih =>
    obtain ⟨h1, h2⟩ := ih (max m (f a))
    refine ⟨Nat.le_trans (Nat.le_max_left _ _) h1, fun e he => ?_⟩
    rcases List.mem_cons.1 he with rfl | he
    · exact Nat.le_trans (Nat.le_max_right _ _) h1
    · exact h2 e he

theorem foldl_max_attained (f : Option α → Nat) (l : List (Option α)) (m : Nat) : l.foldl (fun m e => max m (f e)) m = m ∨
    ∃ e ∈ l, l.foldl (fun m e => max m (f e)) m = f e := by
  induction l generalizing m with
  | nil => exact .inl rfl
  | cons a l ih =>
    rcases ih (max m (f a)) with h | ⟨e, he, h⟩
    · rcases Nat.le_total m (f a) with hm | hm
      · exact .inr ⟨a, List.mem_cons_self, h.trans (Nat.max_eq_right hm)⟩
      · exact .inl (h.trans (Nat.max_eq_left hm))
    · exact .inr ⟨e, List.mem_cons_of_mem _ he, h⟩

/-- The counter stands above every number loaded (R147). -/
theorem lt_nextNumber {x : α} (h : t[p] = some x) : num x < nextNumber num t := by
  have hm : some x ∈ t.toList := h ▸ Vector.mem_toList_iff.2 (Vector.getElem_mem p.isLt)
  exact Nat.lt_succ_of_le ((foldl_max_le (fun e => (e.map num).getD 0) t.toList 0).2 _ hm)

/-- The counter stands one above a number loaded, or at 1 (R147). -/
theorem nextNumber_attained (num : α → Nat) (t : Vector (Option α) k) :
    nextNumber num t = 1 ∨ ∃ (p : Fin k) (x : α), t[p] = some x ∧ nextNumber num t = num x + 1 := by
  rcases foldl_max_attained (fun e => (e.map num).getD 0) t.toList 0 with h | ⟨e, he, h⟩
  · exact .inl (congrArg (· + 1) h)
  · cases e with
    | none => exact .inl (congrArg (· + 1) h)
    | some x =>
      obtain ⟨i, hi, hx⟩ := List.mem_iff_getElem.1 he
      rw [Vector.length_toList] at hi
      rw [Vector.getElem_toList] at hx
      exact .inr ⟨⟨i, hi⟩, x, hx, congrArg (· + 1) h⟩

end

end Sys2Proof.Machine
end

section
/-! The state the start-up load leaves (R176 to R178, R147); for O60. -/

namespace Sys2Proof.Machine

/-! ### What the load reads -/

section
variable {s t : State} (h : t.sto.stored = s.sto.stored)
include h

theorem judged_congr (r : Fin 118) : judged t r = judged s r := by rw [judged, judged, h]

theorem goodContents_congr (r : Fin 118) : goodContents t r = goodContents s r := by rw [goodContents, goodContents, h]

theorem loadedSettings_congr : loadedSettings t = loadedSettings s := by rw [loadedSettings, loadedSettings, goodContents_congr h]

theorem loadedCalibration_congr : loadedCalibration t = loadedCalibration s :=
  funext fun n => by rw [loadedCalibration, loadedCalibration, goodContents_congr h]

theorem loadedKey_congr : loadedKey t = loadedKey s := funext fun k => by rw [loadedKey, loadedKey, goodContents_congr h]

theorem loadedFilter_congr : loadedFilter t = loadedFilter s := funext fun e => by rw [loadedFilter, loadedFilter, goodContents_congr h]

theorem loadedSeen_congr : loadedSeen t = loadedSeen s := funext fun p => by rw [loadedSeen, loadedSeen, goodContents_congr h]

theorem loadedRetired_congr : loadedRetired t = loadedRetired s := funext fun p => by rw [loadedRetired, loadedRetired, goodContents_congr h]

end

theorem MarksOnly.stored {s t : State} (h : MarksOnly s t) : t.sto.stored = s.sto.stored := by rw [h]

/-! ### Dirty marks -/

/-- From `s` to `t` the records of `D` are marked dirty, and no others. -/
def MarksOf (D : Fin 118 → Prop) (s t : State) : Prop := ∀ r : Fin 118, t.sto.dirty[r] = true ↔ s.sto.dirty[r] = true ∨ D r

theorem MarksOf.trans {D E : Fin 118 → Prop} {s t u : State} (h : MarksOf D s t) (k : MarksOf E t u) : MarksOf (fun r => D r ∨ E r) s u :=
  fun r => by rw [k r, h r, or_assoc]

theorem marksOf_none {D : Fin 118 → Prop} {s t : State} (h : t.sto.dirty = s.sto.dirty) (hD : ∀ r, ¬ D r) : MarksOf D s t :=
  fun r => by rw [h]; exact (or_iff_left (hD r)).symm

theorem markDirty_of (s : State) (r : Fin 118) : MarksOf (· = r) s (markDirty s r) := fun q => by
  show (put s.sto.dirty r true)[q] = true ↔ _
  rw [put_get]
  split
  · next h => exact ⟨fun _ => .inr h, fun _ => rfl⟩
  · next h => exact (or_iff_left h).symm

theorem MarksOf.congr {D E : Fin 118 → Prop} {s t : State} (h : MarksOf D s t) (he : ∀ r, D r ↔ E r) : MarksOf E s t :=
  fun r => by rw [h r, he r]

theorem MarksOf.of_dirty {D : Fin 118 → Prop} {s s' t : State} (h : MarksOf D s t) (hs : s.sto.dirty = s'.sto.dirty) : MarksOf D s' t :=
  fun r => by rw [h r, hs]

theorem foldl_markDirty_of {k : Nat} (f : Fin k → Fin 118) (l : List (Fin k)) (s : State) :
    MarksOf (fun r => ∃ p ∈ l, r = f p) s (l.foldl (fun s p => markDirty s (f p)) s) := by
  induction l generalizing s with
  | nil => exact marksOf_none rfl fun r ⟨_, h, _⟩ => nomatch h
  | cons p l ih =>
    refine ((markDirty_of s (f p)).trans (ih _)).congr fun r => ?_
    simp only [List.mem_cons, exists_eq_or_imp]

theorem foldl_markDirty_frame {k : Nat} (f : Fin k → Fin 118) (l : List (Fin k)) (s : State) :
    OnlyChanges [.sto] s (l.foldl (fun s p => markDirty s (f p)) s) := OnlyChanges.foldl _ (fun s p => markDirty_frame s (f p)) l s

theorem foldl_markDirty_marks {k : Nat} (f : Fin k → Fin 118) (l : List (Fin k)) (s : State) :
    MarksOnly s (l.foldl (fun s p => markDirty s (f p)) s) := MarksOnly.foldl _ (fun s p => markDirty_marks s (f p)) l s

/-! ### The settings and the tables -/

theorem loadSettings_spec (s : State) :
    (loadSettings s).settings = (loadedSettings s).getD defaultSettings ∧ MarksOnly s (loadSettings s) ∧
      MarksOf (fun r => r = recSettings ∧ judged s recSettings ≠ .good) s (loadSettings s) := by
  have hgood := loadedSettings_good s
  unfold loadSettings
  cases h : loadedSettings s with
  | some x =>
    rw [h] at hgood
    exact ⟨rfl, .refl s, marksOf_none rfl fun r hr => hr.2 (hgood.1 rfl)⟩
  | none =>
    rw [h] at hgood
    refine ⟨rfl, markDirty_marks { s with settings := defaultSettings } _, ?_⟩
    refine ((markDirty_of { s with settings := defaultSettings } recSettings).of_dirty (s' := s) rfl).congr fun r => ?_
    exact (and_iff_left fun hg => nomatch hgood.2 hg).symm

theorem loadTables_frame (s : State) : OnlyChanges [.cal, .prf, .his] s (loadTables s) := by
  intro p hp; cases p <;> first | rfl | exact (hp (by decide)).elim

/-! ### The locks (R177) -/

theorem usableLocks_get (s : State) (l : Vector Bool 10) (n : SlotId) : (usableLocks s l)[n] = (l[n] && s.cal[n].valid) := tab_get _ n

theorem usableLocks_all {s : State} {l : Vector Bool 10} : usableLocks s l = l ↔ ∀ n : SlotId, l[n] = true → s.cal[n].valid = true := by
  constructor
  · intro h n hn
    have := usableLocks_get s l n
    rw [h, hn, Bool.true_and] at this
    exact this.symm
  · intro h
    refine Vector.ext fun i hi => ?_
    have := usableLocks_get s l ⟨i, hi⟩
    rw [Fin.getElem_fin, Fin.getElem_fin] at this
    rw [this]
    cases hl : l[i] with
    | false => rfl
    | true => exact h ⟨i, hi⟩ hl

/-- The records a good lock record leaves to be written: itself, if a lock is dropped (R177). -/
def LocksMarked (s : State) (cal : Vector Calibration 10) : Prop :=
  judged s recLocks = .bad ∨ ∃ (l : Vector Bool 10) (k : Half) (n : SlotId), s.sto.stored[recLocks] = .written (.locks l) k ∧
    judged s recLocks = .good ∧ l[n] = true ∧ cal[n].valid = false

theorem loadLocks_blank {s : State} (h : judged s recLocks = .blank) : loadLocks s = { s with locks := Vector.replicate 10 false } := by
  unfold loadLocks
  rw [h]

theorem loadLocks_bad {s : State} (h : judged s recLocks = .bad) :
    loadLocks s = markDirty { s with locks := tab 10 fun n => s.cal[n].valid } recLocks := by
  unfold loadLocks
  rw [goodContents_none (by rw [h]; nofun), h]

theorem loadLocks_good {s : State} {l : Vector Bool 10} {k : Half} (hw : s.sto.stored[recLocks] = .written (.locks l) k)
    (h : judged s recLocks = .good) :
    loadLocks s = if usableLocks s l = l then { s with locks := usableLocks s l } else markDirty { s with locks := usableLocks s l } recLocks := by
  unfold loadLocks
  rw [(goodContents_written hw h).1, h]

theorem loadLocks_marks (s : State) : MarksOnly s (loadLocks s) := by
  have hmark (l : Vector Bool 10) : MarksOnly s (markDirty { s with locks := l } recLocks) := markDirty_marks { s with locks := l } _
  unfold loadLocks
  split
  · exact MarksOnly.refl s
  · exact .ite (.refl s) (hmark _)
  · exact hmark _

theorem loadLocks_spec (s : State) :
    (judged s recLocks = .blank → ∀ n : SlotId, (loadLocks s).locks[n] = false) ∧
      (judged s recLocks = .bad → ∀ n : SlotId, (loadLocks s).locks[n] = s.cal[n].valid) ∧
      (∀ (l : Vector Bool 10) (k : Half), s.sto.stored[recLocks] = .written (.locks l) k → judged s recLocks = .good →
        ∀ n : SlotId, (loadLocks s).locks[n] = (l[n] && s.cal[n].valid)) ∧
      MarksOf (fun r => r = recLocks ∧ LocksMarked s s.cal) s (loadLocks s) := by
  refine ⟨fun h n => ?_, fun h n => ?_, fun l k hw h n => ?_, ?_⟩
  · rw [loadLocks_blank h]
    show (Vector.replicate 10 false)[n] = false
    simp
  · rw [loadLocks_bad h]
    exact tab_get _ n
  · rw [loadLocks_good hw h]
    split <;> exact usableLocks_get s l n
  · cases h : judged s recLocks with
    | blank =>
      rw [loadLocks_blank h]
      refine marksOf_none rfl ?_
      rintro r ⟨-, hb | ⟨l, k, n, -, hg, -⟩⟩
      · rw [h] at hb; cases hb
      · rw [h] at hg; cases hg
    | bad =>
      rw [loadLocks_bad h]
      refine ((markDirty_of { s with locks := tab 10 fun n => s.cal[n].valid } recLocks).of_dirty (s' := s) rfl).congr fun r => ?_
      exact (and_iff_left (.inl h)).symm
    | good =>
      obtain ⟨c, k, hw, -, hfit⟩ := goodContents_good h
      obtain ⟨l, rfl⟩ := fit_locks hfit
      have hmarked : LocksMarked s s.cal ↔ usableLocks s l ≠ l := by
        rw [Ne, usableLocks_all]
        constructor
        · rintro (hb | ⟨l', k', n, hw', -, hn, hv⟩) hall
          · rw [h] at hb; cases hb
          · rw [hw] at hw'
            cases hw'
            rw [hall n hn] at hv
            cases hv
        · intro hno
          obtain ⟨n, hn⟩ := not_forall.1 hno
          obtain ⟨hl, hv⟩ := Classical.not_imp.1 hn
          exact .inr ⟨l, k, n, hw, h, hl, Bool.eq_false_iff.2 hv⟩
      rw [loadLocks_good hw h]
      split
      · next hu => exact marksOf_none rfl fun r hr => hmarked.1 hr.2 hu
      · next hu =>
        refine ((markDirty_of { s with locks := usableLocks s l } recLocks).of_dirty (s' := s) rfl).congr fun r => ?_
        exact (and_iff_left (hmarked.2 hu)).symm

/-! ### The history (R147) -/

/-- The history with its duplicates emptied and its counters set, before the marks (R147). -/
def deduped (s : State) : State :=
  { s with his := { s.his with
    seen := withoutDuplicates SeenEntry.serial SeenEntry.stamp s.his.seen
    retired := withoutDuplicates RetiredEntry.serial RetiredEntry.number s.his.retired
    stamp := nextNumber SeenEntry.stamp s.his.seen, retire := nextNumber RetiredEntry.number s.his.retired } }

theorem loadHistory_eq (s : State) :
    loadHistory s = (duplicates RetiredEntry.serial RetiredEntry.number s.his.retired).foldl (fun s p => markDirty s (recRetired p))
      ((duplicates SeenEntry.serial SeenEntry.stamp s.his.seen).foldl (fun s p => markDirty s (recSeen p)) (deduped s)) := rfl

theorem mem_duplicates {α : Type} {k : Nat} {serial : α → Serial} {num : α → Nat} {t : Vector (Option α) k} {p : Fin k} :
    p ∈ duplicates serial num t ↔ t[p].isSome = true ∧ (withoutDuplicates serial num t)[p] = none := by
  rw [duplicates, List.mem_filter, yields_iff]
  exact and_iff_right (List.mem_finRange p)

theorem loadHistory_spec (s : State) :
    (loadHistory s).his = (deduped s).his ∧ MarksOnly s (loadHistory s) ∧
      MarksOf (fun r => (∃ p : Fin 32, r = recSeen p ∧ s.his.seen[p].isSome = true ∧ (loadHistory s).his.seen[p] = none) ∨
        ∃ p : Fin 64, r = recRetired p ∧ s.his.retired[p].isSome = true ∧ (loadHistory s).his.retired[p] = none) s (loadHistory s) := by
  have hhis : (loadHistory s).his = (deduped s).his := by
    rw [loadHistory_eq, foldl_markDirty_frame _ _ _ .his (by decide), foldl_markDirty_frame _ _ _ .his (by decide)]
  refine ⟨hhis, ?_, ?_⟩
  · rw [loadHistory_eq]
    exact (MarksOnly.of_sto (t := deduped s) rfl).trans ((foldl_markDirty_marks _ _ _).trans (foldl_markDirty_marks _ _ _))
  · rw [hhis, loadHistory_eq]
    refine (((foldl_markDirty_of recSeen _ (deduped s)).of_dirty (s' := s) rfl).trans (foldl_markDirty_of recRetired _ _)).congr fun r => ?_
    simp only [mem_duplicates, deduped]
    refine or_congr (exists_congr fun p => ?_) (exists_congr fun p => ?_)
    · exact and_comm
    · exact and_comm

/-! ### The events (R178) -/

/-- The events of a load into an empty queue. -/
def loadEvents (defaulted : Bool) (bad : Nat) : List Event :=
  (if defaulted then [⟨0, .settingsDefaulted, noSlot, 0, none⟩] else []) ++
    if 0 < bad then [⟨if defaulted then 1 else 0, .storeFault, noSlot, 0, some (BitVec.ofNat 32 bad)⟩] else []

theorem postLoadEvents_events {s : State} (h : s.sysp = State.reset.sysp) (defaulted : Bool) (bad : Nat) :
    (postLoadEvents s defaulted bad).sysp.events = loadEvents defaulted bad := by
  have he : s.sysp.events = [] := by rw [h]; rfl
  have hs : s.sysp.seq = 0 := by rw [h]; rfl
  unfold postLoadEvents loadEvents postEvent
  cases defaulted <;> by_cases hb : 0 < bad <;> simp [hb, he, hs, takeEvent]

end Sys2Proof.Machine
end

section
/-! The start-up sample, the slots in slot order (R23, R182, R185), and the load as a whole; O60. -/

namespace Sys2Proof.Machine

/-! ### The load as a whole -/

/-- The marks of a load: the settings record if defaulted, the lock record if not taken as stored, the entries emptied (R177). -/
def LoadMarked (u t : State) (r : Fin 118) : Prop :=
  r = recSettings ∧ judged u recSettings ≠ .good ∨ r = recLocks ∧ LocksMarked u t.cal ∨
    (∃ p : Fin 32, r = recSeen p ∧ (loadedSeen u p).isSome = true ∧ t.his.seen[p] = none) ∨
    ∃ p : Fin 64, r = recRetired p ∧ (loadedRetired u p).isSome = true ∧ t.his.retired[p] = none

/-- What the load makes of the records of `u`. -/
structure LoadedFrom (u t : State) : Prop where
  settings : t.settings = (loadedSettings u).getD defaultSettings
  cal : t.cal = tab 10 (loadedCalibration u)
  keys : t.prf.keys = tab 4 (loadedKey u)
  filters : t.his.filters = tab 6 (loadedFilter u)
  locksBlank : judged u recLocks = .blank → ∀ n : SlotId, t.locks[n] = false
  locksBad : judged u recLocks = .bad → ∀ n : SlotId, t.locks[n] = t.cal[n].valid
  locksGood : ∀ (l : Vector Bool 10) (k : Half), u.sto.stored[recLocks] = .written (.locks l) k → judged u recLocks = .good →
    ∀ n : SlotId, t.locks[n] = (l[n] && t.cal[n].valid)
  seen : t.his.seen = withoutDuplicates SeenEntry.serial SeenEntry.stamp (tab 32 (loadedSeen u))
  retired : t.his.retired = withoutDuplicates RetiredEntry.serial RetiredEntry.number (tab 64 (loadedRetired u))
  stamp : t.his.stamp = nextNumber SeenEntry.stamp (tab 32 (loadedSeen u))
  retire : t.his.retire = nextNumber RetiredEntry.number (tab 64 (loadedRetired u))
  dirty : ∀ r : Fin 118, t.sto.dirty[r] = true ↔ LoadMarked u t r

/-- The state with no record dirty. -/
def undirtied (u : State) : State := { u with sto := { u.sto with dirty := Vector.replicate 118 false } }

/-- The load before its events. -/
def loadRecords (u : State) : State := loadHistory (loadLocks (loadTables (loadSettings (undirtied u))))

theorem startUpLoad_eq (u : State) : startUpLoad u =
    postLoadEvents (loadRecords u) (loadedSettings u).isNone (recordsJudged (judged u) .bad).length := rfl

theorem loadRecords_frame (u : State) : OnlyChanges [.settings, .sto, .cal, .prf, .his, .locks] u (loadRecords u) := by
  refine OnlyChanges.trans ?_ ((loadHistory_frame _).mono (by decide))
  refine OnlyChanges.trans ?_ ((loadLocks_frame _).mono (by decide))
  refine OnlyChanges.trans ?_ ((loadTables_frame _).mono (by decide))
  exact OnlyChanges.trans ((sto_frame u _).mono (by decide)) ((loadSettings_frame (undirtied u)).mono (by decide))

theorem undirtied_dirty (u : State) (r : Fin 118) : (undirtied u).sto.dirty[r] ≠ true := by
  show (Vector.replicate 118 false)[r] ≠ true
  simp

theorem loadRecords_spec (u : State) :
    LoadedFrom u (loadRecords u) ∧ MarksOnly u (loadRecords u) := by
  obtain ⟨hset, hsmarks, hsdirty⟩ := loadSettings_spec (undirtied u)
  have hsframe := loadSettings_frame (undirtied u)
  rw [show loadedSettings (undirtied u) = loadedSettings u from loadedSettings_congr rfl] at hset
  rw [show judged (undirtied u) recSettings = judged u recSettings from judged_congr rfl recSettings] at hsdirty
  unfold loadRecords
  generalize loadSettings (undirtied u) = a at hset hsmarks hsdirty hsframe
  have hastored : a.sto.stored = u.sto.stored := hsmarks.stored
  have htframe := loadTables_frame a
  have htcal : (loadTables a).cal = tab 10 (loadedCalibration u) := by rw [← loadedCalibration_congr hastored]; rfl
  have htkeys : (loadTables a).prf.keys = tab 4 (loadedKey u) := by rw [← loadedKey_congr hastored]; rfl
  have htfilters : (loadTables a).his.filters = tab 6 (loadedFilter u) := by rw [← loadedFilter_congr hastored]; rfl
  have htseen : (loadTables a).his.seen = tab 32 (loadedSeen u) := by rw [← loadedSeen_congr hastored]; rfl
  have htretired : (loadTables a).his.retired = tab 64 (loadedRetired u) := by rw [← loadedRetired_congr hastored]; rfl
  generalize loadTables a = b at htframe htcal htkeys htfilters htseen htretired
  have hbsto : b.sto = a.sto := htframe .sto (by decide)
  have hbstored : b.sto.stored = u.sto.stored := by rw [hbsto]; exact hastored
  obtain ⟨hlblank, hlbad, hlgood, hldirty⟩ := loadLocks_spec b
  have hlmarks := loadLocks_marks b
  have hlframe := loadLocks_frame b
  have hjudged : judged b recLocks = judged u recLocks := judged_congr hbstored recLocks
  rw [hjudged] at hlblank hlbad hlgood
  rw [hbstored] at hlgood
  have hlmarked : LocksMarked b b.cal ↔ LocksMarked u b.cal := by rw [LocksMarked, LocksMarked, hjudged, hbstored]
  generalize loadLocks b = c at hlblank hlbad hlgood hldirty hlmarks hlframe
  obtain ⟨hhis, hhmarks, hhdirty⟩ := loadHistory_spec c
  have hhframe := loadHistory_frame c
  generalize loadHistory c = d at hhis hhmarks hhdirty hhframe
  have hchis : c.his = b.his := hlframe .his (by decide)
  have hdcal : d.cal = b.cal := by rw [hhframe .cal (by decide), hlframe .cal (by decide)]
  have hdlocks : d.locks = c.locks := hhframe .locks (by decide)
  have hcseen : c.his.seen = tab 32 (loadedSeen u) := by rw [hchis]; exact htseen
  have hcretired : c.his.retired = tab 64 (loadedRetired u) := by rw [hchis]; exact htretired
  refine ⟨⟨?_, hdcal.trans htcal, ?_, ?_, ?_, ?_, ?_, ?_, ?_, ?_, ?_, fun r => ?_⟩, ?_⟩
  · rw [hhframe .settings (by decide), hlframe .settings (by decide), htframe .settings (by decide)]; exact hset
  · rw [hhframe .prf (by decide), hlframe .prf (by decide)]; exact htkeys
  · rw [hhis]
    exact (congrArg His.filters hchis).trans htfilters
  · rw [hdlocks]; exact hlblank
  · rw [hdlocks, hdcal]; exact hlbad
  · rw [hdlocks, hdcal]; exact hlgood
  · rw [hhis, ← hcseen]; rfl
  · rw [hhis, ← hcretired]; rfl
  · rw [hhis, ← hcseen]; rfl
  · rw [hhis, ← hcretired]; rfl
  · have hmarks := (hsdirty.trans (hldirty.of_dirty (s' := a) (by rw [hbsto]))).trans hhdirty r
    simp only [hcseen, hcretired, tab_get, hlmarked] at hmarks
    rw [hmarks, or_iff_right (undirtied_dirty u r), LoadMarked, hdcal]
    exact or_assoc
  · exact (MarksOnly.trans (s := u) (t := undirtied u) rfl hsmarks).trans ((MarksOnly.of_sto hbsto).trans (hlmarks.trans hhmarks))

/-- What the load took stands as long as none of the parts that hold it changes. -/
theorem LoadedFrom.of_frame {u s t : State} {ps : List Part} (h : LoadedFrom u s) (hf : OnlyChanges ps s t)
    (hp : ∀ p ∈ [Part.settings, .cal, .his, .locks], p ∉ ps) (hk : t.prf.keys = s.prf.keys) (hd : t.sto.dirty = s.sto.dirty) : LoadedFrom u t := by
  have hset : t.settings = s.settings := hf .settings (hp _ (by decide))
  have hcal : t.cal = s.cal := hf .cal (hp _ (by decide))
  have hhis : t.his = s.his := hf .his (hp _ (by decide))
  have hlocks : t.locks = s.locks := hf .locks (hp _ (by decide))
  obtain ⟨h1, h2, h3, h4, h5, h6, h7, h8, h9, h10, h11, h12⟩ := h
  refine ⟨hset.trans h1, hcal.trans h2, hk.trans h3, ?_, ?_, ?_, ?_, ?_, ?_, ?_, ?_, fun r => ?_⟩
  · rw [hhis]; exact h4
  · rw [hlocks]; exact h5
  · rw [hlocks, hcal]; exact h6
  · rw [hlocks, hcal]; exact h7
  · rw [hhis]; exact h8
  · rw [hhis]; exact h9
  · rw [hhis]; exact h10
  · rw [hhis]; exact h11
  · rw [hd, h12 r, LoadMarked, LoadMarked, hcal, hhis]

/-! ### Events kept in the queue (R160) -/

/-- From `s` to `t` the events among the first 23 keep their places. -/
def EventsKept (s t : State) : Prop :=
  ∀ i < 23, ∀ x, s.sysp.events[i]? = some x → x.kind ≠ .overflow → t.sysp.events[i]? = some x

theorem EventsKept.refl (s : State) : EventsKept s s := fun _ _ _ h _ => h

theorem EventsKept.trans {s t u : State} (h : EventsKept s t) (k : EventsKept t u) : EventsKept s u :=
  fun i hi x hx hk => k i hi x (h i hi x hx hk) hk

theorem EventsKept.of_sysp {s t : State} (h : t.sysp = s.sysp) : EventsKept s t := fun i _ x hx _ => by rw [h]; exact hx

theorem takeEvent_kept {q : List Event} {e x : Event} {i : Nat} (hi : i < 23) (h : q[i]? = some x) (hk : x.kind ≠ .overflow) :
    (takeEvent q e).1[i]? = some x := by
  obtain ⟨hlt, -⟩ := List.getElem?_eq_some_iff.1 h
  unfold takeEvent
  split
  · rw [List.getElem?_map, h, Option.map_some, bumpOverflow, if_neg hk]
  · split
    · rw [List.getElem?_append_left hlt]; exact h
    · next hlen =>
      have hd : i < q.dropLast.length := by rw [List.length_dropLast]; omega
      rw [List.getElem?_append_left hd, List.getElem?_dropLast, if_pos (by omega)]
      exact h

theorem postEvent_kept (s : State) (k : EventKind) (n c : Byte) (v : Option Word) : EventsKept s (postEvent s k n c v) :=
  fun _ hi _ h hk => takeEvent_kept hi h hk

theorem moveSlot_eventsKept (s : State) (n : SlotId) (st : SlotState) : EventsKept s (moveSlot s n st) :=
  (postEvent_kept s _ _ _ _).trans (.of_sysp (moveSlot_sysp s n st))

/-! ### PFAIL_N sampled (R182, R185) -/

theorem trigger_none {s : State} {n : SlotId} (h : s.accounts[n] = none) : trigger s n = s := by
  have hdue : triggerDue s n = false := by
    unfold triggerDue
    rw [h]
  exact if_neg (by rw [hdue]; nofun)

theorem forSlots_trigger_none {s : State} (h : ∀ n : SlotId, s.accounts[n] = none) : forSlots trigger s = s := by
  have hl (l : List SlotId) : l.foldl trigger s = s := by
    induction l with
    | nil => rfl
    | cons n l ih => rw [List.foldl_cons, trigger_none (h n)]; exact ih
  exact hl allSlots

theorem provisionalEntries_none {s : State} (h : ∀ n : SlotId, s.accounts[n] = none) : provisionalEntries s = s := by
  have hl (l : List SlotId) : l.foldl provisionalEntry s = s := by
    induction l with
    | nil => rfl
    | cons n l ih =>
      have hn : provisionalEntry s n = s := by
        unfold provisionalEntry
        rw [h n]
      rw [List.foldl_cons, hn]
      exact ih
  exact hl allSlots

/-- The PFAIL filter restarted (R182). -/
def filtering (s : State) : State := { s with sto := { s.sto with filter := startTimer s (pfailWindow s.lines.pfailN) } }

theorem samplePfail_high {s : State} (h : s.lines.pfailN = true) : samplePfail s = filtering s := by
  rw [samplePfail_eq, if_pos h]
  rfl

theorem samplePfail_low {s : State} (h : s.lines.pfailN = false) : samplePfail s = assertPfail (filtering s) := by
  rw [samplePfail_eq, if_neg (by rw [h]; nofun)]
  rfl

/-- What the sample of PFAIL_N leaves, with nothing open, nothing on the bus and every gate low. -/
structure PfailSampled (s v : State) : Prop where
  frame : OnlyChanges [.sto, .engp, .cbc, .sysp] s v
  sto : v.sto = { s.sto with
    filter := ⟨s.clock, if s.lines.pfailN then 1000 else 5⟩
    power := if s.lines.pfailN = true then .normal else if anyDirty s then .flushingStore else .flushed }
  cbc : v.cbc = { s.cbc with flush := !s.lines.pfailN }
  gates : ∀ n : SlotId, v.engp.gates[n] = false
  events : EventsKept s v

theorem storeFlushed_kept (s : State) : EventsKept s (storeFlushed s) :=
  (postEvent_kept s .flushDone noSlot 0 none).trans (.of_sysp rfl)

theorem storeFlushCheck_storing {s : State} (hw : s.sto.writer = none) :
    (storeFlushCheck (storing s)).sto = { s.sto with power := if anyDirty s then .flushingStore else .flushed } ∧
      EventsKept s (storeFlushCheck (storing s)) := by
  have hdirty : anyDirty (storing s) = anyDirty s := rfl
  unfold storeFlushCheck
  cases hd : anyDirty s with
  | true =>
    rw [if_neg fun h => by rw [hdirty, hd] at h; cases h.2.2]
    exact ⟨rfl, .of_sysp rfl⟩
  | false =>
    have hwr : (storing s).sto.writer.isNone = true := by show s.sto.writer.isNone = true; rw [hw]; rfl
    rw [if_pos ⟨rfl, hwr, hdirty.trans hd⟩]
    exact ⟨rfl, (EventsKept.of_sysp (t := storing s) rfl).trans (storeFlushed_kept _)⟩

theorem warned_facts (s : State) : OnlyChanges [.sto, .engp, .cbc] s (warned s) ∧
    (warned s).sto = { s.sto with power := .flushingBus } ∧ (warned s).cbc = { s.cbc with flush := true } ∧
    ∀ n : SlotId, (warned s).engp.gates[n] = false := by
  refine ⟨(((sto_frame s _).mono (by decide)).trans ((reevalGates_frame _).mono (by decide))).trans ((cbc_frame _ _).mono (by decide)),
    rfl, rfl, fun n => ?_⟩
  show (tab 10 (gateCondition { s with sto := { s.sto with power := .flushingBus } }))[n] = false
  rw [tab_get, gateCondition]
  have hp : pfailAsserted { s with sto := { s.sto with power := .flushingBus } } = true := rfl
  rw [hp, Bool.not_true, Bool.and_false, Bool.false_and, Bool.false_and]

theorem pfailSampled {s : State} (ha : ∀ n : SlotId, s.accounts[n] = none) (hl : s.cbc.line = none) (hq : s.cbc.queue = [])
    (hf : s.cbc.flush = false) (hw : s.sto.writer = none) (hp : s.sto.power = .normal) (hg : ∀ n : SlotId, s.engp.gates[n] = false) :
    PfailSampled s (samplePfail s) := by
  have hfilter : (filtering s).sto = { s.sto with filter := ⟨s.clock, if s.lines.pfailN then 1000 else 5⟩ } := rfl
  have hframe : OnlyChanges [.sto] s (filtering s) := sto_frame s _
  cases hn : s.lines.pfailN with
  | true =>
    rw [samplePfail_high hn]
    refine ⟨hframe.mono (by decide), ?_, ?_, hg, .of_sysp rfl⟩
    · rw [hn]
      show (filtering s).sto = _
      rw [hfilter, hn, ← hp]
      rfl
    · rw [hn, Bool.not_true, ← hf]
      rfl
  | false =>
    rw [samplePfail_low hn]
    have hfsysp : (filtering s).sysp = s.sysp := rfl
    have hfcbc : (filtering s).cbc = s.cbc := rfl
    have hfacc : (filtering s).accounts = s.accounts := rfl
    have hfdirty : anyDirty (filtering s) = anyDirty s := rfl
    generalize filtering s = x at *
    obtain ⟨hwframe, hwsto, hwcbc, hwgates⟩ := warned_facts x
    have hwdirty : anyDirty (warned x) = anyDirty s := by
      rw [← hfdirty, anyDirty, anyDirty, hwsto]
    rw [assertPfail_eq]
    generalize warned x = y at *
    have hya (n : SlotId) : y.accounts[n] = none := by rw [hwframe .accounts (by decide), hfacc]; exact ha n
    have hout : addUsedOutstanding y = false := by
      unfold addUsedOutstanding
      rw [hwcbc, hfcbc]
      dsimp only
      rw [hl, hq]
      rfl
    rw [forSlots_trigger_none hya, drainCheck_eq, if_pos ⟨by rw [hwsto], hout⟩, provisionalEntries_none hya]
    have hyw : y.sto.writer = none := by rw [hwsto, hfilter]; exact hw
    obtain ⟨hsto, hkept⟩ := storeFlushCheck_storing hyw
    have hsframe : OnlyChanges [.sto, .sysp] y (storeFlushCheck (storing y)) :=
      ((storing_frame y).mono (by decide)).trans (storeFlushCheck_frame _)
    generalize storeFlushCheck (storing y) = z at hsto hkept hsframe
    refine ⟨((hframe.mono (by decide)).trans (hwframe.mono (by decide))).trans (hsframe.mono (by decide)), ?_, ?_, fun n => ?_, ?_⟩
    · rw [hsto, hwdirty, hwsto, hfilter, hn]
      rfl
    · rw [hsframe .cbc (by decide), hwcbc, hfcbc, hn]
      rfl
    · rw [hsframe .engp (by decide)]; exact hwgates n
    · have hxy : y.sysp = s.sysp := (hwframe .sysp (by decide)).trans hfsysp
      exact (EventsKept.of_sysp hxy).trans hkept

/-! ### The slots sampled in slot order (R23, R64) -/

/-- The slots that begin an admission at the sample. -/
def autoReads (v : State) (l : List SlotId) : List SlotId := l.filter fun n => v.lines.presence[n] && v.settings.modes[n] == .auto

/-- The transaction of the first READ_ID, its break first (R46). -/
def firstRead (n : SlotId) : Transaction := { newTransaction n (.admission .readId) [] with action := .breaking, limit := none }

/-- The bus with READ_ID asked for the slots listed, from a free line with nothing waiting (R64, R65). -/
def readsAsked (c : Cbc) : List SlotId → Cbc
  | [] => c
  | n :: l =>
    if c.flush then { c with queue := (n :: l).map (QEntry.admission · .readId) }
    else { c with line := some (firstRead n), queue := l.map (QEntry.admission · .readId) }

/-- A READ_ID joins those asked for. -/
theorem startReading_asks {x : State} {c : Cbc} {l : List SlotId} (hc : x.cbc = readsAsked c l) (hl : c.line = none) (hq : c.queue = [])
    (hb : c.breakOwed = true) (n : SlotId) :
    (startReading x n).cbc = readsAsked c (l ++ [n]) ∧ OnlyChanges [.cbc] (moveSlot x n .reading) (startReading x n) := by
  rw [startReading_eq]
  have hcbc : (moveSlot x n .reading).cbc = readsAsked c l := hc
  generalize moveSlot x n .reading = y at hcbc ⊢
  have hjoin (m : SlotId) : OnlyChanges [.cbc] y (withEntry y (.admission m .readId)) := withEntry_frame y _
  cases hf : c.flush with
  | true =>
    have hflush : y.cbc.flush = true := by
      rw [hcbc]
      cases l with
      | nil => exact hf
      | cons m l => rw [readsAsked, if_pos hf]; exact hf
    have hqueue : y.cbc.queue = l.map (QEntry.admission · .readId) := by
      rw [hcbc]
      cases l with
      | nil => exact hq
      | cons m l => rw [readsAsked, if_pos hf]
    rw [placeAdmission_flush hflush fun m ops hm => ?_]
    · refine ⟨?_, hjoin n⟩
      show { y.cbc with queue := y.cbc.queue ++ [QEntry.admission n .readId] } = _
      rw [hqueue, hcbc]
      cases l with
      | nil => rw [List.nil_append, readsAsked, readsAsked, if_pos hf]; rfl
      | cons m l => rw [List.cons_append, readsAsked, readsAsked, if_pos hf, if_pos hf]; simp
    · rw [hqueue] at hm
      obtain ⟨_, -, he⟩ := List.mem_map.1 hm
      cases he
  | false =>
    cases l with
    | nil =>
      rw [readsAsked] at hcbc
      rw [placeAdmission_free (by rw [hcbc]; exact hl) (by rw [hcbc]; exact hq) (by rw [hcbc]; exact hf)]
      refine ⟨?_, beginAttempt_frame _ _⟩
      rw [beginAttempt, if_pos (by rw [hcbc]; exact hb), List.nil_append, readsAsked, if_neg (by rw [hf]; nofun)]
      show { y.cbc with line := some (firstRead n) } = _
      rw [hcbc, List.map_nil, ← hq]
    | cons m l =>
      rw [readsAsked, if_neg (by rw [hf]; nofun)] at hcbc
      rw [placeAdmission_busy (by rw [hcbc]; rfl)]
      refine ⟨?_, hjoin n⟩
      show { y.cbc with queue := y.cbc.queue ++ [QEntry.admission n .readId] } = _
      rw [hcbc, List.cons_append, readsAsked, if_neg (by rw [hf]; nofun), List.map_append]
      rfl

/-- The state a sample takes a slot to (R4, R23). -/
def sampledState (v : State) (n : SlotId) : SlotState :=
  if v.lines.presence[n] then if v.settings.modes[n] = .auto then .reading else .seated else .vacant

/-- From `v` to `w` the slots of `l` have been sampled. -/
structure SlotsSampled (v w : State) (l : List SlotId) : Prop where
  frame : OnlyChanges [.cbc, .slots, .sysp, .engp] v w
  done : ∀ n ∈ l, w.slots[n].present = v.lines.presence[n] ∧ w.slots[n].state = sampledState v n
  rest : ∀ n ∉ l, w.slots[n] = v.slots[n]
  gates : ∀ n : SlotId, w.engp.gates[n] = false
  bus : w.cbc = readsAsked v.cbc (autoReads v l)
  events : EventsKept v w

theorem moveSlot_present (s : State) (n : SlotId) (st : SlotState) : (moveSlot s n st).slots[n].present = s.slots[n].present := by
  rw [moveSlot_same]

theorem moveSlot_gatesLow {s : State} {n : SlotId} {st : SlotState} (hst : st ≠ .ready) (h : ∀ m : SlotId, s.engp.gates[m] = false) (m : SlotId) :
    (moveSlot s n st).engp.gates[m] = false := by
  rw [moveSlot_engp_low s n hst]
  show (put s.engp.gates n false)[m] = false
  rw [put_get]
  split
  · rfl
  · exact h m

theorem autoReads_append (v : State) (l : List SlotId) (n : SlotId) :
    autoReads v (l ++ [n]) = autoReads v l ++ if v.lines.presence[n] = true ∧ v.settings.modes[n] = .auto then [n] else [] := by
  unfold autoReads
  rw [List.filter_append]
  congr 1
  by_cases h : v.lines.presence[n] = true ∧ v.settings.modes[n] = .auto
  · rw [if_pos h, List.filter_cons_of_pos (by rw [h.1, h.2]; rfl)]
    rfl
  · rw [if_neg h, List.filter_cons_of_neg (fun hb => h (by simpa using hb))]
    rfl

/-- What one sample leaves: `y` the slot once moved, `z` with its READ_ID asked for if it has one. -/
theorem SlotsSampled.step {v w y z : State} {l : List SlotId} {n : SlotId} (h : SlotsSampled v w l)
    (hf : OnlyChanges [.slots, .sysp, .engp] w y) (hz : OnlyChanges [.cbc] y z) (ho : OtherSlotsKept n w y)
    (hp : y.slots[n].present = v.lines.presence[n]) (hst : y.slots[n].state = sampledState v n)
    (hg : ∀ m : SlotId, y.engp.gates[m] = false) (hbus : z.cbc = readsAsked v.cbc (autoReads v (l ++ [n]))) (he : EventsKept w y) :
    SlotsSampled v z (l ++ [n]) := by
  have hslots : z.slots = y.slots := hz .slots (by decide)
  refine ⟨(h.frame.trans (hf.mono (by decide))).trans (hz.mono (by decide)), fun m hm => ?_, fun m hm => ?_, fun m => ?_, hbus, ?_⟩
  · rw [hslots]
    by_cases hmn : m = n
    · subst hmn; exact ⟨hp, hst⟩
    · rw [ho m hmn]
      refine h.done m ?_
      rcases List.mem_append.1 hm with hm | hm
      · exact hm
      · exact absurd (List.mem_singleton.1 hm) hmn
  · rw [hslots, ho m fun hmn => hm (List.mem_append_right _ (List.mem_singleton.2 hmn))]
    exact h.rest m fun hl => hm (List.mem_append_left _ hl)
  · rw [hz .engp (by decide)]; exact hg m
  · exact (h.events.trans he).trans (.of_sysp (hz .sysp (by decide)))

theorem sampleSlot_step {v w : State} {l : List SlotId} {n : SlotId} (h : SlotsSampled v w l) (hn : n ∉ l)
    (hreset : v.slots[n] = resetSlot) (hl : v.cbc.line = none) (hq : v.cbc.queue = []) (hb : v.cbc.breakOwed = true) :
    SlotsSampled v (sampleSlot w n) (l ++ [n]) := by
  have hreads := autoReads_append v l n
  have hlines : w.lines = v.lines := h.frame .lines (by decide)
  have hset : w.settings = v.settings := h.frame .settings (by decide)
  have hslot : w.slots[n] = resetSlot := (h.rest n hn).trans hreset
  rw [sampleSlot_eq, hlines]
  cases hpres : v.lines.presence[n] with
  | false =>
    rw [if_neg nofun]
    have hnone : autoReads v (l ++ [n]) = autoReads v l := by
      rw [hreads, hpres, if_neg fun hc => absurd hc.1 Bool.false_ne_true, List.append_nil]
    refine h.step (.refl _ w) (.refl _ w) (.refl n w) ?_ ?_ h.gates (by rw [hnone]; exact h.bus) (.refl w)
    · rw [hslot, hpres]; rfl
    · rw [hslot, sampledState, hpres]; rfl
  | true =>
    rw [if_pos rfl]
    have hsf : OnlyChanges [.slots] w (sampled w n) := modSlot_frame w n _
    have hso : OtherSlotsKept n w (sampled w n) := modSlot_others w n _
    have hsp : (sampled w n).slots[n].present = true := by rw [sampled, modSlot_same]
    have hsset : (sampled w n).settings = v.settings := (hsf .settings (by decide)).trans hset
    have hscbc : (sampled w n).cbc = readsAsked v.cbc (autoReads v l) := (hsf .cbc (by decide)).trans h.bus
    have hsg (m : SlotId) : (sampled w n).engp.gates[m] = false := by rw [hsf .engp (by decide)]; exact h.gates m
    have hse : EventsKept w (sampled w n) := .of_sysp (hsf .sysp (by decide))
    generalize sampled w n = x at *
    have hmf := hsf.mono (qs := [.slots, .sysp, .engp]) (by decide) |>.trans (moveSlot_frame x n .seated)
    have hmo := hso.trans (moveSlot_others x n .seated)
    have hmp := (moveSlot_present x n .seated).trans hsp
    have hmg := moveSlot_gatesLow (n := n) (st := .seated) nofun hsg
    have hme := hse.trans (moveSlot_eventsKept x n .seated)
    by_cases hauto : v.settings.modes[n] = .auto
    · rw [insertion_auto (by rw [hsset]; exact hauto)]
      have hmcbc : (moveSlot x n .seated).cbc = readsAsked v.cbc (autoReads v l) := hscbc
      generalize moveSlot x n .seated = y at *
      obtain ⟨hbus, hframe⟩ := startReading_asks hmcbc hl hq hb n
      rw [if_pos ⟨hpres, hauto⟩] at hreads
      rw [← hreads] at hbus
      refine h.step (hmf.trans (moveSlot_frame y n .reading)) hframe (hmo.trans (moveSlot_others y n .reading)) ?_ ?_
        (moveSlot_gatesLow (st := .reading) nofun hmg) hbus (hme.trans (moveSlot_eventsKept y n .reading))
      · rw [moveSlot_present, hmp, hpres]
      · rw [moveSlot_state, sampledState, hpres, if_pos rfl, if_pos hauto]
    · rw [insertion_seated (by rw [hsset]; exact hauto)]
      rw [if_neg fun hc => hauto hc.2, List.append_nil] at hreads
      refine h.step hmf (.refl _ _) hmo (hmp.trans hpres.symm) ?_ hmg (by rw [hreads]; exact hscbc) hme
      rw [moveSlot_state, sampledState, hpres, if_pos rfl, if_neg hauto]

theorem sampleSlots_from {v : State} (hreset : ∀ n : SlotId, v.slots[n] = resetSlot) (hl : v.cbc.line = none) (hq : v.cbc.queue = [])
    (hb : v.cbc.breakOwed = true) (r : List SlotId) {w : State} {l : List SlotId} (h : SlotsSampled v w l) (hd : (l ++ r).Nodup) :
    SlotsSampled v (r.foldl sampleSlot w) (l ++ r) := by
  induction r generalizing w l with
  | nil => rw [List.append_nil]; exact h
  | cons n r ih =>
    have hn : n ∉ l := fun hm => (List.disjoint_of_nodup_append hd) hm List.mem_cons_self
    rw [List.append_cons] at hd ⊢
    exact ih (sampleSlot_step h hn (hreset n) hl hq hb) hd

/-- Every slot sampled. -/
theorem sampleSlots_all {v : State} (hreset : ∀ n : SlotId, v.slots[n] = resetSlot) (hl : v.cbc.line = none) (hq : v.cbc.queue = [])
    (hb : v.cbc.breakOwed = true) (hg : ∀ n : SlotId, v.engp.gates[n] = false) : SlotsSampled v (forSlots sampleSlot v) allSlots :=
  sampleSlots_from hreset hl hq hb allSlots (l := []) ⟨.refl _ v, nofun, fun _ _ => rfl, hg, rfl, .refl v⟩ (by decide)

end Sys2Proof.Machine
end

section
/-! The state at the end of the start-up load (R176 to R179), and O60. -/

namespace Sys2Proof.Machine

/-- The write a reset met under way is at its end before its record is read (R179). -/
theorem endCarried_eq_loadState (s : State) : endCarried s = loadState s := by
  unfold endCarried loadState
  cases s.sto.carried <;> rfl

theorem setPhase_frame (s : State) (p : Phase) : OnlyChanges [.phase] s { s with phase := p } := by
  intro q hq
  cases q <;> first | rfl | exact (hq (by decide)).elim

theorem loadState_frame (s : State) : OnlyChanges [.sto] s (loadState s) := by
  rw [← endCarried_eq_loadState]; exact endCarried_frame s

/-- Ending the carried write leaves the writer and the power state. -/
theorem loadState_sto (s : State) : (loadState s).sto.writer = s.sto.writer ∧ (loadState s).sto.power = s.sto.power := by
  unfold loadState
  split <;> exact ⟨rfl, rfl⟩

/-- What the full reset leaves that the load meets. -/
structure MeetsLoad (s : State) : Prop where
  phase : s.phase = .loading
  writer : s.sto.writer = none
  power : s.sto.power = .normal
  sysp : s.sysp = State.reset.sysp
  line : s.cbc.line = none
  queue : s.cbc.queue = []
  breakOwed : s.cbc.breakOwed = true
  flush : s.cbc.flush = false
  slots : s.slots = State.reset.slots
  accounts : s.accounts = State.reset.accounts
  engp : s.engp = State.reset.engp

/-- What the load leaves of `s`, before PFAIL_N and the slots are sampled. -/
theorem loaded_spec {s : State} (hs : s.sysp = State.reset.sysp) :
    LoadedFrom (loadState s) (loaded s) ∧ MarksOnly (loadState s) (loaded s) ∧
      OnlyChanges [.settings, .sto, .cal, .prf, .his, .locks, .sysp, .phase] s (loaded s) ∧ (loaded s).phase = .running ∧
      (loaded s).sysp.events =
        loadEvents (loadedSettings (loadState s)).isNone (recordsJudged (judged (loadState s)) .bad).length := by
  have hframe := loadState_frame s
  unfold loaded
  rw [endCarried_eq_loadState, startUpLoad_eq]
  generalize loadState s = u at hframe ⊢
  obtain ⟨hload, hmarks⟩ := loadRecords_spec u
  have hrframe := (hframe.mono (qs := [.settings, .sto, .cal, .prf, .his, .locks]) (by decide)).trans (loadRecords_frame u)
  generalize loadRecords u = r at hload hmarks hrframe ⊢
  have hevents := postLoadEvents_events ((hrframe .sysp (by decide)).trans hs) (loadedSettings u).isNone (recordsJudged (judged u) .bad).length
  have hpframe := postLoadEvents_frame r (loadedSettings u).isNone (recordsJudged (judged u) .bad).length
  generalize postLoadEvents r (loadedSettings u).isNone (recordsJudged (judged u) .bad).length = p at hevents hpframe ⊢
  have hsto : p.sto = r.sto := hpframe .sto (by decide)
  refine ⟨?_, ?_, ?_, rfl, hevents⟩
  · exact (hload.of_frame hpframe (by decide) (by rw [hpframe .prf (by decide)]) (by rw [hsto])).of_frame (setPhase_frame p _) (by decide) rfl rfl
  · exact hmarks.trans (MarksOnly.of_sto hsto)
  · exact ((hrframe.mono (by decide)).trans (hpframe.mono (by decide))).trans ((setPhase_frame p _).mono (by decide))

/-- The state in which service begins. -/
structure LoadDone (s u t : State) : Prop where
  phase : t.phase = .running
  loaded : LoadedFrom u t
  stored : t.sto.stored = u.sto.stored
  events : ∀ i < 23, ∀ x, (loadEvents (loadedSettings u).isNone (recordsJudged (judged u) .bad).length)[i]? = some x →
    x.kind ≠ .overflow → t.sysp.events[i]? = some x
  bus : t.cbc = readsAsked { s.cbc with flush := !s.lines.pfailN }
    (allSlots.filter fun n => s.lines.presence[n] && t.settings.modes[n] == .auto)
  filter : t.sto.filter = ⟨s.clock, if s.lines.pfailN then 1000 else 5⟩
  power : t.sto.power = if s.lines.pfailN = true then .normal else if anyDirty t then .flushingStore else .flushed
  gates : ∀ n : SlotId, t.engp.gates[n] = false
  accounts : ∀ n : SlotId, t.accounts[n] = none
  slots : ∀ n : SlotId, t.slots[n].present = s.lines.presence[n] ∧
    t.slots[n].state = if s.lines.presence[n] then if t.settings.modes[n] = .auto then .reading else .seated else .vacant

theorem finishLoad_done {s : State} (hs : MeetsLoad s) : LoadDone s (loadState s) (finishLoad s) := by
  obtain ⟨hload, hmarks, hframe, hphase, hevents⟩ := loaded_spec hs.sysp
  obtain ⟨hwriter, hpower⟩ := loadState_sto s
  rw [finishLoad_eq]
  generalize loaded s = x at *
  generalize loadState s = u at *
  have hcbc : x.cbc = s.cbc := hframe .cbc (by decide)
  have hlines : x.lines = s.lines := hframe .lines (by decide)
  have hengp : x.engp = State.reset.engp := (hframe .engp (by decide)).trans hs.engp
  have haccs : x.accounts = State.reset.accounts := (hframe .accounts (by decide)).trans hs.accounts
  have hacc (n : SlotId) : x.accounts[n] = none := by rw [haccs]; exact reset_account n
  have hgates (n : SlotId) : x.engp.gates[n] = false := by rw [hengp]; show (Vector.replicate 10 false)[n] = false; simp
  have hxw : x.sto.writer = none := by rw [hmarks]; exact hwriter.trans hs.writer
  have hxp : x.sto.power = .normal := by rw [hmarks]; exact hpower.trans hs.power
  obtain ⟨vframe, vsto, vcbc, vgates, vevents⟩ := pfailSampled hacc (by rw [hcbc]; exact hs.line) (by rw [hcbc]; exact hs.queue)
    (by rw [hcbc]; exact hs.flush) hxw hxp hgates
  generalize samplePfail x = v at *
  have vslots (n : SlotId) : v.slots[n] = resetSlot := by
    rw [vframe .slots (by decide), hframe .slots (by decide), hs.slots]; exact reset_slot n
  obtain ⟨tframe, tdone, -, tgates, tbus, tevents⟩ := sampleSlots_all vslots (by rw [vcbc, hcbc]; exact hs.line)
    (by rw [vcbc, hcbc]; exact hs.queue) (by rw [vcbc, hcbc]; exact hs.breakOwed) vgates
  generalize forSlots sampleSlot v = t at *
  have tsto : t.sto = v.sto := tframe .sto (by decide)
  have tset : t.settings = v.settings := tframe .settings (by decide)
  have hlinesV : v.lines = s.lines := (vframe .lines (by decide)).trans hlines
  have hdirty : t.sto.dirty = x.sto.dirty := by rw [tsto, vsto]
  have hxt := (vframe.mono (qs := [.sto, .engp, .cbc, .sysp, .slots]) (by decide)).trans (tframe.mono (by decide))
  refine ⟨?_, ?_, ?_, ?_, ?_, ?_, ?_, tgates, ?_, fun n => ?_⟩
  · rw [hxt .phase (by decide)]; exact hphase
  · exact hload.of_frame hxt (by decide) (by rw [hxt .prf (by decide)]) hdirty
  · rw [tsto, vsto]; exact hmarks.stored
  · intro i hi e he hk
    rw [← hevents] at he
    exact (vevents.trans tevents) i hi e he hk
  · rw [tbus, vcbc, hcbc, hlines, tset, autoReads, hlinesV]
  · rw [tsto, vsto, hlines]
    rw [hframe .clock (by decide)]
  · rw [anyDirty, hdirty, ← anyDirty, tsto, vsto, hlines]
  · intro n
    rw [hxt .accounts (by decide)]; exact hacc n
  · obtain ⟨hp, hst⟩ := tdone n (mem_allSlots n)
    rw [sampledState, hlinesV] at hst
    rw [hlinesV] at hp
    rw [tset]
    exact ⟨hp, hst⟩

/-! ### The bus at the start of service -/

/-- What READ_ID asked for leaves of the bus (R46, R64, R65). -/
theorem readsAsked_spec {c : Cbc} (hl : c.line = none) (hq : c.queue = []) (l : List SlotId) :
    (readsAsked c l).breakOwed = c.breakOwed ∧ (readsAsked c l).idle = c.idle ∧ (readsAsked c l).backoff = c.backoff ∧
      (readsAsked c l).flush = c.flush ∧ (∀ tx, (readsAsked c l).line = some tx → tx.action = .breaking) ∧
      (c.flush = true ∨ l = [] → (readsAsked c l).line = none ∧ (readsAsked c l).queue = l.map fun n => .admission n .readId) ∧
      ∀ (n : SlotId) (r : List SlotId), c.flush = false → l = n :: r →
        (readsAsked c l).line = some (firstRead n) ∧ (readsAsked c l).queue = r.map fun m => .admission m .readId := by
  cases l with
  | nil =>
    rw [readsAsked]
    refine ⟨rfl, rfl, rfl, rfl, fun tx h => ?_, fun _ => ⟨hl, hq⟩, fun _ _ _ h => nomatch h⟩
    rw [hl] at h; cases h
  | cons n l =>
    rw [readsAsked]
    cases hf : c.flush with
    | true =>
      rw [if_pos rfl]
      refine ⟨rfl, rfl, rfl, rfl, fun tx h => ?_, fun _ => ⟨hl, rfl⟩, fun _ _ h => nomatch h⟩
      rw [show c.line = some tx from h] at hl; cases hl
    | false =>
      rw [if_neg nofun]
      refine ⟨rfl, rfl, rfl, rfl, fun tx h => ?_, fun h => h.elim nofun nofun, fun m r _ h => ?_⟩
      · obtain rfl : firstRead n = tx := Option.some.inj h
        rfl
      · cases h
        exact ⟨rfl, rfl⟩

theorem begun_of_firstRead {t : State} {n : SlotId} (h : t.cbc.line = some (firstRead n)) : Begun t n (.admission .readId) [] :=
  ⟨firstRead n, h, rfl, rfl, rfl, rfl, rfl, rfl⟩

/-! ### O60 -/

section
variable {s u t : State}

theorem LoadedFrom.calibration (h : LoadedFrom u t) (n : SlotId) : t.cal[n] = loadedCalibration u n := by
  rw [h.cal]; exact tab_get _ n

/-- The seen list loaded (R147). -/
theorem LoadedFrom.seen_spec (h : LoadedFrom u t) (p : Fin 32) :
    (loadedSeen u p = none → t.his.seen[p] = none) ∧
      ∀ x : SeenEntry, loadedSeen u p = some x →
        ((∀ (q : Fin 32) (y : SeenEntry), q ≠ p → loadedSeen u q = some y → y.serial = x.serial → y.stamp < x.stamp) → t.his.seen[p] = some x) ∧
        ((∃ (q : Fin 32) (y : SeenEntry), loadedSeen u q = some y ∧ y.serial = x.serial ∧ x.stamp < y.stamp) → t.his.seen[p] = none) ∧
        (t.his.seen[p] = some x ∨ t.his.seen[p] = none) ∧ x.stamp < t.his.stamp := by
  have hget (q : Fin 32) : (tab 32 (loadedSeen u))[q] = loadedSeen u q := tab_get _ q
  obtain ⟨hnone, hsome⟩ := withoutDuplicates_spec (serial := SeenEntry.serial) (num := SeenEntry.stamp) (t := tab 32 (loadedSeen u)) p
  simp only [← h.seen, hget] at hnone hsome
  refine ⟨hnone, fun x hx => ?_⟩
  obtain ⟨hkeep, hdrop, hor⟩ := hsome x hx
  exact ⟨hkeep, hdrop, hor, by rw [h.stamp]; exact lt_nextNumber ((hget p).trans hx)⟩

/-- The retired list loaded (R147). -/
theorem LoadedFrom.retired_spec (h : LoadedFrom u t) (p : Fin 64) :
    (loadedRetired u p = none → t.his.retired[p] = none) ∧
      ∀ x : RetiredEntry, loadedRetired u p = some x →
        ((∀ (q : Fin 64) (y : RetiredEntry), q ≠ p → loadedRetired u q = some y → y.serial = x.serial → y.number < x.number) →
          t.his.retired[p] = some x) ∧
        ((∃ (q : Fin 64) (y : RetiredEntry), loadedRetired u q = some y ∧ y.serial = x.serial ∧ x.number < y.number) → t.his.retired[p] = none) ∧
        (t.his.retired[p] = some x ∨ t.his.retired[p] = none) ∧ x.number < t.his.retire := by
  have hget (q : Fin 64) : (tab 64 (loadedRetired u))[q] = loadedRetired u q := tab_get _ q
  obtain ⟨hnone, hsome⟩ := withoutDuplicates_spec (serial := RetiredEntry.serial) (num := RetiredEntry.number) (t := tab 64 (loadedRetired u)) p
  simp only [← h.retired, hget] at hnone hsome
  refine ⟨hnone, fun x hx => ?_⟩
  obtain ⟨hkeep, hdrop, hor⟩ := hsome x hx
  exact ⟨hkeep, hdrop, hor, by rw [h.retire]; exact lt_nextNumber ((hget p).trans hx)⟩

theorem LoadedFrom.stamp_attained (h : LoadedFrom u t) :
    t.his.stamp = 1 ∨ ∃ (p : Fin 32) (x : SeenEntry), loadedSeen u p = some x ∧ t.his.stamp = x.stamp + 1 := by
  rw [h.stamp]
  refine (nextNumber_attained SeenEntry.stamp _).imp_right fun ⟨p, x, hx, hn⟩ => ⟨p, x, ?_, hn⟩
  rw [tab_get] at hx
  exact hx

theorem LoadedFrom.retire_attained (h : LoadedFrom u t) :
    t.his.retire = 1 ∨ ∃ (p : Fin 64) (x : RetiredEntry), loadedRetired u p = some x ∧ t.his.retire = x.number + 1 := by
  rw [h.retire]
  refine (nextNumber_attained RetiredEntry.number _).imp_right fun ⟨p, x, hx, hn⟩ => ⟨p, x, ?_, hn⟩
  rw [tab_get] at hx
  exact hx

/-- A settings record that is good is the settings (R176). -/
theorem LoadedFrom.settings_written (h : LoadedFrom u t) {x : SettingsImage} {k : Half}
    (hw : u.sto.stored[recSettings] = .written (.settings x) k) (hg : judged u recSettings = .good) : readSettings x = some t.settings := by
  obtain ⟨y, hy⟩ := Option.isSome_iff_exists.1 ((loadedSettings_good u).2 hg)
  rw [h.settings, hy, ← loadedSettings_written hw hg, hy]
  rfl

/-- The events of the load, at the head of the queue (R178). -/
theorem LoadDone.firstEvents (h : LoadDone s u t) :
    (judged u recSettings ≠ .good → t.sysp.events.head? = some ⟨0, .settingsDefaulted, 15, 0, none⟩) ∧
      (judged u recSettings = .good → (recordsJudged (judged u) .bad).length ≠ 0 →
        t.sysp.events.head? = some ⟨0, .storeFault, 15, 0, some (BitVec.ofNat 32 (recordsJudged (judged u) .bad).length)⟩) ∧
      (judged u recSettings ≠ .good → (recordsJudged (judged u) .bad).length ≠ 0 →
        t.sysp.events[1]? = some ⟨1, .storeFault, 15, 0, some (BitVec.ofNat 32 (recordsJudged (judged u) .bad).length)⟩) := by
  have hevents := h.events
  have hgood := loadedSettings_good u
  generalize (recordsJudged (judged u) .bad).length = bad at *
  rw [List.head?_eq_getElem?]
  have hnone (hb : judged u recSettings ≠ .good) : (loadedSettings u).isNone = true := by
    rw [loadedSettings_bad hb]; rfl
  refine ⟨fun hb => ?_, fun hg hn => ?_, fun hb hn => ?_⟩
  · rw [hnone hb] at hevents
    exact hevents 0 (by decide) _ rfl nofun
  · rw [Option.isNone_eq_false_iff.2 (hgood.2 hg)] at hevents
    refine hevents 0 (by decide) _ ?_ (by simp)
    rw [loadEvents, if_pos (Nat.pos_of_ne_zero hn)]
    rfl
  · rw [hnone hb] at hevents
    refine hevents 1 (by decide) _ ?_ (by simp)
    rw [loadEvents, if_pos (Nat.pos_of_ne_zero hn)]
    rfl

end

/-- Settles O60. -/
theorem theLoadTakesTheGoodRecords : Obligations.TheLoadTakesTheGoodRecords := by
  intro s hphase hwriter hpower hsysp hline hqueue hbreak hflush hslots haccounts hengp u
  have hd : LoadDone s u (finishLoad s) :=
    finishLoad_done ⟨hphase, hwriter, hpower, hsysp, hline, hqueue, hbreak, hflush, hslots, haccounts, hengp⟩
  refine ⟨finishLoad s, congrArg Host.Outcome.next (if_pos hphase), ?_⟩
  have hl := hd.loaded
  obtain ⟨hev0, hev0', hev1⟩ := hd.firstEvents
  obtain ⟨hbreak', hidle, hbackoff, hflush', haction, hquiet, hbusy⟩ :=
    readsAsked_spec (c := { s.cbc with flush := !s.lines.pfailN }) hline hqueue
      (allSlots.filter fun n => s.lines.presence[n] && (finishLoad s).settings.modes[n] == .auto)
  rw [← hd.bus] at hbreak' hidle hbackoff hflush' haction hquiet hbusy
  generalize finishLoad s = t at *
  clear_value u
  refine ⟨hd.phase, hd.stored, loadedSettings_good u, hl.settings, fun x k hw hg => readSettings_some (hl.settings_written hw hg),
    fun n => ?_, fun k => ?_, fun e => ?_, hl.locksBlank, hl.locksBad, hl.locksGood, fun p => ?_, hl.stamp_attained, fun p => ?_,
    hl.retire_attained, hl.dirty, hev0, hev0', hev1, rfl, rfl, hbreak'.trans hbreak, hidle, hbackoff, haction, hd.filter, hflush', hd.power,
    fun n => ⟨hd.gates n, hd.accounts n, hd.slots n⟩, fun hr => hquiet (hr.imp_left fun hp => by rw [hp]; rfl), fun n r hp hr => ?_⟩
  · rw [hl.calibration]
    exact ⟨loadedCalibration_valid u n, fun vS vM vL kappa k hw hv => loadedCalibration_written hw ((loadedCalibration_valid u n).1 hv)⟩
  · rw [hl.keys, tab_get]
    exact ⟨loadedKey_bad, fun v c => loadedKey_written⟩
  · rw [hl.filters, tab_get]
    exact ⟨loadedFilter_bad, fun x k => loadedFilter_written⟩
  · exact ⟨loadedSeen_bad, fun k => loadedSeen_empty, fun x k => loadedSeen_written, hl.seen_spec p⟩
  · exact ⟨loadedRetired_bad, fun k => loadedRetired_empty, fun x k => loadedRetired_written, hl.retired_spec p⟩
  · obtain ⟨hbegun, hwaiting⟩ := hbusy n r (by rw [hp]; rfl) hr
    exact ⟨hwaiting, begun_of_firstRead hbegun⟩

end Sys2Proof.Machine
end

section
/-! The digest engine's start (R33 to R35), the attempt after a failure (R46, R58; O34), and the digests of a proof (R36; O39). -/

namespace Sys2Proof.Machine

/-! ### A challenge built (R33, R34) -/

/-- The challenge PRF builds next: eight bytes of a fresh draw, then the sequence number (R33). -/
def nextChallenge (s : State) : BitVec 96 := Config.randomBytes s.draws ++ s.prf.seqNo

/-- The sequence number and the random bytes of a challenge are used up, and the proof context becomes `ctx` (R33, R34). -/
def challenged (s : State) (ctx : ProofContext) (digest : Option Digest) : State :=
  { s with prf := { s.prf with seqNo := s.prf.seqNo + 1, ctx := ctx, digest := digest }, draws := s.draws + 1 }

theorem challenged_frame (s : State) (ctx : ProofContext) (digest : Option Digest) :
    OnlyChanges [.prf, .draws] s (challenged s ctx digest) := by
  intro p hp; cases p <;> first | rfl | exact (hp (by decide)).elim

/-- The proof context bound to a slot whose first challenge is `c` (R34). -/
def boundContext (n : SlotId) (c : BitVec 96) : ProofContext :=
  { freeContext with slot := some n, phase := .awaitingReply, challenge := some c, derivedKey := .computing }

/-- The first attempt's challenge binds the context to the slot, and the derived key digest begins (R34, R35). -/
theorem startChallenge_first {s : State} {n : SlotId} {id : IdRecord} (h : s.prf.identity[n] = some id) :
    startChallenge s n true = some (challengeBytes (nextChallenge s),
      challenged s (boundContext n (nextChallenge s)) (some (derivedKeyDigest s id))) := by
  unfold startChallenge
  rw [h]
  rfl

/-- A later attempt's challenge takes the place of the one before, and the derived key stays (R34). -/
theorem startChallenge_again {s : State} {n : SlotId} {id : IdRecord} (h : s.prf.identity[n] = some id) :
    startChallenge s n false = some (challengeBytes (nextChallenge s),
      challenged s { s.prf.ctx with challenge := some (nextChallenge s) } s.prf.digest) := by
  unfold startChallenge
  rw [h]
  rfl

/-! ### The attempt after a failure (R46, R49, R58) -/

/-- The transaction as its next attempt begins (R58). -/
def reattempted (tx : Transaction) : Transaction :=
  { tx with attempt := tx.attempt + 1, noted := [], deadline := none, limit := none }

theorem endAttempt_again {s : State} {tx : Transaction} (h : tx.attempt < 3) (e : BusError) :
    endAttempt s tx e = nextAttempt s (reattempted tx) := if_pos h

/-- The break that is owed comes first (R46, R50). -/
theorem beginAttempt_owed {s : State} (h : s.cbc.breakOwed = true) (tx : Transaction) :
    beginAttempt s tx = setCbc s { s.cbc with line := some { tx with action := .breaking, limit := none } } := if_pos h

theorem nextAttempt_sameBody {s : State} {tx : Transaction} (h : tx.command ≠ .admission .challenge) :
    nextAttempt s tx = beginAttempt s tx := by
  unfold nextAttempt
  split
  · next hc => exact absurd hc h
  · rfl

theorem nextAttempt_challenge {s t : State} {tx : Transaction} {body : List Byte} (hc : tx.command = .admission .challenge)
    (h : startChallenge s tx.slot false = some (body, t)) : nextAttempt s tx = beginAttempt t { tx with body := body } := by
  unfold nextAttempt
  simp only [hc, h]

/-- A first or second attempt that ends in failure is followed by the next, whatever ended it (R58). -/
theorem exec_nextAttempt {s : State} {tx : Transaction} {i : Instr} {errors : List BusError} (hr : s.phase = .running)
    (hl : s.cbc.line = some tx) (h3 : tx.attempt < 3) (h : attemptErrors i tx = some errors) :
    ∃ u, LineMoved s u ∧ u.cbc.breakOwed = true ∧ u.cbc.flush = s.cbc.flush ∧
      exec i s = .next (nextAttempt u (reattempted tx)) := by
  obtain ⟨k, hk⟩ := exec_attemptFails hr hl h
  refine ⟨oweBreak (withIdle s k), lineMoved_failing s k, rfl, rfl, hk.trans ?_⟩
  rw [failAttempt_eq, endAttempt_again h3]

/-- Settles O34: every command that ends an attempt in failure comes down to `nextAttempt` with a break owed. -/
theorem aFailedAttemptStartsTheNext : Obligations.AFailedAttemptStartsTheNext := by
  refine ⟨fun s tx i errors hr hl h3 hc h => ?_, fun s tx i errors id hr hl h3 hc h hid => ?_⟩
  · obtain ⟨u, hu, howed, hflush, hexec⟩ := exec_nextAttempt hr hl h3 h
    rw [nextAttempt_sameBody (tx := reattempted tx) hc, beginAttempt_owed howed] at hexec
    exact ⟨_, hexec, hu.frame.trans (cbc_frame u _), rfl, howed, hu.queue, hflush⟩
  · obtain ⟨u, hu, howed, -, hexec⟩ := exec_nextAttempt hr hl h3 h
    have hprf : u.prf = s.prf := hu.frame .prf (by decide)
    have hdraws : u.draws = s.draws := hu.frame .draws (by decide)
    have hchallenge : nextChallenge u = nextChallenge s := by rw [nextChallenge, nextChallenge, hprf, hdraws]
    have hstart := startChallenge_again (s := u) (n := tx.slot) (id := id) (by rw [hprf]; exact hid)
    rw [nextAttempt_challenge (tx := reattempted tx) hc hstart, beginAttempt_owed (s := challenged u _ _) howed, hchallenge] at hexec
    refine ⟨_, hexec, ?_, rfl, howed, ?_, rfl, ?_⟩
    · exact ((hu.frame.mono (by decide)).trans ((challenged_frame u _ _).mono (by decide))).trans ((cbc_frame _ _).mono (by decide))
    · exact congrArg (·.seqNo + 1) hprf
    · exact congrArg (·.ctx.derivedKey) hprf

/-! ### The first CHALLENGE of an admission (R33 to R35, R64) -/

/-- On a free line with nothing waiting, in normal service, the CHALLENGE of an identified slot begins at once (R64). -/
theorem placeAdmission_challenge {s : State} {n : SlotId} {id : IdRecord} (hl : s.cbc.line = none) (hq : s.cbc.queue = [])
    (hf : s.cbc.flush = false) (hid : s.prf.identity[n] = some id) :
    placeAdmission s n .challenge = beginAttempt
      (challenged s (boundContext n (nextChallenge s)) (some (derivedKeyDigest s id)))
      (newTransaction n (.admission .challenge) (challengeBytes (nextChallenge s))) := by
  have hs : setCbc s { s.cbc with queue := [] } = s := by
    obtain ⟨_, _, _, _, _, _, ⟨_, _, _, _, _, _⟩, _⟩ := s
    cases hq; rfl
  unfold placeAdmission joinQueue arbitrate
  rw [hq]
  show arbitrateUpTo 1 _ = _
  rw [arbitrateUpTo, if_neg (by rw [hl]; decide), hf]
  show startTransaction (setCbc s { s.cbc with queue := [] }) n (.admission .challenge) = _
  rw [hs]
  simp only [startTransaction, startChallenge_first hid]

/-- The master key of an index that names a LOADED key slot (R35). -/
theorem masterKey_loaded {s : State} {id : IdRecord} {k : Fin 4} {master : BitVec 128} (hk : id.keyIndex.toNat = k.val)
    (h : s.prf.keys[k] = some master) : masterKey s id = master := by
  have hlt : id.keyIndex.toNat < 4 := by omega
  have hget : s.prf.keys[id.keyIndex.toNat] = some master := by
    simp only [hk]
    exact h
  rw [masterKey, dif_pos hlt, hget, Option.getD_some]

/-- The line once the block of a slot has passed and nothing else waits: the CHALLENGE begins as the READ_ID leaves (R59, R64). -/
theorem leaveLine_challenges {v : State} {n : SlotId} {id : IdRecord} (hq : v.cbc.queue = []) (hf : v.cbc.flush = false)
    (hid : v.prf.identity[n] = some id) :
    let t := leaveLine (withEntry v (.admission n .challenge))
    t.prf.digest = some (derivedKeyDigest v id) ∧ t.prf.seqNo = v.prf.seqNo + 1 ∧
      t.prf.ctx = boundContext n (nextChallenge v) ∧
      Begun t n (.admission .challenge) (challengeBytes (nextChallenge v)) := by
  have ht : leaveLine (withEntry v (.admission n .challenge)) = drainCheck (placeAdmission (lineOff v) n .challenge) := rfl
  rw [ht, placeAdmission_challenge (s := lineOff v) rfl hq hf hid]
  dsimp only
  rw [drainCheck_frame _ .prf (by decide), beginAttempt_prf]
  exact ⟨rfl, rfl, rfl, (beginAttempt_begun _ _ _ _).of_cbc (drainCheck_cbc _)⟩

/-- A whole identity block of a READING slot is judged, and the READ_ID leaves the line (R26, R59). -/
theorem exec_readIdDone {s : State} {tx : Transaction} {address : Byte} {rest : List CbusChar} (hr : s.phase = .running)
    (hl : s.cbc.line = some tx) (hc : tx.command = .admission .readId) (ha : tx.action = .taking address)
    (he : replyErrors tx address rest = []) (hs : replyStatus address = some .done) (hread : s.slots[tx.slot].state = .reading) :
    exec (.cbusReplyEnd rest) s = .next (leaveLine (judgeBlock (withIdle s 12) tx.slot (replyData rest))) := by
  rw [execCbusReplyEnd_taking hr hl ha, replyIdle_accepted he, replyEnded_accepted he hs, acceptReply,
    if_neg fun h => by rw [hc] at h; exact absurd h.1 nofun, handOver_readId hc, readIdResult_reading (s := withIdle s 12) hread, if_pos rfl]

/-! ### The digests end (R35, R36) -/

theorem exec_derivedKeyEnds {s : State} {key : BitVec 128} {message : List Byte} (hr : s.phase = .running)
    (hd : s.prf.digest = some (.derivedKey key message)) :
    exec .derivedKeyDigestComplete s = .next (if s.prf.ctx.phase = .checking then
      startResponseDigest (keyReady s (Config.kd key message)) else keyReady s (Config.kd key message)) := by
  show execDerivedKeyDigestComplete s = _
  unfold execDerivedKeyDigestComplete
  rw [hd]
  exact congrArg Host.Outcome.next (if_pos hr)

/-- With the derived key and the reply both there, the response digest begins (R36). -/
theorem startResponseDigest_computes {s : State} {n : SlotId} {key : BitVec 64} {ch : BitVec 96} {c : Word} {f : Byte} {id : IdRecord}
    (h1 : s.prf.ctx.slot = some n) (h2 : s.prf.ctx.derivedKey = .value key) (h3 : s.prf.ctx.challenge = some ch)
    (h4 : s.prf.ctx.counter = some c) (h5 : s.prf.ctx.flags = some f) (h6 : s.prf.identity[n] = some id) :
    startResponseDigest s = { s with prf := { s.prf with
      digest := some (responseDigest key ch id.serial c f), ctx := { s.prf.ctx with expected := .computing } } } := by
  unfold startResponseDigest
  simp only [h1, h2, h3, h4, h5, h6]

/-- Settles O39. -/
theorem theDerivedKeyServesTheResponseDigest : Obligations.TheDerivedKeyServesTheResponseDigest := by
  refine ⟨fun s tx address rest id k master hr hl hc ha he hs hread hpass hq hf hid hk hmaster => ?_,
    fun s key message hr hd => ⟨fun hp => ?_, fun n ch c f id hp hslot hch hcount hflags hid => ?_⟩⟩
  · subst hid
    have hu := lineMoved_withIdle s 12
    have hexec := exec_readIdDone hr hl hc ha he hs hread
    have hframe := handOver_resultFrame (tx := tx) hu (.reply .done (replyData rest))
    rw [handOver_readId hc, readIdResult_reading (s := withIdle s 12) hread, if_pos rfl] at hframe
    rw [judgeBlock_passes ((identityFailure_of_frame hu.frame _ _).trans hpass) (by rw [hu.line, hl]; rfl)] at hexec hframe
    obtain ⟨hdigest, hseq, hctx, hbegun⟩ := leaveLine_challenges (v := identified (withIdle s 12) tx.slot (replyData rest))
      (n := tx.slot) hq hf (identified_identity _ _ _)
    rw [derivedKeyDigest, masterKey_loaded (s := identified (withIdle s 12) _ _) hk hmaster] at hdigest
    exact ⟨_, hexec, hframe, hdigest, by rw [hctx]; rfl, by rw [hctx]; rfl, by rw [hctx]; rfl, by rw [hctx]; rfl, hseq, hbegun⟩
  · rw [exec_derivedKeyEnds hr hd, if_neg hp]
    rfl
  · rw [exec_derivedKeyEnds hr hd, if_pos hp,
      startResponseDigest_computes (s := keyReady s (Config.kd key message)) hslot rfl hch hcount hflags hid]
    rfl

end Sys2Proof.Machine
end

section
/-! The privileged commands that change keys, calibration and history (R31, R145, R170 to R173; O55). -/

namespace Sys2Proof.Machine

/-! ### A privileged command unlocked (R165, R167) -/

theorem privileged_opened {s : State} (hl : listening s = true) (hu : s.svl.unlock = .opened) (k : Byte) (act : State → Answer) :
    privileged s k act =
      svcReply (act (setUnlock s .none)).1 k (act (setUnlock s .none)).2.1 (act (setUnlock s .none)).2.2 := by
  rw [privileged, if_pos hl, if_pos hu]

/-- A command whose checks refuse it changes nothing but the reply (R172). -/
theorem privileged_refused {s : State} {k : Byte} {act : State → Answer} {st : Status} (hl : listening s = true)
    (hu : s.svl.unlock = .opened) (h : act (setUnlock s .none) = (setUnlock s .none, st, [])) :
    (Host.Outcome.next (privileged s k act) : Outcome) = .next (svcAnswered s k st []) := by
  rw [privileged_opened hl hu, h]
  rfl

theorem answered_frame {p : Part} {s t : State} {k : Byte} {st : Status} {body : List Byte}
    (h : OnlyChanges [p, .sto] (setUnlock s .none) t) : OnlyChanges [.svl, p, .sto] s (svcReply t k st body) :=
  (((setUnlock_frame s _).mono (by simp)).trans (h.mono (by simp))).trans ((svcReply_frame _ _ _ _).mono (by simp))

/-! ### Entries emptied (R145) -/

section
variable {α : Type} {k : Nat}

/-- Whether a place holds an entry that `sel` chooses. -/
def chosen (t : Vector (Option α) k) (sel : α → Bool) (p : Fin k) : Bool := (t[p].map sel).getD false

/-- The places that `sel` chooses emptied. -/
def emptied (t : Vector (Option α) k) (sel : α → Bool) : Vector (Option α) k :=
  tab k fun p => if chosen t sel p then none else t[p]

/-- The records of places marked dirty. -/
def markPlaces (rec : Fin k → Fin 118) (l : List (Fin k)) (s : State) : State := l.foldl (fun s p => markDirty s (rec p)) s

theorem emptied_get (t : Vector (Option α) k) (sel : α → Bool) (p : Fin k) :
    (emptied t sel)[p] = t[p].filter fun e => !sel e := by
  rw [emptied, tab_get, chosen]
  cases t[p] with
  | none => rfl
  | some x => cases h : sel x <;> simp [h, Option.filter]

theorem emptied_ne [BEq α] [LawfulBEq α] (t : Vector (Option α) k) (sel : α → Bool) (p : Fin k) :
    ((emptied t sel)[p] != t[p]) = chosen t sel p := by
  rw [emptied_get, chosen]
  cases t[p] with
  | none => rfl
  | some x => cases h : sel x <;> simp [h, Option.filter]

theorem chosen_count (t : Vector (Option α) k) (sel : α → Bool) :
    ((List.finRange k).filter (chosen t sel)).length = (t.toList.filter fun e => (e.map sel).getD false).length := by
  have ht : t.toList = (List.finRange k).map (t[·]) := by
    refine List.ext_getElem (by simp) fun i h1 h2 => ?_
    simp
  rw [ht, List.filter_map, List.length_map]
  rfl

theorem markPlaces_frame (rec : Fin k → Fin 118) (l : List (Fin k)) (s : State) : OnlyChanges [.sto] s (markPlaces rec l s) :=
  .foldl _ (fun s p => markDirty_frame s (rec p)) l s

theorem markPlaces_marks (rec : Fin k → Fin 118) (l : List (Fin k)) (s : State) : MarksOnly s (markPlaces rec l s) :=
  .foldl _ (fun s p => markDirty_marks s (rec p)) l s

theorem markPlaces_dirty (rec : Fin k → Fin 118) (l : List (Fin k)) (s : State) (r : Fin 118) :
    (markPlaces rec l s).sto.dirty[r] = (s.sto.dirty[r] || l.any fun p => rec p == r) := by
  induction l generalizing s with
  | nil => exact (Bool.or_false _).symm
  | cons p l ih =>
    have hput : (markDirty s (rec p)).sto.dirty[r] = (s.sto.dirty[r] || rec p == r) := by
      rw [markDirty_sto]
      show (put s.sto.dirty (rec p) true)[r] = _
      rw [put_get]
      by_cases h : r = rec p
      · simp [h]
      · simp [h, Ne.symm h]
    rw [List.any_cons, ← Bool.or_assoc, ← hput]
    exact ih (markDirty s (rec p))

theorem markPlaces_dirty_at {rec : Fin k → Fin 118} (hrec : Function.Injective rec) (f : Fin k → Bool) (s : State) (p : Fin k) :
    (markPlaces rec ((List.finRange k).filter f) s).sto.dirty[rec p] = (s.sto.dirty[rec p] || f p) := by
  rw [markPlaces_dirty]
  congr 1
  rw [Bool.eq_iff_iff, List.any_eq_true]
  constructor
  · rintro ⟨q, hq, he⟩
    rw [← hrec (eq_of_beq he)]
    exact (List.mem_filter.1 hq).2
  · exact fun h => ⟨p, List.mem_filter.2 ⟨List.mem_finRange p, h⟩, beq_self_eq_true _⟩

theorem markPlaces_dirty_other {rec : Fin k → Fin 118} {r : Fin 118} (h : ∀ p, r ≠ rec p) (l : List (Fin k)) (s : State) :
    (markPlaces rec l s).sto.dirty[r] = s.sto.dirty[r] := by
  have hnone : (l.any fun p => rec p == r) = false := List.any_eq_false.2 fun p _ he => h p (eq_of_beq he).symm
  rw [markPlaces_dirty, hnone, Bool.or_false]

end

theorem recSeen_injective : Function.Injective recSeen := fun p q h => by
  have := congrArg Fin.val h
  simp only [recSeen] at this
  omega

theorem recRetired_injective : Function.Injective recRetired := fun p q h => by
  have := congrArg Fin.val h
  simp only [recRetired] at this
  omega

/-- What CLEAR_HISTORY does to the seen table (R145). -/
theorem clearSeen_spec (s : State) (sel : SeenEntry → Bool) :
    let t := (clearSeen s sel).1
    t.his = { s.his with seen := t.his.seen } ∧ (∀ p : Fin 32, t.his.seen[p] = s.his.seen[p].filter fun e => !sel e) ∧
      MarksOnly s t ∧ (∀ p : Fin 32, t.sto.dirty[recSeen p] = (s.sto.dirty[recSeen p] || t.his.seen[p] != s.his.seen[p])) ∧
      (∀ r : Fin 118, (∀ p : Fin 32, r ≠ recSeen p) → t.sto.dirty[r] = s.sto.dirty[r]) ∧
      (clearSeen s sel).2 = (s.his.seen.toList.filter fun e => (e.map sel).getD false).length := by
  have hhis : (clearSeen s sel).1.his = { s.his with seen := emptied s.his.seen sel } :=
    markPlaces_frame recSeen _ _ .his (by decide)
  dsimp only
  rw [hhis]
  refine ⟨rfl, emptied_get _ _, (MarksOnly.of_sto rfl).trans (markPlaces_marks recSeen _ _), fun p => ?_,
    fun r h => markPlaces_dirty_other h _ _, chosen_count _ _⟩
  rw [emptied_ne]
  exact markPlaces_dirty_at recSeen_injective (chosen s.his.seen sel) _ p

/-- What CLEAR_HISTORY does to the retired list (R145). -/
theorem clearRetired_spec (s : State) (sel : RetiredEntry → Bool) :
    let t := (clearRetired s sel).1
    t.his = { s.his with retired := t.his.retired } ∧ (∀ p : Fin 64, t.his.retired[p] = s.his.retired[p].filter fun e => !sel e) ∧
      MarksOnly s t ∧ (∀ p : Fin 64, t.sto.dirty[recRetired p] = (s.sto.dirty[recRetired p] || t.his.retired[p] != s.his.retired[p])) ∧
      (∀ r : Fin 118, (∀ p : Fin 64, r ≠ recRetired p) → t.sto.dirty[r] = s.sto.dirty[r]) ∧
      (clearRetired s sel).2 = (s.his.retired.toList.filter fun e => (e.map sel).getD false).length := by
  have hhis : (clearRetired s sel).1.his = { s.his with retired := emptied s.his.retired sel } :=
    markPlaces_frame recRetired _ _ .his (by decide)
  dsimp only
  rw [hhis]
  refine ⟨rfl, emptied_get _ _, (MarksOnly.of_sto rfl).trans (markPlaces_marks recRetired _ _), fun p => ?_,
    fun r h => markPlaces_dirty_other h _ _, chosen_count _ _⟩
  rw [emptied_ne]
  exact markPlaces_dirty_at recRetired_injective (chosen s.his.retired sel) _ p

theorem exec_clearHistory {s : State} (hl : listening s = true) (hu : s.svl.unlock = .opened) {table scope : Byte} {h : HistTable}
    {c : Scope} (ht : HistTable.ofCode table = some h) (hc : Scope.ofCode scope = some c) (serial : Serial) :
    exec (.clearHistory table scope serial) s = .next (svcReply (clearTable h c serial (setUnlock s .none)).1 0x4D .ok
      (u8 (clearTable h c serial (setUnlock s .none)).2)) := by
  show Host.Outcome.next (privileged s 0x4D (actClearHistory table scope serial)) = _
  rw [privileged_opened hl hu]
  simp only [actClearHistory, ht, hc]

theorem scope_ofCode_none {b : Byte} (h : 1 < b.toNat) : Scope.ofCode b = none := by
  have hne (c : Byte) (hc : c.toNat ≤ 1) : b ≠ c := ne_of_toNat_lt (by omega)
  rw [Scope.ofCode, if_neg (hne 0 (by decide)), if_neg (hne 1 (by decide))]

theorem actClearHistory_refused {table scope : Byte} (h : 1 < table.toNat ∨ 1 < scope.toNat) (serial : Serial) (s : State) :
    actClearHistory table scope serial s = (s, .range, []) := by
  unfold actClearHistory
  rcases h with h | h
  · rw [histTable_ofCode_none h]
  · rw [scope_ofCode_none h]
    cases HistTable.ofCode table <;> rfl

/-! ### LOAD_KEY (R31, R172) -/

/-- The state after a key slot is loaded (R31). -/
def keyStored (s : State) (k : Fin 4) (key : BitVec 128) : State :=
  markDirty { s with prf := { s.prf with keys := put s.prf.keys k (some key) } } (recKey k)

theorem keyStored_frame (s : State) (k : Fin 4) (key : BitVec 128) : OnlyChanges [.prf, .sto] s (keyStored s k key) :=
  ((prf_frame s _).mono (by decide)).trans ((markDirty_frame _ _).mono (by decide))

theorem actLoadKey_range {index : Byte} (h : 3 < index.toNat) (key : BitVec 128) (s : State) :
    actLoadKey index key s = (s, .range, []) := dif_neg (by omega)

theorem actLoadKey_slot {index : Byte} {k : Fin 4} (h : index.toNat = k.val) (key : BitVec 128) (s : State) :
    actLoadKey index key s =
      if s.prf.keys[k].isSome then (s, .keyLocked, []) else (keyStored s k key, .ok, keyStates (keyStored s k key)) := by
  have hlt : index.toNat < 4 := by omega
  obtain rfl : k = ⟨index.toNat, hlt⟩ := Fin.ext h.symm
  exact dif_pos hlt

/-! ### CLEAR_HISTORY, LOAD_KEY and RESTART (O55) -/

/-- Settles O55. -/
theorem historyAndKeyCommandsTakeEffect : Obligations.HistoryAndKeyCommandsTakeEffect := by
  intro s hl hu
  refine ⟨fun scope serial c hc => ⟨?_, ?_⟩, fun table scope serial h => ?_, fun index key h => ?_,
    fun index key k h => ⟨fun hk => ?_, fun hk => ?_⟩, ?_⟩
  · obtain ⟨hhis, hemptied, hmarks, hdirty, hother, hcount⟩ :=
      clearSeen_spec (setUnlock s .none) fun e => c == .all || e.serial == serial
    exact ⟨_, exec_clearHistory hl hu (h := .seen) rfl hc serial, answered_frame (clearSeen_frame _ _), hhis, hemptied, hmarks,
      hdirty, hother, congrArg (fun k => some (SvcReply.mk 0xCD .ok (u8 k))) hcount⟩
  · obtain ⟨hhis, hemptied, hmarks, hdirty, hother, hcount⟩ :=
      clearRetired_spec (setUnlock s .none) fun e => c == .all || e.serial == serial
    exact ⟨_, exec_clearHistory hl hu (h := .retired) rfl hc serial, answered_frame (clearRetired_frame _ _), hhis, hemptied, hmarks,
      hdirty, hother, congrArg (fun k => some (SvcReply.mk 0xCD .ok (u8 k))) hcount⟩
  · exact privileged_refused hl hu (actClearHistory_refused h serial _)
  · exact privileged_refused hl hu (actLoadKey_range h key _)
  · exact privileged_refused hl hu ((actLoadKey_slot h key _).trans (if_pos hk))
  · refine ⟨_, congrArg Host.Outcome.next (privileged_opened hl hu 0x4E _), ?_⟩
    rw [actLoadKey_slot h, if_neg (by rw [show (setUnlock s .none).prf.keys[k] = none from hk]; nofun)]
    exact ⟨answered_frame (keyStored_frame _ k key), rfl, rfl, rfl⟩
  · exact congrArg Host.Outcome.next (privileged_opened hl hu 0x45 actRestart)

end Sys2Proof.Machine
end

section
/-! What no command but a reload takes away: the value of a LOADED key slot, a calibration lock, a locked calibration record
(R30, R31, R171). The shared operations of the blocks first. -/

namespace Sys2Proof.Machine

/-! ### Keys and locked calibration stay -/

/-- From `s` to `t` every LOADED key slot keeps its value, and every calibration lock stays set on an unchanged record. -/
structure Guarded (s t : State) : Prop where
  keys : ∀ (k : Fin 4) (v : BitVec 128), s.prf.keys[k] = some v → t.prf.keys[k] = some v
  calibration : ∀ n : SlotId, s.locks[n] = true → t.locks[n] = true ∧ t.cal[n] = s.cal[n]

theorem Guarded.refl (s : State) : Guarded s s := ⟨fun _ _ h => h, fun _ h => ⟨h, rfl⟩⟩

theorem Guarded.trans {s t u : State} (h : Guarded s t) (k : Guarded t u) : Guarded s u where
  keys i v hv := k.keys i v (h.keys i v hv)
  calibration n hn := by
    obtain ⟨hlock, hcal⟩ := h.calibration n hn
    exact ⟨(k.calibration n hlock).1, (k.calibration n hlock).2.trans hcal⟩

theorem Guarded.ite {s t u : State} {c : Prop} [Decidable c] (h : Guarded s t) (k : Guarded s u) : Guarded s (if c then t else u) := by
  split
  · exact h
  · exact k

theorem Guarded.of_eq {s t : State} (hk : t.prf.keys = s.prf.keys) (hc : t.cal = s.cal) (hl : t.locks = s.locks) : Guarded s t where
  keys i v hv := by rw [hk]; exact hv
  calibration n hn := by rw [hl, hc]; exact ⟨hn, rfl⟩

/-- The proof unit may change but for its keys. -/
theorem Guarded.of_keys {s t : State} {ps : List Part} (h : OnlyChanges ps s t) (hp : ∀ p ∈ [Part.cal, .locks], p ∉ ps)
    (hk : t.prf.keys = s.prf.keys) : Guarded s t :=
  .of_eq hk (h .cal (hp _ (by decide))) (h .locks (hp _ (by decide)))

theorem Guarded.of_frame {s t : State} {ps : List Part} (h : OnlyChanges ps s t) (hp : ∀ p ∈ [Part.prf, .cal, .locks], p ∉ ps) :
    Guarded s t :=
  .of_keys h (fun p hm => hp p (List.mem_cons_of_mem _ hm)) (by rw [show t.prf = s.prf from h .prf (hp _ (by decide))])

theorem Guarded.foldl {α : Type} (f : State → α → State) (h : ∀ s a, Guarded s (f s a)) (l : List α) (s : State) :
    Guarded s (l.foldl f s) := by
  induction l generalizing s with
  | nil => exact .refl s
  | cons a l ih => exact (h s a).trans (ih _)

theorem forSlots_guarded (f : State → SlotId → State) (h : ∀ s n, Guarded s (f s n)) (s : State) : Guarded s (forSlots f s) :=
  .foldl f h allSlots s

/-! ### The arbiter (R33, R34, R64) -/

theorem startChallenge_guarded {s t : State} {n : SlotId} {first : Bool} {body : List Byte}
    (h : startChallenge s n first = some (body, t)) : Guarded s t := by
  refine .of_keys (startChallenge_frame h) (by decide) ?_
  unfold startChallenge at h
  split at h
  · cases h
  · cases h
    cases first <;> rfl

theorem unbuiltChallenge_guarded (s : State) (n : SlotId) : Guarded s (unbuiltChallenge s n) := by
  refine .of_keys (unbuiltChallenge_frame s n) (by decide) ?_
  unfold unbuiltChallenge releaseContext
  dsimp only
  split <;> rfl

theorem beginAttempt_guarded (s : State) (tx : Transaction) : Guarded s (beginAttempt s tx) :=
  .of_frame (beginAttempt_frame s tx) (by decide)

theorem startTransaction_guarded (s : State) (n : SlotId) (c : TxCommand) : Guarded s (startTransaction s n c) := by
  unfold startTransaction
  split
  · split
    · exact .refl s
    · next h => exact (Guarded.of_frame (addUsedBody_frame h) (by decide)).trans (beginAttempt_guarded _ _)
  · split
    · exact unbuiltChallenge_guarded s n
    · next h => exact (startChallenge_guarded h).trans (beginAttempt_guarded _ _)
  · exact beginAttempt_guarded s _
  · exact beginAttempt_guarded s _

theorem setCbc_guarded (s : State) (c : Cbc) : Guarded s (setCbc s c) := .of_frame (cbc_frame s c) (by decide)

theorem arbitrateUpTo_guarded (k : Nat) (s : State) : Guarded s (arbitrateUpTo k s) := by
  induction k generalizing s with
  | zero => exact .refl s
  | succ k ih =>
    unfold arbitrateUpTo
    split
    · exact .refl s
    · split
      · exact .refl s
      · exact ((setCbc_guarded s _).trans (startTransaction_guarded _ _ _)).trans (ih _)

theorem arbitrate_guarded (s : State) : Guarded s (arbitrate s) := arbitrateUpTo_guarded _ s

theorem Guarded.arbitrateIfJoined {s t : State} (h : Guarded s t) : Guarded s (arbitrateIfJoined s t) :=
  .ite h (h.trans (arbitrate_guarded t))

theorem joinQueue_guarded (s : State) (e : QEntry) : Guarded s (joinQueue s e) :=
  (setCbc_guarded s _).trans (arbitrate_guarded _)

theorem trigger_guarded (s : State) (n : SlotId) : Guarded s (trigger s n) :=
  .ite ((setCbc_guarded s _).trans (arbitrate_guarded _)) (.refl s)

/-! ### Slots and accounts (R20, R88, R91 to R100) -/

theorem requestAddUsed_guarded (s : State) (n : SlotId) : Guarded s (requestAddUsed s n) :=
  .of_frame (requestAddUsed_frame s n) (by decide)

theorem spentCheck_guarded (s : State) (n : SlotId) : Guarded s (spentCheck s n) := .of_frame (spentCheck_frame s n) (by decide)

theorem enqueueOp_guarded (s : State) (n : SlotId) (op : WbOp) : Guarded s (enqueueOp s n op) := setCbc_guarded s _

theorem setAccount_guarded (s : State) (n : SlotId) (a : Option Account) : Guarded s (setAccount s n a) :=
  .of_frame (setAccount_frame s n a) (by decide)

theorem modAccount_guarded (s : State) (n : SlotId) (f : Account → Account) : Guarded s (modAccount s n f) :=
  .of_frame (modAccount_frame s n f) (by decide)

theorem modSlot_guarded (s : State) (n : SlotId) (f : SlotRec → SlotRec) : Guarded s (modSlot s n f) :=
  .of_frame (modSlot_frame s n f) (by decide)

theorem postEvent_guarded (s : State) (k : EventKind) (n c : Byte) (v : Option Word) : Guarded s (postEvent s k n c v) :=
  .of_frame (postEvent_frame s k n c v) (by decide)

theorem raiseAlert_guarded (s : State) (n : SlotId) (c : AlertCode) (v : Option Word) : Guarded s (raiseAlert s n c v) :=
  .of_frame (raiseAlert_frame_slot s n c v) (by decide)

theorem reportIfLost_guarded (s : State) (n : SlotId) (k : Nat) : Guarded s (reportIfLost s n k) :=
  .of_frame (reportIfLost_frame_slot s n k) (by decide)

theorem changeState_guarded (s : State) (n : SlotId) (st : SlotState) : Guarded s (changeState s n st) := by
  have hmove : Guarded s (moveSlot s n st) := .of_frame (moveSlot_frame s n st) (by decide)
  exact .ite ((hmove.trans (requestAddUsed_guarded _ n)).trans (spentCheck_guarded _ n)) hmove

theorem rejectSlot_guarded (s : State) (n : SlotId) (why : Reason) : Guarded s (rejectSlot s n why) :=
  .of_frame (rejectSlot_frame_slot s n why) (by decide)

theorem startReading_guarded (s : State) (n : SlotId) : Guarded s (startReading s n) :=
  (changeState_guarded s n _).trans (joinQueue_guarded _ _)

theorem reportExhaustion_guarded (s : State) (n : SlotId) : Guarded s (reportExhaustion s n) := by
  unfold reportExhaustion
  refine ((Guarded.of_frame (reevalGate_frame s n) (by decide)).trans ?_).trans (raiseAlert_guarded _ n _ _)
  exact .ite (changeState_guarded _ n _) (.refl _)

theorem afterDebit_guarded (s : State) (n : SlotId) (before : Nat) : Guarded s (afterDebit s n before) := by
  unfold afterDebit
  split
  · exact .refl s
  · next a _ =>
    refine .ite ?_ (.refl s)
    have hclamp : Guarded s (clampHolds (refreshLevel s n) n) :=
      (Guarded.of_frame (refreshLevel_frame s n) (by decide)).trans (.of_frame (clampHolds_frame _ n) (by decide))
    have h : Guarded s (if 0 < before ∧ headroom a = 0 then
        reportExhaustion (clampHolds (refreshLevel s n) n) n else clampHolds (refreshLevel s n) n) :=
      .ite (hclamp.trans (reportExhaustion_guarded _ n)) hclamp
    dsimp only
    split
    · exact .ite (h.trans (requestAddUsed_guarded _ n)) h
    · exact h

theorem debitDrops_guarded (s : State) (n : SlotId) (id : Byte) (d : Nat) : Guarded s (debitDrops s n id d) := by
  unfold debitDrops
  split
  · exact .refl s
  · exact .ite (.refl s) (((setAccount_guarded s n _).trans (.of_frame (modSwath_frame _ id _) (by decide))).trans
      (afterDebit_guarded _ n _))

theorem debitPurge_guarded (s : State) (n : SlotId) (amount : Nat) : Guarded s (debitPurge s n amount) := by
  unfold debitPurge
  split
  · exact .refl s
  · exact (setAccount_guarded s n _).trans (afterDebit_guarded _ n _)

theorem counterFell_guarded (s : State) (n : SlotId) (a : Account) : Guarded s (counterFell s n a) :=
  (setAccount_guarded s n _).trans (raiseAlert_guarded _ n _ _)

/-- An account rebased to what the cartridge counts (R95, R99). -/
theorem rebase_guarded (s : State) (n : SlotId) (a : Option Account) (before : Nat) :
    Guarded s (afterDebit (setAccount s n a) n before) := (setAccount_guarded s n a).trans (afterDebit_guarded _ n before)

/-- A failure counted and posted, that may lose contact (R98 to R100). -/
theorem failure_guarded (s : State) (n : SlotId) (a : Option Account) (c : Byte) (v : Option Word) (k : Nat) :
    Guarded s (reportIfLost (postEvent (setAccount s n a) .writebackFailed (slotByte n) c v) n k) :=
  ((setAccount_guarded s n a).trans (postEvent_guarded _ _ _ _ _)).trans (reportIfLost_guarded _ n k)

theorem landed_guarded (s : State) (n : SlotId) (a : Account) (k total : Nat) : Guarded s (landed s n a k total) :=
  (Guarded.trans (.ite (rebase_guarded s n _ _) (.refl s)) (modAccount_guarded _ n _)).trans (spentCheck_guarded _ n)

theorem addUsedResult_guarded (s : State) (n : SlotId) (e m : Nat) (r : TxResult) : Guarded s (addUsedResult s n e m r) := by
  unfold addUsedResult
  split
  · exact (setAccount_guarded s n _).trans (postEvent_guarded _ _ _ _ _)
  · exact .ite (landed_guarded s n _ _ _) (counterFell_guarded s n _)
  · exact .ite (((failure_guarded s n _ _ _ _).trans (enqueueOp_guarded _ n _)).trans (requestAddUsed_guarded _ n))
      (failure_guarded s n _ _ _ _)
  · exact .refl s

theorem settleDoubt_guarded (s : State) (n : SlotId) (a : Account) (k : Nat) : Guarded s (settleDoubt s n a k) := by
  have ask (t : State) : Guarded t (spentCheck (requestAddUsed t n) n) := (requestAddUsed_guarded t n).trans (spentCheck_guarded _ n)
  unfold settleDoubt
  dsimp only
  refine .ite ((setAccount_guarded s n _).trans (ask _)) (.ite ((setAccount_guarded s n _).trans (ask _)) (.ite ?_ ?_))
  · exact ((rebase_guarded s n _ _).trans (modAccount_guarded _ n _)).trans (ask _)
  · exact counterFell_guarded s n _

theorem readUsageResult_guarded (s : State) (n : SlotId) (r : TxResult) : Guarded s (readUsageResult s n r) := by
  unfold readUsageResult
  split
  · exact .ite (setAccount_guarded s n _) (settleDoubt_guarded s n _ _)
  · exact .ite ((failure_guarded s n _ _ _ _).trans (enqueueOp_guarded _ n _)) (failure_guarded s n _ _ _ _)
  · exact .refl s

theorem markSpentResult_guarded (s : State) (n : SlotId) (r : TxResult) : Guarded s (markSpentResult s n r) := by
  unfold markSpentResult
  split
  · exact setAccount_guarded s n _
  · have h (b : Account) (k : Nat) : Guarded s (reportIfLost (setAccount s n (some b)) n k) :=
      (setAccount_guarded s n _).trans (reportIfLost_guarded _ n _)
    exact .ite ((h _ _).trans (spentCheck_guarded _ n)) (h _ _)
  · exact .refl s

/-! ### Proofs and their outcomes (R7 to R9, R34 to R38) -/

theorem setIdentity_guarded (s : State) (n : SlotId) (id : Option IdRecord) : Guarded s (setIdentity s n id) :=
  .of_keys (setIdentity_frame s n id) (by decide) rfl

theorem freePrf_guarded (s : State) : Guarded s (freePrf s) := .of_keys (freePrf_frame s) (by decide) rfl

theorem startResponseDigest_guarded (s : State) : Guarded s (startResponseDigest s) := by
  refine .of_keys (startResponseDigest_frame s) (by decide) ?_
  unfold startResponseDigest
  dsimp only
  split
  · split <;> rfl
  · rfl

theorem takeChallengeReply_guarded (s : State) (body : List Byte) : Guarded s (takeChallengeReply s body) :=
  (Guarded.of_keys (t := replyTaken s body) (prf_frame s _) (by decide) rfl).trans (startResponseDigest_guarded _)

theorem readIdResult_guarded (s : State) (n : SlotId) (r : TxResult) : Guarded s (readIdResult s n r) := by
  unfold readIdResult
  refine .ite (.refl s) ?_
  split
  · unfold judgeBlock
    split
    · exact rejectSlot_guarded s n _
    · exact ((setIdentity_guarded s n _).trans (changeState_guarded _ n _)).trans (joinQueue_guarded _ _)
  · exact rejectSlot_guarded s n _
  · exact rejectSlot_guarded s n _
  · exact .refl s

theorem openAccount_guarded (s : State) (n : SlotId) (a : Account) : Guarded s (openAccount s n a) :=
  .of_frame (openAccount_frame s n a) (by decide)

theorem openedAs_guarded (s : State) (n : SlotId) (a : Account) (st : SlotState) : Guarded s (openedAs s n a st) :=
  ((openAccount_guarded s n a).trans (changeState_guarded _ n st)).trans (setIdentity_guarded _ n none)

theorem raiseAlerts_guarded (s : State) (n : SlotId) (l : List (AlertCode × Option Word)) : Guarded s (raiseAlerts s n l) :=
  .of_frame (raiseAlerts_frame s n l) (by decide)

theorem reconcileSlot_guarded (s : State) (n : SlotId) (id : IdRecord) (c : Nat) (spent : Bool) :
    Guarded s (reconcileSlot s n id c spent) := by
  unfold reconcileSlot
  split
  · exact (setIdentity_guarded s n _).trans (rejectSlot_guarded _ n _)
  · rw [openOutcome_eq]
    exact (openedAs_guarded s n _ _).trans (raiseAlerts_guarded _ n _)

theorem provenOutcome_guarded (s : State) (n : SlotId) (id : IdRecord) (c : Word) (f : Byte) : Guarded s (provenOutcome s n id c f) :=
  (changeState_guarded s n .reconciling).trans (reconcileSlot_guarded _ n id _ _)

theorem mismatchOutcome_guarded (s : State) (n : SlotId) (id : IdRecord) (c : Option Word) (f : Option Byte) :
    Guarded s (mismatchOutcome s n id c f) := by
  by_cases h : s.settings.nonGenuine = .block
  · rw [mismatchOutcome_blocks h]
    exact (setIdentity_guarded s n _).trans (rejectSlot_guarded _ n _)
  · rw [mismatchOutcome_opens h]
    exact (openedAs_guarded s n _ _).trans (raiseAlerts_guarded _ n _)

theorem challengeResult_guarded (s : State) (n : SlotId) (r : TxResult) : Guarded s (challengeResult s n r) := by
  unfold challengeResult
  refine .ite (.refl s) ?_
  split
  · exact (freePrf_guarded s).trans (mismatchOutcome_guarded _ n _ _ _)
  · exact ((freePrf_guarded s).trans (setIdentity_guarded _ n _)).trans (rejectSlot_guarded _ n _)
  · exact freePrf_guarded s
  · exact freePrf_guarded s

theorem responseChecked_guarded (s : State) (d : BitVec 64) : Guarded s (responseChecked s d) := by
  unfold responseChecked
  dsimp only
  split
  · split
    · exact .ite ((freePrf_guarded s).trans (provenOutcome_guarded _ _ _ _ _))
        ((freePrf_guarded s).trans (mismatchOutcome_guarded _ _ _ _ _))
    · exact freePrf_guarded s
  · exact freePrf_guarded s

/-! ### Transactions and attempts (R54 to R59, R66) -/

theorem handOver_guarded (s : State) (tx : Transaction) (r : TxResult) : Guarded s (handOver s tx r) := by
  unfold handOver
  split
  · exact readIdResult_guarded s _ r
  · exact challengeResult_guarded s _ r
  · exact addUsedResult_guarded s _ _ _ r
  · exact readUsageResult_guarded s _ r
  · exact markSpentResult_guarded s _ r
  · exact .of_frame (passThroughResult_frame s _ _ _ _ r) (by decide)

theorem drainCheck_guarded (s : State) : Guarded s (drainCheck s) := .of_frame (drainCheck_frame s) (by decide)

theorem leaveLine_guarded (s : State) : Guarded s (leaveLine s) :=
  ((setCbc_guarded s _).trans (arbitrate_guarded _)).trans (drainCheck_guarded _)

theorem nextAttempt_guarded (s : State) (tx : Transaction) : Guarded s (nextAttempt s tx) := by
  unfold nextAttempt
  split
  · split
    · exact (unbuiltChallenge_guarded s _).trans (leaveLine_guarded _)
    · next h => exact (startChallenge_guarded h).trans (beginAttempt_guarded _ _)
  · exact beginAttempt_guarded s _

theorem failAttempt_guarded (s : State) (tx : Transaction) (noted : List BusError) : Guarded s (failAttempt s tx noted) := by
  rw [failAttempt_eq]
  exact (setCbc_guarded s _).trans (.ite (nextAttempt_guarded _ _) ((handOver_guarded _ tx _).trans (leaveLine_guarded _)))

theorem acceptReply_guarded (s : State) (tx : Transaction) (st : CartStatus) (body : List Byte) : Guarded s (acceptReply s tx st body) :=
  .ite ((setCbc_guarded s _).trans (takeChallengeReply_guarded _ body)) ((handOver_guarded s tx _).trans (leaveLine_guarded _))

theorem replyEnded_guarded (s : State) (tx : Transaction) (address : Byte) (rest : List CbusChar) :
    Guarded s (replyEnded s tx address rest) := by
  unfold replyEnded
  split
  · exact acceptReply_guarded s tx _ _
  · exact failAttempt_guarded s tx _

theorem cancelSlotWork_guarded (s : State) (n : SlotId) : Guarded s (cancelSlotWork s n) := by
  have habort (t : State) : Guarded t (abortLine t n) := by
    unfold abortLine
    split
    · exact .refl t
    · exact .ite ((setCbc_guarded t _).trans (handOver_guarded _ _ _)) (.refl t)
  rw [cancelSlotWork_eq]
  exact (((Guarded.of_frame (dropEntries_frame s n) (by decide)).trans (habort _)).trans (arbitrate_guarded _)).trans (drainCheck_guarded _)

theorem endSlotWork_guarded (s : State) (n : SlotId) : Guarded s (endSlotWork s n) :=
  ((Guarded.of_frame (closeAccount_frame s n) (by decide)).trans (cancelSlotWork_guarded _ n)).trans
    (.of_frame (dropEngineHolds_frame _ n) (by decide))

theorem insertion_guarded (s : State) (n : SlotId) : Guarded s (insertion s n) :=
  .ite ((changeState_guarded s n _).trans (startReading_guarded _ n)) (changeState_guarded s n _)

theorem removal_guarded (s : State) (n : SlotId) : Guarded s (removal s n) := by
  rw [removal_eq]
  have hclear (t : State) : Guarded t (changeState (clearSlot t n) n .vacant) :=
    ((setIdentity_guarded t n none).trans (modSlot_guarded _ n _)).trans (changeState_guarded _ n _)
  exact (endSlotWork_guarded s n).trans (.ite ((hclear _).trans (raiseAlert_guarded _ n _ _)) (hclear _))

end Sys2Proof.Machine
end

section
/-! Every command but a reload keeps the LOADED keys, the calibration locks and the locked records (R30, R31, R171; O19). -/

namespace Sys2Proof.Machine

/-- A command keeps the LOADED keys and the locked calibration. -/
def ExecGuards (s : State) (o : Outcome) : Prop := ∀ t, o = .next t → Guarded s t

theorem execGuards_next {s t : State} (h : Guarded s t) : ExecGuards s (.next t) := fun _ ht => by cases ht; exact h

/-! ### The commands that name keys, calibration and locks (R31, R170, R171) -/

theorem svl_guarded (s : State) (v : Svl) : Guarded s { s with svl := v } := .of_frame (svl_frame s v) (by decide)

theorem privileged_guarded {s : State} {k : Byte} {act : State → Answer} (h : ∀ t, Guarded t (act t).1) :
    ExecGuards s (.next (privileged s k act)) := by
  have hreply (t : State) (st : Status) (b : List Byte) : Guarded t (svcReply t k st b) := svl_guarded t _
  exact execGuards_next (.ite (.ite (((svl_guarded s _).trans (h _)).trans (hreply _ _ _)) ((svl_guarded s _).trans (hreply _ _ _)))
    (.refl s))

/-- Only an EMPTY key slot is loaded (R31). -/
theorem keyStored_guarded {s : State} {k : Fin 4} (h : s.prf.keys[k] = none) (key : BitVec 128) : Guarded s (keyStored s k key) where
  keys i v hv := by
    have hne : i ≠ k := by
      rintro rfl
      rw [h] at hv
      cases hv
    exact (put_other s.prf.keys k i (some key) hne).trans hv
  calibration _ hn := ⟨hn, rfl⟩

theorem actLoadKey_guarded (index : Byte) (key : BitVec 128) (s : State) : Guarded s (actLoadKey index key s).1 := by
  by_cases hr : 3 < index.toNat
  · rw [actLoadKey_range hr]
    exact .refl s
  · rw [actLoadKey_slot (k := ⟨index.toNat, by omega⟩) rfl]
    split
    · exact .refl s
    · next h => exact keyStored_guarded (by simpa using h) key

/-- Only an unlocked calibration record is written (R170, R171). -/
theorem storeCalibration_guarded {s : State} {n : SlotId} (h : s.locks[n] ≠ true) (c : Calibration) :
    Guarded s (storeCalibration s n c) where
  keys _ _ hv := hv
  calibration m hm := by
    have hne : m ≠ n := by
      rintro rfl
      exact h hm
    exact ⟨hm, put_other s.cal n m c hne⟩

theorem actWriteCal_guarded (slot : Byte) (vS vM vL : Half) (kappa : Byte) (s : State) :
    Guarded s (actWriteCal slot vS vM vL kappa s).1 := by
  unfold actWriteCal
  split
  · exact .refl s
  · split
    · exact .refl s
    · split
      · exact .refl s
      · split
        · exact .refl s
        · next h => exact storeCalibration_guarded h _

/-- LOCK_CAL sets locks and clears none (R171). -/
theorem locksWith_guarded (s : State) (mask : Half) : Guarded s { s with locks := locksWith s mask } where
  keys _ _ hv := hv
  calibration n hn := by
    refine ⟨?_, rfl⟩
    show (locksWith s mask)[n] = true
    rw [locksWith, tab_get, hn, Bool.true_or]

theorem markDirty_guarded (s : State) (r : Fin 118) : Guarded s (markDirty s r) := .of_frame (markDirty_frame s r) (by decide)

theorem actLockCal_guarded (mask : Half) (s : State) : Guarded s (actLockCal mask s).1 := by
  unfold actLockCal
  split
  · exact .refl s
  · split
    · exact .refl s
    · exact .ite (.refl s) ((locksWith_guarded s mask).trans (markDirty_guarded _ _))

/-! ### The other service commands -/

theorem settings_guarded (s : State) (x : Settings) : Guarded s { s with settings := x } := .of_frame (settings_frame s x) (by decide)

theorem actWriteColourMap_guarded (c : Vector Byte 10) (s : State) : Guarded s (actWriteColourMap c s).1 := by
  unfold actWriteColourMap
  split
  · exact (settings_guarded s _).trans (markDirty_guarded _ _)
  · exact .refl s

theorem actWriteFilter_guarded (e : Byte) (x : FilterImage) (s : State) : Guarded s (actWriteFilter e x s).1 := by
  unfold actWriteFilter
  split
  · split
    · exact (Guarded.of_frame (his_frame s _) (by decide)).trans (markDirty_guarded _ _)
    · exact .refl s
  · exact .refl s

theorem actClearHistory_guarded (table scope : Byte) (serial : Serial) (s : State) : Guarded s (actClearHistory table scope serial s).1 := by
  unfold actClearHistory clearTable
  split
  · dsimp only
    split
    · exact .of_frame (clearSeen_frame s _) (by decide)
    · exact .of_frame (clearRetired_frame s _) (by decide)
  · exact .refl s

theorem openCommand_guarded {s : State} {k : Byte} {act : State → Answer} (h : ∀ t, (act t).1 = t) :
    ExecGuards s (.next (openCommand s k act)) := execGuards_next (.of_frame (openCommand_frame s k act h) (by decide))

theorem unlockFrame_guarded (s : State) (k : Byte) (r : Unlock × Status) : ExecGuards s (.next (unlockFrame s k r)) :=
  execGuards_next (.ite ((svl_guarded s _).trans (svl_guarded _ _)) (.refl s))

theorem execSyncSamplesComplete_guarded (a b c : Bool) (s : State) : ExecGuards s (execSyncSamplesComplete a b c s) := by
  unfold execSyncSamplesComplete
  split
  · exact execGuards_next (.ite (.ite (svl_guarded s _) (svl_guarded s _)) (.refl s))
  · exact execGuards_next (.refl s)

theorem execStoreCheckComplete_guarded (s : State) : ExecGuards s (execStoreCheckComplete s) := by
  unfold execStoreCheckComplete
  split
  · exact execGuards_next (.ite ((svl_guarded s _).trans (svl_guarded _ _)) (.refl s))
  · exact execGuards_next (.refl s)

theorem execSvcFrameRejected_guarded (frame : List Byte) (s : State) : ExecGuards s (execSvcFrameRejected frame s) := by
  unfold execSvcFrameRejected
  split
  · exact openCommand_guarded fun _ => rfl
  · exact execGuards_next (.ite (svl_guarded s _) (.refl s))
  · exact execGuards_next (.refl s)

theorem lineError_guarded (s : State) : Guarded s (lineError s) := .of_frame (lineError_frame s) (by decide)

/-! ### The bus and the digest engine -/

theorem onLine_guarded {s : State} {f : Transaction → State} (h : ∀ tx, Guarded s (f tx)) : ExecGuards s (.next (onLine s f)) := by
  refine execGuards_next ?_
  unfold onLine
  split
  · exact .ite (h _) (.refl s)
  · exact .refl s

theorem lowSeen_guarded (s : State) : Guarded s (lowSeen s) := setCbc_guarded s _

theorem onCharacter_guarded {s : State} {f : Transaction → State} (h : ∀ tx, Guarded s (f tx)) :
    ExecGuards s (.next (onCharacter s f)) := by
  refine execGuards_next ?_
  unfold onCharacter
  split
  · exact .refl s
  · exact h _
  · exact lowSeen_guarded s

theorem setLine_guarded (s : State) (tx : Transaction) (idle : Nat) : Guarded s (setLine s tx idle) := setCbc_guarded s _

theorem messageReady_guarded (s : State) (tx : Transaction) : Guarded s (messageReady s tx) := setCbc_guarded s _

theorem collided_guarded (s : State) (tx : Transaction) : Guarded s (collided s tx) :=
  (lowSeen_guarded s).trans (failAttempt_guarded _ tx _)

theorem execBreakEnd_guarded (s : State) : ExecGuards s (execBreakEnd s) :=
  onLine_guarded fun tx => .ite ((setCbc_guarded s _).trans (.ite (setLine_guarded _ _ _) (messageReady_guarded _ tx))) (.refl s)

theorem execBackoffComplete_guarded (k : Nat) (s : State) : ExecGuards s (execBackoffComplete k s) :=
  onLine_guarded fun tx => .ite ((setCbc_guarded s _).trans (messageReady_guarded _ tx)) (.refl s)

theorem execCollision_guarded (s : State) : ExecGuards s (execCollision s) := by
  refine onLine_guarded fun tx => ?_
  split
  · exact collided_guarded s tx
  · exact .refl s

theorem execMessageSent_guarded (s : State) : ExecGuards s (execMessageSent s) := by
  refine onLine_guarded fun tx => ?_
  split
  · exact setLine_guarded s _ _
  · exact .refl s

theorem execReplyAddressCharacter_guarded (data : Byte) (s : State) : ExecGuards s (execReplyAddressCharacter data s) := by
  refine onCharacter_guarded fun tx => ?_
  split
  · exact setLine_guarded s _ _
  · exact .refl s
  · exact .refl s
  · exact lowSeen_guarded s

theorem execReplyDeadlineExpiry_guarded (s : State) : ExecGuards s (execReplyDeadlineExpiry s) :=
  onLine_guarded fun tx => .ite (failAttempt_guarded s tx _) (.ite (setLine_guarded s _ _) (.refl s))

theorem execCbusFramingError_guarded (s : State) : ExecGuards s (execCbusFramingError s) := by
  refine onCharacter_guarded fun tx => ?_
  dsimp only
  split
  · exact setLine_guarded s _ _
  · exact setLine_guarded s _ _
  · exact collided_guarded s tx
  · exact .refl s
  · exact lowSeen_guarded s

theorem execFramingDiscardEnd_guarded (s : State) : ExecGuards s (execFramingDiscardEnd s) := by
  refine onLine_guarded fun tx => ?_
  split
  · exact (setCbc_guarded s _).trans (failAttempt_guarded _ tx _)
  · exact .refl s

theorem execCbusReplyEnd_guarded (rest : List CbusChar) (s : State) : ExecGuards s (execCbusReplyEnd rest s) := by
  refine onLine_guarded fun tx => ?_
  split
  · exact (setCbc_guarded s _).trans (replyEnded_guarded (withIdle s _) tx _ rest)
  · exact .refl s

theorem execReplyLengthLimitExpiry_guarded (s : State) : ExecGuards s (execReplyLengthLimitExpiry s) := by
  refine onLine_guarded fun tx => ?_
  split
  · exact failAttempt_guarded s tx _
  · exact .refl s

theorem execIdleWaitLimitExpiry_guarded (s : State) : ExecGuards s (execIdleWaitLimitExpiry s) := by
  refine onLine_guarded fun tx => ?_
  split
  · exact failAttempt_guarded s tx _
  · exact failAttempt_guarded s tx _
  · exact failAttempt_guarded s tx _
  · exact .refl s

theorem execDerivedKeyDigestComplete_guarded (s : State) : ExecGuards s (execDerivedKeyDigestComplete s) := by
  have hready (key : BitVec 64) : Guarded s (keyReady s key) := .of_keys (prf_frame s _) (by decide) rfl
  refine execGuards_next ?_
  split
  · exact .ite (.ite ((hready _).trans (startResponseDigest_guarded _)) (hready _)) (.refl s)
  · exact .refl s

theorem leaveHeld_guarded (s : State) : Guarded s (leaveHeld s) := by
  unfold leaveHeld
  split
  · exact .ite (leaveLine_guarded s) (.refl s)
  · exact .refl s

theorem execResponseDigestComplete_guarded (s : State) : ExecGuards s (execResponseDigestComplete s) := by
  refine execGuards_next ?_
  split
  · exact .ite ((responseChecked_guarded s _).trans (leaveHeld_guarded _)) (.refl s)
  · exact .refl s

/-! ### Requests of the system port -/

theorem sysp_guarded (s : State) (x : Sysp) : Guarded s { s with sysp := x } := .of_frame (sysp_frame s x) (by decide)

theorem sysRequest_guarded {s : State} {sel : Selection} {k : Byte} {len : Nat} {act : State → Answer} (h : ∀ t, Guarded t (act t).1) :
    ExecGuards s (.next (sysRequest s sel k len act)) :=
  execGuards_next (.ite ((((sysp_guarded s _).trans (sysp_guarded _ _)).trans (h _)).trans (sysp_guarded _ _)) (.refl s))

/-- A request that reports changes nothing but the reply. -/
theorem sysReport_guarded {s : State} {sel : Selection} {k : Byte} {len : Nat} {act : State → Answer} (h : ∀ t, (act t).1 = t) :
    ExecGuards s (.next (sysRequest s sel k len act)) := sysRequest_guarded fun t => by rw [h t]; exact .refl t

theorem forSlot_guarded {slot : Byte} {act : SlotId → State → Answer} (h : ∀ n t, Guarded t (act n t).1) (t : State) :
    Guarded t (forSlot slot act t).1 := by
  unfold forSlot
  split
  · exact .refl t
  · exact h _ t

theorem actSetSlotMode_guarded (mode : Byte) (n : SlotId) (s : State) : Guarded s (actSetSlotMode mode n s).1 := by
  unfold actSetSlotMode
  split
  · exact .refl s
  · exact (Guarded.of_frame (storeMode_frame s n _) (by decide)).trans (.ite (startReading_guarded _ n) (.refl _))

theorem actAdmit_guarded (n : SlotId) (s : State) : Guarded s (actAdmit n s).1 := by
  unfold actAdmit
  split
  · exact .refl s
  · split
    · exact .refl s
    · exact startReading_guarded s n

theorem actPark_guarded (n : SlotId) (s : State) : Guarded s (actPark n s).1 := by
  unfold actPark
  split
  · exact (modSlot_guarded s n fun r => { r with target := .parked }).trans (changeState_guarded _ n .parked)
  · exact .refl s

theorem actUnpark_guarded (n : SlotId) (s : State) : Guarded s (actUnpark n s).1 := by
  unfold actUnpark
  split
  · exact .refl s
  · split
    · exact .refl s
    · exact ((modSlot_guarded s n _).trans (changeState_guarded _ n _)).arbitrateIfJoined

theorem actRetry_guarded (n : SlotId) (s : State) : Guarded s (actRetry n s).1 := by
  unfold actRetry
  split
  · split
    · exact .refl s
    · exact Guarded.trans (.ite (endSlotWork_guarded s n) (.refl s)) (startReading_guarded _ n)
  · exact .refl s

theorem actSetLamp_guarded (pattern : Byte) (n : SlotId) (s : State) : Guarded s (actSetLamp pattern n s).1 := by
  unfold actSetLamp
  split
  · exact .refl s
  · exact modSlot_guarded s n _

theorem actTakeEvents_guarded (k : Byte) (s : State) : Guarded s (actTakeEvents k s).1 := by
  unfold actTakeEvents
  split
  · exact .refl s
  · exact sysp_guarded s _

theorem actSetPolicy_guarded (g p : Byte) (s : State) : Guarded s (actSetPolicy g p s).1 := by
  unfold actSetPolicy
  split
  · exact .ite (.refl s) ((settings_guarded s _).trans (markDirty_guarded _ _))
  · exact .refl s

theorem actSetLimits_guarded (l : Limits) (s : State) : Guarded s (actSetLimits l s).1 := by
  have hstored : Guarded s (limitsStored s (clampLimits l)) := .of_frame (limitsStored_frame s _) (by decide)
  exact .ite (.refl s) (.ite (hstored.trans (.of_frame (refreshLevels_frame _) (by decide))) hstored)

theorem actFlush_guarded (s : State) : Guarded s (actFlush s).1 := by
  have h := forSlots_guarded trigger trigger_guarded s
  unfold actFlush
  dsimp only
  exact h

theorem takeCartRead_guarded (s : State) (a b c : Byte) : Guarded s (takeCartRead s a b c) := by
  unfold takeCartRead
  split
  · exact (sysp_guarded s _).trans (joinQueue_guarded _ _)
  · exact sysp_guarded s _
  · exact .refl s

theorem execSysFrameRejected_guarded (frame : List Byte) (sel : Selection) (s : State) : ExecGuards s (execSysFrameRejected frame sel s) := by
  unfold execSysFrameRejected
  split
  · split
    · exact execGuards_next (.refl s)
    · exact sysReport_guarded fun _ => rfl
  · exact execGuards_next (.refl s)

/-! ### Requests and timers of the engine port -/

theorem engp_guarded (s : State) (x : Engp) : Guarded s { s with engp := x } := .of_frame (engp_frame s x) (by decide)

theorem engRequest_guarded {s : State} {sel : Selection} {k : Byte} {len : Nat} {act : State → EngAnswer}
    (h : ∀ t, Guarded t (act t).state) : ExecGuards s (.next (engRequest s sel k len act)) :=
  execGuards_next (.ite (((engp_guarded s _).trans (h _)).trans (engp_guarded _ _)) (.refl s))

theorem takeEntries_guarded (id : Byte) (k : Nat) (l : List DropEntry) (s : State) : Guarded s (takeEntries id k s l).1 := by
  induction l generalizing s with
  | nil => exact .refl s
  | cons e l ih =>
    unfold takeEntries
    refine Guarded.trans ?_ (ih _)
    unfold takeEntry
    dsimp only
    split
    · exact (setAccount_guarded s _ _).trans (debitDrops_guarded _ _ id _)
    · exact .refl s

theorem actDropReport_guarded (id temperature : Byte) (l : List DropEntry) (s : State) :
    Guarded s (actDropReport id temperature l s).state := by
  unfold actDropReport
  split
  · exact .refl s
  · exact (Guarded.trans (.ite (engp_guarded s _) (.refl s)) (takeEntries_guarded id _ l _)).arbitrateIfJoined

theorem actCloseSwath_guarded (id : Byte) (s : State) : Guarded s (actCloseSwath id s).state := by
  unfold actCloseSwath
  split
  · next w _ =>
    rw [closeSwath_eq]
    refine (Guarded.trans (t := dropSwath s w.id) (engp_guarded s _) ?_).trans
      (.of_frame ((stopIfNoneOpen_frame _).trans (clearIfEmpty_frame _)) (by decide))
    exact .foldl (fun t (l : Listed) => trigger t l.slot) (fun t l => trigger_guarded t l.slot) w.slots _
  · exact .refl s

theorem actPurgeEnd_guarded (slot : Byte) (actual : Half) (s : State) : Guarded s (actPurgeEnd slot actual s).state := by
  unfold actPurgeEnd
  split
  · exact .refl s
  · split
    · exact (((engp_guarded s _).trans (debitPurge_guarded _ _ _)).trans (requestAddUsed_guarded _ _)).arbitrateIfJoined
    · exact .refl s

theorem execEngFrameRejected_guarded (frame : List Byte) (sel : Selection) (s : State) : ExecGuards s (execEngFrameRejected frame sel s) := by
  unfold execEngFrameRejected
  split
  · split
    · exact execGuards_next (.refl s)
    · exact engRequest_guarded fun t => .refl t
  · exact execGuards_next (.refl s)

theorem execReportWatchdogExpiry_guarded (s : State) : ExecGuards s (execReportWatchdogExpiry s) :=
  execGuards_next (.ite (((engp_guarded s _).trans (engp_guarded _ _)).trans (postEvent_guarded _ _ _ _ _)) (.refl s))

theorem execSwathTimerExpiry_guarded (id : Byte) (s : State) : ExecGuards s (execSwathTimerExpiry id s) := by
  unfold execSwathTimerExpiry
  split
  · refine execGuards_next (.ite (Guarded.trans ?_ (postEvent_guarded _ _ _ _ _)) (.refl s))
    exact .of_frame ((modSwath_frame s _ _).trans (stopIfNoneOpen_frame _)) (by decide)
  · exact execGuards_next (.refl s)

theorem execPurgeTimerExpiry_guarded (n : SlotId) (s : State) : ExecGuards s (execPurgeTimerExpiry n s) := by
  unfold execPurgeTimerExpiry
  split
  · exact execGuards_next (.ite
      (((engp_guarded s _).trans (debitPurge_guarded _ n _)).trans (postEvent_guarded _ _ _ _ _)).arbitrateIfJoined (.refl s))
  · exact execGuards_next (.refl s)

/-! ### Presence, the store and power -/

theorem lines_guarded (s : State) (l : Lines) : Guarded s { s with lines := l } := .of_frame (lines_frame s l) (by decide)

theorem sto_guarded (s : State) (x : Sto) : Guarded s { s with sto := x } := .of_frame (sto_frame s x) (by decide)

theorem execPresenceLineChange_guarded (n : SlotId) (high : Bool) (s : State) : ExecGuards s (execPresenceLineChange n high s) :=
  execGuards_next (.ite (.refl s) (.ite ((lines_guarded s _).trans (modSlot_guarded _ n _)) (lines_guarded s _)))

theorem execPresenceTimerExpiry_guarded (n : SlotId) (s : State) : ExecGuards s (execPresenceTimerExpiry n s) := by
  have hsense : Guarded s (senseSlot s n s.lines.presence[n]) := modSlot_guarded s n _
  rw [execPresenceTimerExpiry_eq]
  exact execGuards_next (.ite (.ite (hsense.trans (insertion_guarded _ n)) (.ite (hsense.trans (removal_guarded _ n)) hsense)) (.refl s))

theorem assertPfail_guarded (s : State) : Guarded s (assertPfail s) := by
  have hwarned : Guarded s (warned s) := ((sto_guarded s _).trans (engp_guarded _ _)).trans (setCbc_guarded _ _)
  rw [assertPfail_eq]
  exact (hwarned.trans (forSlots_guarded trigger trigger_guarded _)).trans (drainCheck_guarded _)

theorem withdrawPfail_guarded (s : State) : Guarded s (withdrawPfail s) := by
  have hunwarned : Guarded s (unwarned s) := ((sto_guarded s _).trans (engp_guarded _ _)).trans (setCbc_guarded _ _)
  rw [withdrawPfail_eq]
  exact hunwarned.trans (arbitrate_guarded _)

theorem execWriterStart_guarded (s : State) : ExecGuards s (execWriterStart s) := by
  have hcheck : Guarded s (noteCheck s) := by
    unfold noteCheck
    split
    · exact .refl s
    · exact .of_eq rfl rfl rfl
  refine execGuards_next (.ite ?_ (.refl s))
  split
  · exact hcheck.trans (sto_guarded _ _)
  · exact .refl s

theorem execWriteComplete_guarded (s : State) : ExecGuards s (execWriteComplete s) := by
  have hcarried : Guarded s (endCarried s) := .of_frame (endCarried_frame s) (by decide)
  unfold execWriteComplete
  split
  · exact execGuards_next (.ite ((sto_guarded s _).trans (sto_guarded _ _)) hcarried)
  · exact execGuards_next (.ite (.refl s) hcarried)

theorem execResetLineWithdrawn_guarded (s : State) : ExecGuards s (execResetLineWithdrawn s) := by
  have hloading (t : State) : Guarded t { t with phase := .loading } := .of_eq rfl rfl rfl
  exact execGuards_next (.ite ((lines_guarded s _).trans (hloading _)) (lines_guarded s _))

/-! ### Every command (O19) -/

theorem exec_guarded {i : Instr} (hi : reloads i = false) (s : State) : ExecGuards s (exec i s) := by
  cases i with
  | svcReplySent | svcBreakEnd | powerOn | resetLineAsserted | startUpLoadComplete | powerLoss => cases hi
  | presenceLineChange slot high => exact execPresenceLineChange_guarded slot high s
  | presenceTimerExpiry slot => exact execPresenceTimerExpiry_guarded slot s
  | lampPhaseExpiry slot => exact execGuards_next (.ite (modSlot_guarded s slot _) (.refl s))
  | derivedKeyDigestComplete => exact execDerivedKeyDigestComplete_guarded s
  | responseDigestComplete => exact execResponseDigestComplete_guarded s
  | breakEnd => exact execBreakEnd_guarded s
  | backoffComplete idleRun => exact execBackoffComplete_guarded idleRun s
  | preambleComplete => exact onLine_guarded fun tx => .ite (setLine_guarded s _ _) (.refl s)
  | collision => exact execCollision_guarded s
  | messageSent => exact execMessageSent_guarded s
  | replyAddressCharacter data => exact execReplyAddressCharacter_guarded data s
  | replyDeadlineExpiry => exact execReplyDeadlineExpiry_guarded s
  | cbusFramingError => exact execCbusFramingError_guarded s
  | framingDiscardEnd => exact execFramingDiscardEnd_guarded s
  | cbusReplyEnd rest => exact execCbusReplyEnd_guarded rest s
  | replyLengthLimitExpiry => exact execReplyLengthLimitExpiry_guarded s
  | idleWaitLimitExpiry => exact execIdleWaitLimitExpiry_guarded s
  | slotStatus slot sel => exact sysRequest_guarded (forSlot_guarded fun _ t => .refl t)
  | levels sel => exact sysReport_guarded fun _ => rfl
  | setSlotMode slot mode sel => exact sysRequest_guarded (forSlot_guarded (actSetSlotMode_guarded mode))
  | admitSlot slot sel => exact sysRequest_guarded (forSlot_guarded actAdmit_guarded)
  | park slot sel => exact sysRequest_guarded (forSlot_guarded actPark_guarded)
  | unpark slot sel => exact sysRequest_guarded (forSlot_guarded actUnpark_guarded)
  | retry slot sel => exact sysRequest_guarded (forSlot_guarded actRetry_guarded)
  | ackAlert slot sel => exact sysRequest_guarded (forSlot_guarded fun n t => modSlot_guarded t n _)
  | setLamp slot pattern sel => exact sysRequest_guarded (forSlot_guarded (actSetLamp_guarded pattern))
  | takeEvents n sel => exact sysRequest_guarded (actTakeEvents_guarded n)
  | cartRead slot offset length sel => exact execGuards_next (.ite ((sysp_guarded s _).trans (takeCartRead_guarded _ _ _ _)) (.refl s))
  | setPolicy nonGenuine suspect sel => exact sysRequest_guarded (actSetPolicy_guarded nonGenuine suspect)
  | setLimits low reserve threshold window swath purge sel => exact sysRequest_guarded (actSetLimits_guarded _)
  | flush sel => exact sysRequest_guarded actFlush_guarded
  | historyRead table index sel => exact sysReport_guarded (actHistoryRead_state table index)
  | accountStats slot sel => exact sysRequest_guarded (forSlot_guarded fun n t => by rw [actAccountStats_state]; exact .refl t)
  | sysFrameRejected frame sel => exact execSysFrameRejected_guarded frame sel s
  | sysPartialSelection received ready => exact execGuards_next (.ite (sysp_guarded s _) (.refl s))
  | sysCollectSelection clocked ready => exact execGuards_next (.ite (sysp_guarded s _) (.refl s))
  | openSwath id asks sel => exact engRequest_guarded fun t => .of_frame (actOpenSwath_frame id asks t) (by decide)
  | dropReport id temperature entries sel => exact engRequest_guarded (actDropReport_guarded id temperature entries)
  | closeSwath id sel => exact engRequest_guarded (actCloseSwath_guarded id)
  | purgeStart slot amount sel => exact engRequest_guarded fun t => .of_frame (actPurgeStart_frame slot amount t) (by decide)
  | purgeEnd slot actual sel => exact engRequest_guarded (actPurgeEnd_guarded slot actual)
  | gateStatus sel => exact engRequest_guarded fun t => .refl t
  | engineRestart sel => exact engRequest_guarded fun t => .of_frame (restartEngine_frame t) (by decide)
  | engFrameRejected frame sel => exact execEngFrameRejected_guarded frame sel s
  | engPartialSelection received ready => exact execGuards_next (.ite (engp_guarded s _) (.refl s))
  | engCollectSelection clocked ready => exact execGuards_next (.ite (engp_guarded s _) (.refl s))
  | reportWatchdogExpiry => exact execReportWatchdogExpiry_guarded s
  | swathTimerExpiry id => exact execSwathTimerExpiry_guarded id s
  | purgeTimerExpiry slot => exact execPurgeTimerExpiry_guarded slot s
  | syncLowRunEnd lowNs => exact execGuards_next (.ite (svl_guarded s _) (.refl s))
  | syncSamplesComplete first second third => exact execSyncSamplesComplete_guarded first second third s
  | ident | slotDump | historyDump => exact openCommand_guarded fun _ => rfl
  | storeCheck | svcGapTimeout | svcReplyStart | svcBreakStart => exact execGuards_next (.ite (svl_guarded s _) (.refl s))
  | storeCheckComplete => exact execStoreCheckComplete_guarded s
  | unlockA code => exact unlockFrame_guarded s _ _
  | unlockB code => exact unlockFrame_guarded s _ _
  | writeCal slot vS vM vL kappa => exact privileged_guarded (actWriteCal_guarded slot vS vM vL kappa)
  | lockCal mask => exact privileged_guarded (actLockCal_guarded mask)
  | writeColourMap colours => exact privileged_guarded (actWriteColourMap_guarded colours)
  | setRegion region => exact privileged_guarded fun t => (settings_guarded t _).trans (markDirty_guarded _ _)
  | writeFilter entry enabled offset mask expected chain invert action => exact privileged_guarded (actWriteFilter_guarded entry _)
  | clearHistory table scope serial => exact privileged_guarded (actClearHistory_guarded table scope serial)
  | loadKey index key => exact privileged_guarded (actLoadKey_guarded index key)
  | restart => exact privileged_guarded fun t => svl_guarded t _
  | svcFrameRejected frame => exact execSvcFrameRejected_guarded frame s
  | svcFramingError | toolBreak => exact execGuards_next (lineError_guarded s)
  | svcCollision => exact execGuards_next (.ite (lineError_guarded s) (.refl s))
  | pfailNChange high => exact execGuards_next (.ite (.refl s) (.of_eq rfl rfl rfl))
  | pfailAsserted => exact execGuards_next (.ite (assertPfail_guarded s) (.refl s))
  | pfailWithdrawn => exact execGuards_next (.ite (withdrawPfail_guarded s) (.refl s))
  | busFlushDrained => exact execGuards_next (.ite (drainCheck_guarded s) (.refl s))
  | storeFlushComplete => exact execGuards_next (.ite (.of_frame (storeFlushCheck_frame s) (by decide)) (.refl s))
  | writerStart => exact execWriterStart_guarded s
  | writeComplete => exact execWriteComplete_guarded s
  | resetLineWithdrawn => exact execResetLineWithdrawn_guarded s

/-- Settles O19: LOAD_KEY, WRITE_CAL and LOCK_CAL check what they would overwrite, and no other command touches keys, locks or
calibration. -/
theorem loadedKeysAndLockedCalibrationStay : Obligations.LoadedKeysAndLockedCalibrationStay :=
  ⟨fun _ s t k v hi h => (exec_guarded hi s t h).keys k v, fun _ s t n hi h => (exec_guarded hi s t h).calibration n⟩

end Sys2Proof.Machine
end

section
/-! The transaction queue within its bounds (R60 to R63): what the arbiter takes from it, and what joins it; for O15. -/

namespace Sys2Proof.Machine

/-! ### An entry served (R62, R64, R65) -/

/-- What is left of a served entry: nothing, or the write-back entry with fewer of its operations (R62). -/
def LeftOf (e : QEntry) (left : List QEntry) : Prop :=
  left = [] ∧ 0 < e.size ∨ ∃ (n : SlotId) (ops ops' : List WbOp),
    e = .writeBack n ops ∧ left = [.writeBack n ops'] ∧ ops'.Sublist ops ∧ ops'.length < ops.length

/-- The queue `r` is `q` with one entry served: other entries stay, and what is left of the served one stands at the tail. -/
def ServedFrom (q r : List QEntry) : Prop :=
  ∃ e kept left, r = kept ++ left ∧ (e :: kept).Subperm q ∧ LeftOf e left

theorem leftOf_leftover (n : SlotId) {ops ops' : List WbOp} (hs : ops'.Sublist ops) (hl : ops'.length < ops.length) :
    LeftOf (.writeBack n ops) (leftover n ops') := by
  unfold leftover
  split
  · exact .inl ⟨rfl, Nat.zero_lt_of_lt hl⟩
  · exact .inr ⟨n, ops, ops', rfl, rfl, hs, hl⟩

theorem oldestEntry_served {q r : List QEntry} {n : SlotId} {c : TxCommand} (h : oldestEntry q = some (n, c, r)) : ServedFrom q r := by
  have hwhole (e : QEntry) (q : List QEntry) (he : e.size = 1) : ServedFrom (e :: q) q :=
    ⟨e, q, [], (List.append_nil q).symm, .refl _, .inl ⟨rfl, by omega⟩⟩
  induction q with
  | nil => cases h
  | cons e q ih =>
    cases e with
    | admission m step => cases h; exact hwhole _ _ rfl
    | passThrough m o l tag => cases h; exact hwhole _ _ rfl
    | writeBack m ops =>
      cases ops with
      | nil =>
        obtain ⟨e, kept, left, hr, hsub, hleft⟩ := ih h
        exact ⟨e, kept, left, hr, hsub.trans (List.sublist_cons_self _ q).subperm, hleft⟩
      | cons op ops =>
        cases h
        exact ⟨_, _, _, rfl, .refl _, leftOf_leftover _ (List.sublist_cons_self op ops) (Nat.lt_succ_self _)⟩

theorem splitAddUsed_listed {ops : List WbOp} (h : WbOp.addUsed ∈ ops) (n : SlotId) (q : List QEntry) :
    splitAddUsed (.writeBack n ops :: q) = some (n, ops.erase .addUsed, q) := if_pos (by simpa using h)

/-- An entry that does not list ADD_USED is passed over (R65). -/
theorem splitAddUsed_skip {e : QEntry} (h : ∀ n ops, e = .writeBack n ops → WbOp.addUsed ∉ ops) (q : List QEntry) :
    splitAddUsed (e :: q) = (splitAddUsed q).map fun (m, o, r) => (m, o, e :: r) := by
  cases e with
  | admission m step => rfl
  | passThrough m o l tag => rfl
  | writeBack m ops => exact if_neg (by simpa using h m ops rfl)

theorem splitAddUsed_subperm {q r : List QEntry} {n : SlotId} {ops' : List WbOp} (h : splitAddUsed q = some (n, ops', r)) :
    ∃ ops, (QEntry.writeBack n ops :: r).Subperm q ∧ WbOp.addUsed ∈ ops ∧ ops' = ops.erase .addUsed := by
  induction q generalizing r with
  | nil => cases h
  | cons e q ih =>
    by_cases he : ∃ m ops, e = .writeBack m ops ∧ WbOp.addUsed ∈ ops
    · obtain ⟨m, ops, rfl, ho⟩ := he
      rw [splitAddUsed_listed ho] at h
      cases h
      exact ⟨ops, .refl _, ho, rfl⟩
    · rw [splitAddUsed_skip fun m ops hw ho => he ⟨m, ops, hw, ho⟩] at h
      obtain ⟨⟨m, o, r'⟩, hr, heq⟩ := Option.map_eq_some_iff.1 h
      cases heq
      obtain ⟨ops, hsub, hmem, herase⟩ := ih hr
      exact ⟨ops, (List.Perm.swap e _ r').subperm.trans ((List.subperm_cons e).2 hsub), hmem, herase⟩

theorem nextEntry_served {flush : Bool} {q r : List QEntry} {n : SlotId} {c : TxCommand} (h : nextEntry flush q = some (n, c, r)) :
    ServedFrom q r := by
  unfold nextEntry at h
  split at h
  · obtain ⟨⟨m, ops', rest⟩, hr, heq⟩ := Option.map_eq_some_iff.1 h
    cases heq
    obtain ⟨ops, hsub, hmem, rfl⟩ := splitAddUsed_subperm hr
    refine ⟨_, rest, _, rfl, hsub, leftOf_leftover n List.erase_sublist ?_⟩
    rw [List.length_erase_of_mem hmem]
    exact Nat.sub_lt (List.length_pos_of_mem hmem) Nat.one_pos
  · exact oldestEntry_served h

/-- How many operations wait. -/
def waitingOps (q : List QEntry) : Nat := (q.map QEntry.size).sum

/-- Each service takes an operation from the queue. -/
theorem ServedFrom.waitingOps_lt {q r : List QEntry} (h : ServedFrom q r) : waitingOps r < waitingOps q := by
  obtain ⟨e, kept, left, rfl, hsub, hleft⟩ := h
  have hle : waitingOps (e :: kept) ≤ waitingOps q := by
    obtain ⟨l, hp, hs⟩ := hsub
    unfold waitingOps
    rw [← (hp.map QEntry.size).sum_eq]
    exact (hs.map QEntry.size).sum_le_sum fun _ _ => Nat.zero_le _
  have hlt : waitingOps left < e.size := by
    rcases hleft with ⟨rfl, he⟩ | ⟨n, ops, ops', rfl, rfl, -, hlen⟩
    · exact he
    · exact hlen
  unfold waitingOps at hle hlt ⊢
  rw [List.map_append, List.sum_append]
  rw [List.map_cons, List.sum_cons] at hle
  omega

/-! ### Entries that leave, entries that join -/

/-- From `q` to `r` entries are only served or taken away: no kind of entry becomes more, and no entry lists a new operation. -/
structure Shrinks (q r : List QEntry) : Prop where
  count : ∀ p : QEntry → Bool, (∀ n ops ops', p (.writeBack n ops) = p (.writeBack n ops')) → r.countP p ≤ q.countP p
  ops : ∀ (n : SlotId) (ops' : List WbOp), .writeBack n ops' ∈ r → ∃ ops, .writeBack n ops ∈ q ∧ ops'.Sublist ops

theorem Shrinks.trans {q r t : List QEntry} (h : Shrinks q r) (k : Shrinks r t) : Shrinks q t where
  count p hp := (k.count p hp).trans (h.count p hp)
  ops n o ho := by
    obtain ⟨o', ho', hs⟩ := k.ops n o ho
    obtain ⟨o'', ho'', hs'⟩ := h.ops n o' ho'
    exact ⟨o'', ho'', hs.trans hs'⟩

theorem Shrinks.of_sublist {q r : List QEntry} (h : r.Sublist q) : Shrinks q r where
  count _ _ := h.countP_le
  ops _ o ho := ⟨o, h.subset ho, .refl o⟩

theorem Shrinks.refl (q : List QEntry) : Shrinks q q := .of_sublist (.refl q)

theorem ServedFrom.shrinks {q r : List QEntry} (h : ServedFrom q r) : Shrinks q r := by
  obtain ⟨e, kept, left, rfl, hsub, hleft⟩ := h
  refine ⟨fun p hp => ?_, fun n o ho => ?_⟩
  · have hle : left.countP p ≤ [e].countP p := by
      rcases hleft with ⟨rfl, -⟩ | ⟨n, ops, ops', rfl, rfl, -, -⟩
      · exact Nat.zero_le _
      · rw [List.countP_singleton, List.countP_singleton, hp n ops ops']
    calc (kept ++ left).countP p = left.countP p + kept.countP p := by rw [List.countP_append, Nat.add_comm]
      _ ≤ [e].countP p + kept.countP p := Nat.add_le_add_right hle _
      _ = (e :: kept).countP p := (List.countP_append (l₁ := [e])).symm
      _ ≤ q.countP p := hsub.countP_le p
  · rcases List.mem_append.1 ho with ho | ho
    · exact ⟨o, hsub.subset (List.mem_cons_of_mem _ ho), .refl o⟩
    · rcases hleft with ⟨rfl, -⟩ | ⟨m, ops, ops', rfl, rfl, hs, -⟩
      · cases ho
      · cases List.mem_singleton.1 ho
        exact ⟨ops, hsub.subset List.mem_cons_self, hs⟩

/-- The write-back places (R60, R62): one entry for each slot, no operation listed twice. -/
def EntriesSafe (q : List QEntry) : Prop :=
  (∀ n : SlotId, q.countP (QEntry.isWriteBackOf n) ≤ 1) ∧ ∀ (n : SlotId) (ops : List WbOp), .writeBack n ops ∈ q → ops.Nodup

/-- At most four pass-through reads wait (R63). -/
def ReadsSafe (q : List QEntry) : Prop := q.countP QEntry.isPassThrough ≤ 4

theorem Shrinks.entries {q r : List QEntry} (h : Shrinks q r) (hq : EntriesSafe q) : EntriesSafe r := by
  obtain ⟨hone, hnodup⟩ := hq
  refine ⟨fun n => (h.count _ fun _ _ _ => rfl).trans (hone n), fun n o ho => ?_⟩
  obtain ⟨ops, hmem, hs⟩ := h.ops n o ho
  exact (hnodup n ops hmem).sublist hs

theorem Shrinks.reads {q r : List QEntry} (h : Shrinks q r) (hq : ReadsSafe q) : ReadsSafe r := (h.count _ fun _ _ _ => rfl).trans hq

/-- An operation added to an entry changes no entry's kind or slot. -/
theorem addOp_same (p : QEntry → Bool) (hp : ∀ n ops ops', p (.writeBack n ops) = p (.writeBack n ops')) (n : SlotId) (op : WbOp) :
    p ∘ QEntry.addOp n op = p := by
  funext e
  cases e with
  | admission m step => rfl
  | passThrough m o l tag => rfl
  | writeBack m ops =>
    show p (if m = n ∧ ops.contains op = false then .writeBack m (ops ++ [op]) else .writeBack m ops) = _
    split
    · exact hp m _ _
    · rfl

theorem withOp_reads (q : List QEntry) (n : SlotId) (op : WbOp) :
    (withOp q n op).countP QEntry.isPassThrough = q.countP QEntry.isPassThrough := by
  unfold withOp
  split
  · rw [List.countP_map, addOp_same _ fun _ _ _ => rfl]
  · rw [List.countP_append]; rfl

theorem withOp_entries {q : List QEntry} (h : EntriesSafe q) (n : SlotId) (op : WbOp) : EntriesSafe (withOp q n op) := by
  obtain ⟨hone, hnodup⟩ := h
  unfold withOp
  split
  · refine ⟨fun m => ?_, fun m ops ho => ?_⟩
    · rw [List.countP_map, addOp_same _ fun _ _ _ => rfl]
      exact hone m
    · obtain ⟨e, he, heq⟩ := List.mem_map.1 ho
      cases e with
      | admission k step => cases heq
      | passThrough k o l tag => cases heq
      | writeBack k os =>
        rw [QEntry.addOp] at heq
        split at heq
        · next hc =>
          cases heq
          exact List.nodup_append.2 ⟨hnodup _ _ he, List.nodup_singleton op, fun a ha b hb => by
            rintro rfl
            rw [List.mem_singleton.1 hb] at ha
            simpa [ha] using hc.2⟩
        · cases heq
          exact hnodup _ _ he
  · next hnone =>
    refine ⟨fun m => ?_, fun m ops ho => ?_⟩
    · rw [List.countP_append, List.countP_singleton]
      by_cases hm : n = m
      · subst hm
        have hzero : q.countP (QEntry.isWriteBackOf n) = 0 := List.countP_eq_zero.2 fun e he hp => hnone (List.any_eq_true.2 ⟨e, he, hp⟩)
        rw [hzero]
        split <;> omega
      · rw [if_neg (by simpa [QEntry.isWriteBackOf] using hm)]
        exact hone m
    · rcases List.mem_append.1 ho with ho | ho
      · exact hnodup m ops ho
      · cases List.mem_singleton.1 ho
        exact List.nodup_singleton op

end Sys2Proof.Machine
end

section
/-! The three invariants of the bus, and the two ways in which operations respect them: work that joins the queue, and the
arbiter (R58 to R65, R182 to R184; O15). -/

namespace Sys2Proof.Machine

/-! ### Flush mode, and a free line (R64, R65) -/

/-- Flush mode stands exactly outside NORMAL, and on a free line no entry may be served. -/
structure Attended (s : State) : Prop where
  mode : s.cbc.flush = true ↔ s.sto.power ≠ .normal
  idle : s.cbc.line = none → nextEntry s.cbc.flush s.cbc.queue = none

theorem flushSafe_iff (s : State) : FlushSafe s ↔ Attended s ∧ (s.sto.power = .flushingBus → addUsedOutstanding s = true) :=
  ⟨fun ⟨hm, hi, ho⟩ => ⟨⟨hm, hi⟩, ho⟩, fun ⟨⟨hm, hi⟩, ho⟩ => ⟨hm, hi, ho⟩⟩

theorem FlushSafe.attended {s : State} (h : FlushSafe s) : Attended s := ((flushSafe_iff s).1 h).1

theorem opWaits_addUsed_iff (q : List QEntry) : (∃ n, OpWaits q n .addUsed) ↔
    (q.any fun e => match e with
      | .writeBack _ ops => ops.contains .addUsed
      | _ => false) = true := by
  rw [List.any_eq_true]
  constructor
  · rintro ⟨n, ops, he, ho⟩
    exact ⟨_, he, by simpa using ho⟩
  · rintro ⟨e, he, ho⟩
    cases e with
    | writeBack n ops => exact ⟨n, ops, he, by simpa using ho⟩
    | admission n step => cases ho
    | passThrough n o l tag => cases ho

/-- An ADD_USED is on the line or waits (R65). -/
theorem addUsedOutstanding_iff (s : State) : addUsedOutstanding s = true ↔
    s.cbc.line.map (·.command) = some (.writeBack .addUsed) ∨ ∃ n, OpWaits s.cbc.queue n .addUsed := by
  rw [opWaits_addUsed_iff, addUsedOutstanding, Bool.or_eq_true]
  refine or_congr ?_ (by rfl)
  cases s.cbc.line with
  | none => simp
  | some tx => simp

theorem splitAddUsed_waits {q : List QEntry} (h : splitAddUsed q = none) (n : SlotId) : ¬ OpWaits q n .addUsed := by
  induction q with
  | nil => rintro ⟨ops, hm, -⟩; cases hm
  | cons e q ih =>
    by_cases he : ∃ m ops, e = .writeBack m ops ∧ WbOp.addUsed ∈ ops
    · obtain ⟨m, ops, rfl, ho⟩ := he
      rw [splitAddUsed_listed ho] at h
      cases h
    · rw [splitAddUsed_skip fun m ops hw ho => he ⟨m, ops, hw, ho⟩, Option.map_eq_none_iff] at h
      intro hw
      rcases opWaits_cons hw with ⟨ops, rfl, ho⟩ | hw
      · exact he ⟨n, ops, rfl, ho⟩
      · exact ih h hw

/-- With a free line the bus flush is over: an ADD_USED that waited would have been started (R65, R183). -/
theorem FlushSafe.not_flushing {s : State} (h : FlushSafe s) (hl : s.cbc.line = none) : s.sto.power ≠ .flushingBus := by
  intro hp
  obtain ⟨hmode, hidle, hout⟩ := h
  have hflush : s.cbc.flush = true := hmode.2 (by rw [hp]; nofun)
  have hnone := hidle hl
  rw [nextEntry, if_pos hflush, oldestAddUsed, Option.map_eq_none_iff] at hnone
  rcases (addUsedOutstanding_iff s).1 (hout hp) with hc | ⟨n, hw⟩
  · rw [hl] at hc; cases hc
  · exact splitAddUsed_waits hnone n hw

/-! ### Bounds kept, work joined -/

theorem busSafe_iff (s : State) :
    BusSafe s ↔ (∀ tx, s.cbc.line = some tx → 1 ≤ tx.attempt ∧ tx.attempt ≤ 3) ∧ ReadsSafe s.cbc.queue := by
  rw [BusSafe, ReadsSafe, List.countP_eq_length_filter]

/-- From `s` to `t` the bounds of attempts, reads and write-back places are kept. -/
structure BoundsKept (s t : State) : Prop where
  bus : BusSafe s → BusSafe t
  entries : EntriesSafe s.cbc.queue → EntriesSafe t.cbc.queue

theorem BoundsKept.trans {s t u : State} (h : BoundsKept s t) (k : BoundsKept t u) : BoundsKept s u :=
  ⟨k.bus ∘ h.bus, k.entries ∘ h.entries⟩

theorem BoundsKept.of_cbc {s t : State} (h : t.cbc = s.cbc) : BoundsKept s t := by
  refine ⟨fun hb => ?_, fun he => ?_⟩
  · rw [BusSafe, h]; exact hb
  · rw [h]; exact he

/-- The line and the queue change within the bounds. -/
theorem BoundsKept.of_shrinks {s t : State}
    (ha : ∀ tx, t.cbc.line = some tx → (∃ u, s.cbc.line = some u ∧ tx.attempt = u.attempt) ∨ tx.attempt = 1)
    (hq : Shrinks s.cbc.queue t.cbc.queue) : BoundsKept s t where
  bus h := by
    obtain ⟨hattempt, hreads⟩ := (busSafe_iff s).1 h
    refine (busSafe_iff t).2 ⟨fun tx htx => ?_, hq.reads hreads⟩
    rcases ha tx htx with ⟨u, hu, heq⟩ | heq
    · rw [heq]; exact hattempt u hu
    · omega
  entries := hq.entries

/-- From `s` to `t` at most work joins the queue: the line serves the same command, flush mode and the power state stand, and an
ADD_USED that waits waits on. -/
structure Joined (s t : State) : Prop extends BoundsKept s t where
  line : t.cbc.line.map (·.command) = s.cbc.line.map (·.command)
  flush : t.cbc.flush = s.cbc.flush
  power : t.sto.power = s.sto.power
  addUsed : ∀ n, OpWaits s.cbc.queue n .addUsed → OpWaits t.cbc.queue n .addUsed

theorem Joined.trans {s t u : State} (h : Joined s t) (k : Joined t u) : Joined s u where
  toBoundsKept := h.toBoundsKept.trans k.toBoundsKept
  line := k.line.trans h.line
  flush := k.flush.trans h.flush
  power := k.power.trans h.power
  addUsed n := k.addUsed n ∘ h.addUsed n

theorem Joined.of_cbc {s t : State} (h : t.cbc = s.cbc) (hp : t.sto.power = s.sto.power) : Joined s t where
  toBoundsKept := .of_cbc h
  line := by rw [h]
  flush := by rw [h]
  power := hp
  addUsed n := by rw [h]; exact id

theorem Joined.refl (s : State) : Joined s s := .of_cbc rfl rfl

theorem Joined.of_frame {s t : State} {ps : List Part} (h : OnlyChanges ps s t) (hp : ∀ p ∈ [Part.cbc, .sto], p ∉ ps) : Joined s t :=
  .of_cbc (h .cbc (hp _ (by decide))) (by rw [show t.sto = s.sto from h .sto (hp _ (by decide))])

theorem Joined.ite {s t u : State} {c : Prop} [Decidable c] (h : Joined s t) (k : Joined s u) : Joined s (if c then t else u) := by
  split
  · exact h
  · exact k

theorem Joined.busy {s t : State} (h : Joined s t) (hl : s.cbc.line.isSome = true) : t.cbc.line.isSome = true := by
  rw [← Option.isSome_map (f := (·.command)), h.line, Option.isSome_map]
  exact hl

theorem Joined.free {s t : State} (h : Joined s t) (hl : t.cbc.line = none) : s.cbc.line = none := by
  have hline := h.line
  rw [hl] at hline
  exact Option.map_eq_none_iff.1 hline.symm

theorem Joined.outstanding {s t : State} (h : Joined s t) (ho : addUsedOutstanding s = true) : addUsedOutstanding t = true := by
  rw [addUsedOutstanding_iff] at ho ⊢
  rw [h.line]
  exact ho.imp id fun ⟨n, hn⟩ => ⟨n, h.addUsed n hn⟩

/-- The bus controller with another transaction or other counts: the same command in an attempt of its bounds, the same queue. -/
theorem joined_cbc {s t : State} (hf : OnlyChanges [.cbc] s t) (hc : t.cbc.line.map (·.command) = s.cbc.line.map (·.command))
    (ha : t.cbc.line.map (·.attempt) = s.cbc.line.map (·.attempt)) (hq : t.cbc.queue = s.cbc.queue) (hm : t.cbc.flush = s.cbc.flush) :
    Joined s t where
  toBoundsKept := by
    refine .of_shrinks (fun tx htx => .inl ?_) (by rw [hq]; exact .refl _)
    rw [htx, eq_comm, Option.map_some] at ha
    obtain ⟨u, hu, heq⟩ := Option.map_eq_some_iff.1 ha
    exact ⟨u, hu, heq.symm⟩
  line := hc
  flush := hm
  power := by rw [show t.sto = s.sto from hf .sto (by decide)]
  addUsed n := by rw [hq]; exact id

theorem enqueueOp_joined (s : State) (n : SlotId) (op : WbOp) : Joined s (enqueueOp s n op) where
  bus h := by
    obtain ⟨hattempt, hreads⟩ := (busSafe_iff s).1 h
    exact (busSafe_iff _).2 ⟨hattempt, (withOp_reads s.cbc.queue n op).trans_le hreads⟩
  entries h := withOp_entries h n op
  line := rfl
  flush := rfl
  power := rfl
  addUsed _ h := h.withOp n op

/-- An entry that is no write-back entry joins the tail. -/
theorem withEntry_joined {s : State} {e : QEntry} (he : ∀ n, QEntry.isWriteBackOf n e = false)
    (hr : e.isPassThrough = true → s.cbc.queue.countP QEntry.isPassThrough < 4) : Joined s (withEntry s e) where
  bus h := by
    obtain ⟨hattempt, hreads⟩ := (busSafe_iff s).1 h
    refine (busSafe_iff _).2 ⟨hattempt, ?_⟩
    show (s.cbc.queue ++ [e]).countP QEntry.isPassThrough ≤ 4
    rw [List.countP_append, List.countP_singleton]
    split
    · next hp => exact hr hp
    · exact hreads
  entries h := by
    obtain ⟨hone, hnodup⟩ := h
    refine ⟨fun n => ?_, fun n ops ho => ?_⟩
    · show (s.cbc.queue ++ [e]).countP _ ≤ 1
      rw [List.countP_append, List.countP_singleton, he n]
      exact hone n
    · rcases List.mem_append.1 ho with ho | ho
      · exact hnodup n ops ho
      · have hn := he n
        rw [← List.mem_singleton.1 ho] at hn
        simp [QEntry.isWriteBackOf] at hn
  line := rfl
  flush := rfl
  power := rfl
  addUsed _ h := h.append_left _

theorem withAdmission_joined (s : State) (n : SlotId) (step : AdmissionStep) : Joined s (withEntry s (.admission n step)) :=
  withEntry_joined (fun _ => rfl) nofun

/-! ### The arbiter (R58, R64) -/

theorem beginAttempt_line_eq (s : State) (tx : Transaction) : ∃ a l, (beginAttempt s tx).cbc =
    { s.cbc with line := some { tx with action := a, limit := l } } := by
  unfold beginAttempt messageReady
  split
  · exact ⟨_, _, rfl⟩
  · dsimp only
    split <;> exact ⟨_, _, rfl⟩

/-- A transaction started makes its first attempt, in the mode that stood (R50). -/
theorem startTransaction_first (s : State) (n : SlotId) (c : TxCommand) : (startTransaction s n c).cbc.flush = s.cbc.flush ∧
    ∀ tx, (startTransaction s n c).cbc.line = some tx → s.cbc.line = some tx ∨ tx.attempt = 1 := by
  have hbegin {t : State} {u : Transaction} (ht : t.cbc = s.cbc) (hu : u.attempt = 1) : (beginAttempt t u).cbc.flush = s.cbc.flush ∧
      ∀ tx, (beginAttempt t u).cbc.line = some tx → s.cbc.line = some tx ∨ tx.attempt = 1 := by
    obtain ⟨a, l, h⟩ := beginAttempt_line_eq t u
    rw [h, ht]
    exact ⟨rfl, fun tx htx => .inr (by cases htx; exact hu)⟩
  unfold startTransaction
  split
  · split
    · exact ⟨rfl, fun _ h => .inl h⟩
    · next h => exact hbegin (addUsedBody_frame h .cbc (by decide)) rfl
  · split
    · refine ⟨?_, nofun⟩
      unfold unbuiltChallenge releaseContext
      dsimp only
      split <;> rfl
    · next h => exact hbegin (startChallenge_identity h).2.1 rfl
  · exact hbegin rfl rfl
  · exact hbegin rfl rfl

theorem arbitrateUpTo_serves (k : Nat) (s : State) : (arbitrateUpTo k s).cbc.flush = s.cbc.flush ∧
    Shrinks s.cbc.queue (arbitrateUpTo k s).cbc.queue ∧
    ∀ tx, (arbitrateUpTo k s).cbc.line = some tx → s.cbc.line = some tx ∨ tx.attempt = 1 := by
  induction k generalizing s with
  | zero => exact ⟨rfl, .refl _, fun _ h => .inl h⟩
  | succ k ih =>
    by_cases hl : s.cbc.line.isSome = true
    · rw [arbitrateUpTo_busy _ _ hl]
      exact ⟨rfl, .refl _, fun _ h => .inl h⟩
    · rw [arbitrateUpTo, if_neg hl]
      split
      · exact ⟨rfl, .refl _, fun _ h => .inl h⟩
      · next n c q hq =>
        obtain ⟨hflush, hshrinks, hline⟩ := ih (startTransaction { s with cbc := { s.cbc with queue := q } } n c)
        obtain ⟨hflush', hline'⟩ := startTransaction_first { s with cbc := { s.cbc with queue := q } } n c
        rw [startTransaction_queue] at hshrinks
        refine ⟨hflush.trans hflush', (nextEntry_served hq).shrinks.trans hshrinks, fun tx htx => ?_⟩
        exact (hline tx htx).elim (hline' tx) .inr

theorem arbitrate_bounds (s : State) : BoundsKept s (arbitrate s) := by
  obtain ⟨-, hshrinks, hline⟩ := arbitrateUpTo_serves _ s
  exact .of_shrinks (fun tx htx => (hline tx htx).imp (fun h => ⟨tx, h, rfl⟩) id) hshrinks

/-- As many starts as there are operations waiting leave nothing that may be served on a free line (R64). -/
theorem arbitrateUpTo_attends {k : Nat} {s : State} (hk : waitingOps s.cbc.queue ≤ k) (hl : (arbitrateUpTo k s).cbc.line = none) :
    nextEntry (arbitrateUpTo k s).cbc.flush (arbitrateUpTo k s).cbc.queue = none := by
  induction k generalizing s with
  | zero =>
    cases hn : nextEntry s.cbc.flush s.cbc.queue with
    | none => exact hn
    | some x => exact absurd (nextEntry_served hn).waitingOps_lt (by omega)
  | succ k ih =>
    by_cases hs : s.cbc.line.isSome = true
    · rw [arbitrateUpTo_busy _ _ hs] at hl
      rw [hl] at hs
      cases hs
    · rw [arbitrateUpTo, if_neg hs] at hl ⊢
      split at hl
      · next hn => exact hn
      · next n c q hq =>
        refine ih ?_ hl
        rw [startTransaction_queue]
        have hlt := (nextEntry_served hq).waitingOps_lt
        show waitingOps q ≤ k
        omega

theorem arbitrate_attended {s : State} (h : s.cbc.flush = true ↔ s.sto.power ≠ .normal) : Attended (arbitrate s) where
  mode := by
    rw [show (arbitrate s).cbc.flush = s.cbc.flush from (arbitrateUpTo_serves _ s).1, arbitrate_frame s .sto (by decide)]
    exact h
  idle := arbitrateUpTo_attends (Nat.le_refl _)

/-- From `s` to `t` the bus keeps its three invariants. -/
structure BusKept (s t : State) : Prop extends BoundsKept s t where
  flushSafe : FlushSafe s → FlushSafe t

theorem BusKept.trans {s t u : State} (h : BusKept s t) (k : BusKept t u) : BusKept s u :=
  ⟨h.toBoundsKept.trans k.toBoundsKept, k.flushSafe ∘ h.flushSafe⟩

theorem BusKept.ite {s t u : State} {c : Prop} [Decidable c] (h : BusKept s t) (k : BusKept s u) : BusKept s (if c then t else u) := by
  split
  · exact h
  · exact k

theorem Joined.mode {s t : State} (h : Joined s t) (hs : s.cbc.flush = true ↔ s.sto.power ≠ .normal) :
    t.cbc.flush = true ↔ t.sto.power ≠ .normal := by
  rw [h.flush, h.power]
  exact hs

theorem Joined.kept_busy {s t : State} (h : Joined s t) (hl : s.cbc.line.isSome = true) : BusKept s t where
  toBoundsKept := h.toBoundsKept
  flushSafe hs := by
    obtain ⟨ha, ho⟩ := (flushSafe_iff s).1 hs
    refine (flushSafe_iff t).2 ⟨⟨h.mode ha.mode, fun hfree => ?_⟩, fun hp => h.outstanding (ho (h.power ▸ hp))⟩
    rw [h.free hfree] at hl
    cases hl

/-- With the queue as it was, nothing waits for the arbiter. -/
theorem Joined.kept {s t : State} (h : Joined s t) (hq : t.cbc.queue = s.cbc.queue) : BusKept s t where
  toBoundsKept := h.toBoundsKept
  flushSafe hs := by
    obtain ⟨ha, ho⟩ := (flushSafe_iff s).1 hs
    refine (flushSafe_iff t).2 ⟨⟨h.mode ha.mode, fun hfree => ?_⟩, fun hp => h.outstanding (ho (h.power ▸ hp))⟩
    rw [h.flush, hq]
    exact ha.idle (h.free hfree)

/-- Work that has joined the queue, and the arbiter: in FLUSHING_BUS the line is busy, and the work waits (R64, R183). -/
theorem Joined.arbitrate {s t : State} (h : Joined s t) : BusKept s (arbitrate t) where
  toBoundsKept := h.toBoundsKept.trans (arbitrate_bounds t)
  flushSafe hs := by
    by_cases hl : s.cbc.line.isSome = true
    · rw [arbitrate_busy t (h.busy hl)]
      exact (h.kept_busy hl).flushSafe hs
    · refine (flushSafe_iff _).2 ⟨arbitrate_attended (h.mode hs.attended.mode), fun hp => absurd ?_ (hs.not_flushing (by simpa using hl))⟩
      rw [← h.power]
      rwa [arbitrate_frame t .sto (by decide)] at hp

theorem Joined.arbitrateIfJoined {s t : State} (h : Joined s t) : BusKept s (arbitrateIfJoined s t) := by
  unfold Machine.arbitrateIfJoined
  split
  · next hq => exact h.kept hq
  · exact h.arbitrate

theorem BusKept.of_cbc {s t : State} (h : t.cbc = s.cbc) (hp : t.sto.power = s.sto.power) : BusKept s t :=
  (Joined.of_cbc h hp).kept (by rw [h])

theorem BusKept.refl (s : State) : BusKept s s := .of_cbc rfl rfl

theorem BusKept.of_frame {s t : State} {ps : List Part} (h : OnlyChanges ps s t) (hp : ∀ p ∈ [Part.cbc, .sto], p ∉ ps) : BusKept s t :=
  (Joined.of_frame h hp).kept (by rw [show t.cbc = s.cbc from h .cbc (hp _ (by decide))])

theorem BusKept.foldl {α : Type} (f : State → α → State) (h : ∀ s a, BusKept s (f s a)) (l : List α) (s : State) :
    BusKept s (l.foldl f s) := by
  induction l generalizing s with
  | nil => exact .refl s
  | cons a l ih => exact (h s a).trans (ih _)

/-! ### The drained bus, and a transaction that leaves the line (R59, R183) -/

theorem storeFlushCheck_power (s : State) : (storeFlushCheck s).sto.power = s.sto.power ∨
    s.sto.power = .flushingStore ∧ (storeFlushCheck s).sto.power = .flushed := by
  unfold storeFlushCheck
  split
  · next h => exact .inr ⟨h.1, rfl⟩
  · exact .inl rfl

/-- FLUSHING_BUS ends as the last ADD_USED goes (R183). -/
theorem drainCheck_flushSafe {s : State} (h : Attended s) : FlushSafe (drainCheck s) := by
  rw [drainCheck_eq]
  split
  · next hc =>
    have hcbc : (storeFlushCheck (storing (provisionalEntries s))).cbc = s.cbc := by
      rw [storeFlushCheck_frame _ .cbc (by decide), storing_frame _ .cbc (by decide), provisionalEntries_frame s .cbc (by decide)]
    have hflush : s.cbc.flush = true := h.mode.2 (by rw [hc.1]; nofun)
    generalize hu : storing (provisionalEntries s) = u at hcbc ⊢
    have hp : u.sto.power = .flushingStore := by rw [← hu]; rfl
    have hpower : (storeFlushCheck u).sto.power ≠ .normal ∧ (storeFlushCheck u).sto.power ≠ .flushingBus := by
      rcases storeFlushCheck_power u with heq | ⟨-, heq⟩
      · rw [heq, hp]; exact ⟨nofun, nofun⟩
      · rw [heq]; exact ⟨nofun, nofun⟩
    refine (flushSafe_iff _).2 ⟨⟨?_, ?_⟩, fun hb => absurd hb hpower.2⟩
    · rw [hcbc]; exact ⟨fun _ => hpower.1, fun _ => hflush⟩
    · rw [hcbc]; exact h.idle
  · next hc =>
    refine (flushSafe_iff s).2 ⟨h, fun hp => ?_⟩
    by_contra ho
    exact hc ⟨hp, by simpa using ho⟩

theorem drainCheck_kept (s : State) : BusKept s (drainCheck s) :=
  ⟨.of_cbc (drainCheck_cbc s), fun h => drainCheck_flushSafe h.attended⟩

theorem storeFlushCheck_kept (s : State) : BusKept s (storeFlushCheck s) := by
  have hcbc : (storeFlushCheck s).cbc = s.cbc := storeFlushCheck_frame s .cbc (by decide)
  rcases storeFlushCheck_power s with hp | ⟨hs, hp⟩
  · exact .of_cbc hcbc hp
  · refine ⟨.of_cbc hcbc, fun h => ?_⟩
    obtain ⟨hmode, hidle, -⟩ := h
    refine ⟨?_, by rw [hcbc]; exact hidle, by rw [hp]; nofun⟩
    rw [hcbc, hmode, hs, hp]
    exact ⟨fun _ => nofun, fun _ => nofun⟩

/-- A free line, the arbiter and the drained bus restore the agreement of flush mode and power state. -/
theorem attendDrain_kept {s u : State} (h : BoundsKept s u) (hf : u.cbc.flush = s.cbc.flush) (hp : u.sto.power = s.sto.power) :
    BusKept s (drainCheck (Machine.arbitrate u)) where
  toBoundsKept := (h.trans (arbitrate_bounds u)).trans (.of_cbc (drainCheck_cbc _))
  flushSafe hs := drainCheck_flushSafe (arbitrate_attended (by rw [hf, hp]; exact hs.attended.mode))

theorem lineOff_bounds (s : State) : BoundsKept s (lineOff s) := .of_shrinks nofun (.refl _)

theorem Joined.leaveLine {s t : State} (h : Joined s t) : BusKept s (leaveLine t) :=
  attendDrain_kept (h.toBoundsKept.trans (lineOff_bounds t)) h.flush h.power

end Sys2Proof.Machine
end

section
/-! The shared operations that only let work join the queue: slot states, debits, results and outcomes (R7 to R9, R20, R88,
R91 to R100); for O15. -/

namespace Sys2Proof.Machine

/-! ### Slots and accounts -/

theorem requestAddUsed_joined (s : State) (n : SlotId) : Joined s (requestAddUsed s n) := .ite (enqueueOp_joined s n _) (.refl s)

theorem setAccount_joined (s : State) (n : SlotId) (a : Option Account) : Joined s (setAccount s n a) := .of_cbc rfl rfl

theorem modAccount_joined (s : State) (n : SlotId) (f : Account → Account) : Joined s (modAccount s n f) := .of_cbc rfl rfl

theorem modSlot_joined (s : State) (n : SlotId) (f : SlotRec → SlotRec) : Joined s (modSlot s n f) := .of_cbc rfl rfl

theorem postEvent_joined (s : State) (k : EventKind) (n c : Byte) (v : Option Word) : Joined s (postEvent s k n c v) := .of_cbc rfl rfl

theorem raiseAlert_joined (s : State) (n : SlotId) (c : AlertCode) (v : Option Word) : Joined s (raiseAlert s n c v) := .of_cbc rfl rfl

theorem setIdentity_joined (s : State) (n : SlotId) (id : Option IdRecord) : Joined s (setIdentity s n id) := .of_cbc rfl rfl

theorem freePrf_joined (s : State) : Joined s (freePrf s) := .of_cbc rfl rfl

theorem moveSlot_joined (s : State) (n : SlotId) (st : SlotState) : Joined s (moveSlot s n st) := .of_cbc rfl rfl

theorem spentCheck_joined (s : State) (n : SlotId) : Joined s (spentCheck s n) :=
  .ite ((modAccount_joined s n _).trans (enqueueOp_joined _ n _)) (.refl s)

/-- The two requests that the end of a debt makes (R91, R92). -/
theorem requests_joined (s : State) (n : SlotId) : Joined s (spentCheck (requestAddUsed s n) n) :=
  (requestAddUsed_joined s n).trans (spentCheck_joined _ n)

theorem changeState_joined (s : State) (n : SlotId) (st : SlotState) : Joined s (changeState s n st) :=
  .ite ((moveSlot_joined s n st).trans (requests_joined _ n)) (moveSlot_joined s n st)

theorem rejectSlot_joined (s : State) (n : SlotId) (why : Reason) : Joined s (rejectSlot s n why) :=
  (changeState_joined s n _).trans (raiseAlert_joined _ n _ _)

theorem reportIfLost_joined (s : State) (n : SlotId) (k : Nat) : Joined s (reportIfLost s n k) :=
  .ite (.ite (rejectSlot_joined s n _) (.refl s)) (.refl s)

/-! ### Debits (R88) -/

theorem reportExhaustion_joined (s : State) (n : SlotId) : Joined s (reportExhaustion s n) := by
  unfold reportExhaustion
  refine ((Joined.of_frame (reevalGate_frame s n) (by decide)).trans ?_).trans (raiseAlert_joined _ n _ _)
  exact .ite (changeState_joined _ n _) (.refl _)

theorem afterDebit_joined (s : State) (n : SlotId) (before : Nat) : Joined s (afterDebit s n before) := by
  unfold afterDebit
  split
  · exact .refl s
  · next a _ =>
    refine .ite ?_ (.refl s)
    have hclamp : Joined s (clampHolds (refreshLevel s n) n) :=
      (Joined.of_frame (refreshLevel_frame s n) (by decide)).trans (.of_frame (clampHolds_frame _ n) (by decide))
    have hreport : Joined s (if 0 < before ∧ headroom a = 0 then
        reportExhaustion (clampHolds (refreshLevel s n) n) n else clampHolds (refreshLevel s n) n) :=
      .ite (hclamp.trans (reportExhaustion_joined _ n)) hclamp
    dsimp only
    split
    · exact .ite (hreport.trans (requestAddUsed_joined _ n)) hreport
    · exact hreport

/-- An account changed and its slot debited. -/
theorem debited_joined (s : State) (n : SlotId) (a : Option Account) (before : Nat) : Joined s (afterDebit (setAccount s n a) n before) :=
  (setAccount_joined s n a).trans (afterDebit_joined _ n before)

theorem debitDrops_joined (s : State) (n : SlotId) (id : Byte) (d : Nat) : Joined s (debitDrops s n id d) := by
  unfold debitDrops
  split
  · exact .refl s
  · exact .ite (.refl s) (((setAccount_joined s n _).trans (.of_frame (modSwath_frame _ id _) (by decide))).trans
      (afterDebit_joined _ n _))

theorem debitPurge_joined (s : State) (n : SlotId) (amount : Nat) : Joined s (debitPurge s n amount) := by
  unfold debitPurge
  split
  · exact .refl s
  · exact debited_joined s n _ _

theorem takeEntries_joined (id : Byte) (k : Nat) (l : List DropEntry) (s : State) : Joined s (takeEntries id k s l).1 := by
  induction l generalizing s with
  | nil => exact .refl s
  | cons e l ih =>
    unfold takeEntries
    refine Joined.trans ?_ (ih _)
    unfold takeEntry
    dsimp only
    split
    · exact (setAccount_joined s _ _).trans (debitDrops_joined _ _ id _)
    · exact .refl s

/-! ### Results of write-back operations (R91, R95 to R100) -/

theorem counterFell_joined (s : State) (n : SlotId) (a : Account) : Joined s (counterFell s n a) :=
  (setAccount_joined s n _).trans (raiseAlert_joined _ n _ _)

/-- A failure counted and posted, that may lose contact (R98 to R100). -/
theorem failure_joined (s : State) (n : SlotId) (a : Option Account) (c : Byte) (v : Option Word) (k : Nat) :
    Joined s (reportIfLost (postEvent (setAccount s n a) .writebackFailed (slotByte n) c v) n k) :=
  ((setAccount_joined s n a).trans (postEvent_joined _ _ _ _ _)).trans (reportIfLost_joined _ n k)

theorem addUsedResult_joined (s : State) (n : SlotId) (e m : Nat) (r : TxResult) : Joined s (addUsedResult s n e m r) := by
  have hlanded (a : Account) (k total : Nat) : Joined s (landed s n a k total) :=
    (Joined.trans (.ite (debited_joined s n _ _) (.refl s)) (modAccount_joined _ n _)).trans (spentCheck_joined _ n)
  unfold addUsedResult
  split
  · exact (setAccount_joined s n _).trans (postEvent_joined _ _ _ _ _)
  · exact .ite (hlanded _ _ _) (counterFell_joined s n _)
  · exact .ite (((failure_joined s n _ _ _ _).trans (enqueueOp_joined _ n _)).trans (requestAddUsed_joined _ n))
      (failure_joined s n _ _ _ _)
  · exact .refl s

theorem settleDoubt_joined (s : State) (n : SlotId) (a : Account) (k : Nat) : Joined s (settleDoubt s n a k) := by
  unfold settleDoubt
  dsimp only
  refine .ite ((setAccount_joined s n _).trans (requests_joined _ n)) (.ite ((setAccount_joined s n _).trans (requests_joined _ n))
    (.ite ?_ (counterFell_joined s n _)))
  exact ((debited_joined s n _ _).trans (modAccount_joined _ n _)).trans (requests_joined _ n)

theorem readUsageResult_joined (s : State) (n : SlotId) (r : TxResult) : Joined s (readUsageResult s n r) := by
  unfold readUsageResult
  split
  · exact .ite (setAccount_joined s n _) (settleDoubt_joined s n _ _)
  · exact .ite ((failure_joined s n _ _ _ _).trans (enqueueOp_joined _ n _)) (failure_joined s n _ _ _ _)
  · exact .refl s

theorem markSpentResult_joined (s : State) (n : SlotId) (r : TxResult) : Joined s (markSpentResult s n r) := by
  unfold markSpentResult
  split
  · exact setAccount_joined s n _
  · have hlost (b : Account) (k : Nat) : Joined s (reportIfLost (setAccount s n (some b)) n k) :=
      (setAccount_joined s n _).trans (reportIfLost_joined _ n _)
    exact .ite ((hlost _ _).trans (spentCheck_joined _ n)) (hlost _ _)
  · exact .refl s

/-! ### Outcomes of an admission (R7 to R9, R26, R36 to R38) -/

/-- With the transaction still on the line, a READ_ID's slot takes its next admission step to the queue. -/
theorem readIdResult_joined {s : State} (hl : s.cbc.line.isSome = true) (n : SlotId) (r : TxResult) : Joined s (readIdResult s n r) := by
  unfold readIdResult
  refine .ite (.refl s) ?_
  split
  · unfold judgeBlock
    split
    · exact rejectSlot_joined s n _
    · have hmove := (setIdentity_joined s n (some (readBlock ‹_›))).trans (changeState_joined _ n .proving)
      rw [placeAdmission_busy (hmove.busy hl)]
      exact hmove.trans (withAdmission_joined _ n _)
  · exact rejectSlot_joined s n _
  · exact rejectSlot_joined s n _
  · exact .refl s

theorem openedAs_joined (s : State) (n : SlotId) (a : Account) (st : SlotState) : Joined s (openedAs s n a st) :=
  (((setAccount_joined s n _).trans (requestAddUsed_joined _ n)).trans (changeState_joined _ n st)).trans (setIdentity_joined _ n none)

theorem raiseAlerts_joined (s : State) (n : SlotId) (l : List (AlertCode × Option Word)) : Joined s (raiseAlerts s n l) :=
  .of_frame (raiseAlerts_frame s n l) (by decide)

theorem refused_joined (s : State) (n : SlotId) (why : Reason) : Joined s (rejectSlot (setIdentity s n none) n why) :=
  (setIdentity_joined s n none).trans (rejectSlot_joined _ n why)

theorem provenOutcome_joined (s : State) (n : SlotId) (id : IdRecord) (c : Word) (f : Byte) : Joined s (provenOutcome s n id c f) := by
  refine (changeState_joined s n .reconciling).trans ?_
  show Joined _ (reconcileSlot _ n id c.toNat (spentFlag f))
  unfold reconcileSlot
  split
  · exact refused_joined _ n _
  · rw [openOutcome_eq]
    exact (openedAs_joined _ n _ _).trans (raiseAlerts_joined _ n _)

theorem mismatchOutcome_joined (s : State) (n : SlotId) (id : IdRecord) (c : Option Word) (f : Option Byte) :
    Joined s (mismatchOutcome s n id c f) := by
  by_cases h : s.settings.nonGenuine = .block
  · rw [mismatchOutcome_blocks h]
    exact refused_joined s n _
  · rw [mismatchOutcome_opens h]
    exact (openedAs_joined s n _ _).trans (raiseAlerts_joined _ n _)

theorem challengeResult_joined (s : State) (n : SlotId) (r : TxResult) : Joined s (challengeResult s n r) := by
  unfold challengeResult
  refine .ite (.refl s) ?_
  split
  · exact (freePrf_joined s).trans (mismatchOutcome_joined _ n _ _ _)
  · exact (freePrf_joined s).trans (refused_joined _ n _)
  · exact freePrf_joined s
  · exact freePrf_joined s

theorem responseChecked_joined (s : State) (d : BitVec 64) : Joined s (responseChecked s d) := by
  unfold responseChecked
  dsimp only
  split
  · split
    · exact .ite ((freePrf_joined s).trans (provenOutcome_joined _ _ _ _ _)) ((freePrf_joined s).trans (mismatchOutcome_joined _ _ _ _ _))
    · exact freePrf_joined s
  · exact freePrf_joined s

theorem handOver_joined {s : State} (hl : s.cbc.line.isSome = true) (tx : Transaction) (r : TxResult) : Joined s (handOver s tx r) := by
  unfold handOver
  split
  · exact readIdResult_joined hl _ r
  · exact challengeResult_joined s _ r
  · exact addUsedResult_joined s _ _ _ r
  · exact readUsageResult_joined s _ r
  · exact markSpentResult_joined s _ r
  · exact .of_frame (passThroughResult_frame s _ _ _ _ r) (by decide)

end Sys2Proof.Machine
end

section
/-! The bus through its transactions: attempts, accepted replies, and the end of a slot's work (R54 to R59, R66); for O15. -/

namespace Sys2Proof.Machine

/-! ### The transaction on the line -/

/-- Another attempt of the same command, or another step of it, within its three (R58). -/
theorem beginAttempt_joined {s : State} {tx u : Transaction} (hl : s.cbc.line = some tx) (hc : u.command = tx.command)
    (ha : 1 ≤ u.attempt ∧ u.attempt ≤ 3) : Joined s (beginAttempt s u) := by
  obtain ⟨a, l, h⟩ := beginAttempt_line_eq s u
  refine ⟨⟨fun hs => (busSafe_iff _).2 ⟨fun v hv => ?_, ?_⟩, ?_⟩, ?_, ?_, ?_, ?_⟩
  · rw [h] at hv
    cases hv
    exact ha
  · rw [h]
    exact ((busSafe_iff s).1 hs).2
  · rw [h]
    exact id
  · rw [h, hl]
    exact congrArg some hc
  · rw [h]
  · rw [beginAttempt_frame s u .sto (by decide)]
  · rw [h]
    exact fun _ => id

/-- The transaction on the line goes on in another action, or the bus with other counts. -/
theorem lineMoved_kept {s t : State} (hf : OnlyChanges [.cbc] s t) (hc : t.cbc.line.map (·.command) = s.cbc.line.map (·.command))
    (ha : t.cbc.line.map (·.attempt) = s.cbc.line.map (·.attempt)) (hq : t.cbc.queue = s.cbc.queue) (hm : t.cbc.flush = s.cbc.flush) :
    BusKept s t := (joined_cbc hf hc ha hq hm).kept hq

theorem setLine_kept {s : State} {tx u : Transaction} {k : Nat} (hl : s.cbc.line = some tx) (hc : u.command = tx.command)
    (ha : u.attempt = tx.attempt) : BusKept s (setLine s u k) :=
  lineMoved_kept (setLine_frame s u k) (by rw [hl]; exact congrArg some hc) (by rw [hl]; exact congrArg some ha) rfl rfl

theorem messageReady_kept {s : State} {tx : Transaction} (hl : s.cbc.line = some tx) : BusKept s (messageReady s tx) := by
  refine lineMoved_kept (messageReady_frame s tx) ?_ ?_ rfl rfl
  all_goals
    rw [hl, messageReady]
    dsimp only
    split <;> rfl

/-! ### Attempts and results (R54, R58, R59) -/

theorem unbuiltChallenge_bounds (s : State) (n : SlotId) : BoundsKept s (lineOff (unbuiltChallenge s n)) ∧
    (lineOff (unbuiltChallenge s n)).cbc.flush = s.cbc.flush ∧ (lineOff (unbuiltChallenge s n)).sto.power = s.sto.power := by
  have hq : (lineOff (unbuiltChallenge s n)).cbc.queue = s.cbc.queue ∧ (lineOff (unbuiltChallenge s n)).cbc.flush = s.cbc.flush ∧
      (lineOff (unbuiltChallenge s n)).sto = s.sto := by
    unfold lineOff unbuiltChallenge releaseContext
    dsimp only
    split <;> exact ⟨rfl, rfl, rfl⟩
  obtain ⟨hqueue, hflush, hsto⟩ := hq
  exact ⟨.of_shrinks nofun (by rw [hqueue]; exact .refl _), hflush, by rw [hsto]⟩

theorem nextAttempt_kept {s : State} {tx u : Transaction} (hl : s.cbc.line = some tx) (hc : u.command = tx.command)
    (ha : 1 ≤ u.attempt ∧ u.attempt ≤ 3) : BusKept s (nextAttempt s u) := by
  have hbusy : s.cbc.line.isSome = true := by rw [hl]; rfl
  by_cases hch : u.command = .admission .challenge
  · cases hstart : startChallenge s u.slot false with
    | none =>
      have hnext : nextAttempt s u = leaveLine (unbuiltChallenge s u.slot) := by
        unfold nextAttempt
        simp only [hch, hstart]
      obtain ⟨hb, hf, hp⟩ := unbuiltChallenge_bounds s u.slot
      rw [hnext]
      exact attendDrain_kept hb hf hp
    | some x =>
      obtain ⟨body, t⟩ := x
      have hframe := startChallenge_frame hstart
      have hline : t.cbc.line = some tx := by rw [hframe .cbc (by decide)]; exact hl
      rw [nextAttempt_challenge hch hstart]
      exact ((Joined.of_frame hframe (by decide)).trans
        (beginAttempt_joined (u := { u with body := body }) hline hc ha)).kept_busy hbusy
  · rw [nextAttempt_sameBody hch]
    exact (beginAttempt_joined hl hc ha).kept_busy hbusy

theorem failAttempt_kept {s : State} {tx : Transaction} {noted : List BusError} (hl : s.cbc.line = some tx) :
    BusKept s (failAttempt s tx noted) := by
  have howe : Joined s (oweBreak s) := joined_cbc (cbc_frame s _) rfl rfl rfl rfl
  have hline : (oweBreak s).cbc.line = some tx := hl
  rw [failAttempt_eq, endAttempt]
  split
  · exact (howe.kept rfl).trans (nextAttempt_kept hline rfl ⟨by simp, by simpa using ‹tx.attempt < 3›⟩)
  · exact (howe.trans (handOver_joined (by rw [hline]; rfl) tx _)).leaveLine

theorem acceptReply_kept {s : State} {tx : Transaction} {st : CartStatus} {body : List Byte} (hl : s.cbc.line = some tx) :
    BusKept s (acceptReply s tx st body) := by
  have hheld : BusKept s (heldLine s tx) :=
    lineMoved_kept (cbc_frame s _) (by rw [hl]; rfl) (by rw [hl]; rfl) rfl rfl
  exact .ite (hheld.trans (.of_frame (takeChallengeReply_frame _ body) (by decide)))
    (handOver_joined (by rw [hl]; rfl) tx _).leaveLine

theorem replyEnded_kept {s : State} {tx : Transaction} {address : Byte} {rest : List CbusChar} (hl : s.cbc.line = some tx) :
    BusKept s (replyEnded s tx address rest) := by
  unfold replyEnded
  split
  · exact acceptReply_kept hl
  · exact failAttempt_kept hl

/-! ### The work of a slot ended (R66) -/

theorem noCartridge_joined {s : State} (tx : Transaction) : Joined s (handOver s tx .noCartridge) := by
  cases hc : tx.command with
  | admission step =>
    rw [handOver_noCartridge_admission hc]
    exact .ite (freePrf_joined s) (.refl s)
  | writeBack op =>
    rw [handOver_noCartridge_writeBack hc]
    exact .refl s
  | readArea o l tag =>
    rw [handOver_noCartridge_read hc]
    exact .of_frame (passThroughResult_frame s _ _ _ _ _) (by decide)

theorem abortLine_bounds (s : State) (n : SlotId) : BoundsKept s (abortLine s n) ∧ (abortLine s n).cbc.flush = s.cbc.flush := by
  cases hl : s.cbc.line with
  | none =>
    rw [abortLine_none hl]
    exact ⟨.of_cbc rfl, rfl⟩
  | some tx =>
    by_cases hn : tx.slot = n
    · subst hn
      rw [abortLine_own hl]
      have hgone : BoundsKept s (abortedLine s tx) := .of_shrinks nofun (.refl _)
      exact ⟨hgone.trans (noCartridge_joined tx).toBoundsKept, (noCartridge_joined tx).flush⟩
    · rw [abortLine_other hl hn]
      exact ⟨.of_cbc rfl, rfl⟩

theorem cancelSlotWork_kept (s : State) (n : SlotId) : BusKept s (cancelSlotWork s n) := by
  have hcbc := dropEntries_cbc s n
  have hdrop : BoundsKept s (dropEntries s n) := by
    refine .of_shrinks (fun tx htx => .inl ⟨tx, ?_, rfl⟩) ?_
    · rw [hcbc] at htx
      exact htx
    · rw [hcbc]
      exact .of_sublist List.filter_sublist
  obtain ⟨hbounds, hflush⟩ := abortLine_bounds (dropEntries s n) n
  rw [cancelSlotWork_eq]
  refine attendDrain_kept (hdrop.trans hbounds) (by rw [hflush, hcbc]) ?_
  rw [show (abortLine (dropEntries s n) n).sto = _ from abortLine_others _ n .sto (by decide),
    show (dropEntries s n).sto = _ from dropEntries_frame s n .sto (by decide)]

theorem endSlotWork_kept (s : State) (n : SlotId) : BusKept s (endSlotWork s n) := by
  have hclose : BusKept s (closeAccount s n) := .of_cbc (closeAccount_frame s n .cbc (by decide)) (closeAccount_marks s n).power
  exact (hclose.trans (cancelSlotWork_kept _ n)).trans (.of_frame (dropEngineHolds_frame _ n) (by decide))

/-! ### Insertion, removal and triggers (R4, R11, R92) -/

theorem startReading_kept (s : State) (n : SlotId) : BusKept s (startReading s n) :=
  ((changeState_joined s n _).trans (withAdmission_joined _ n _)).arbitrate

/-- Only EXHAUSTED makes requests as it is entered (R91, R92). -/
theorem changeState_kept {st : SlotState} (h : st ≠ .exhausted) (s : State) (n : SlotId) : BusKept s (changeState s n st) := by
  rw [changeState_eq_moveSlot s n st h]
  exact .of_cbc rfl rfl

theorem insertion_kept (s : State) (n : SlotId) : BusKept s (insertion s n) :=
  .ite ((changeState_kept (st := .seated) nofun s n).trans (startReading_kept _ n)) (changeState_kept (st := .seated) nofun s n)

theorem removal_kept (s : State) (n : SlotId) : BusKept s (removal s n) := by
  rw [removal_eq]
  exact (endSlotWork_kept s n).trans (.of_frame (vacated_frame _ n _) (by decide))

theorem trigger_kept (s : State) (n : SlotId) : BusKept s (trigger s n) := .ite (enqueueOp_joined s n _).arbitrate (.refl s)

end Sys2Proof.Machine
end

section
/-! Every command and every bit-time keeps the bus within its bounds (R58 to R65, R182 to R184); O15. -/

namespace Sys2Proof.Machine

/-- A command keeps the bounds, and with them the agreement of flush mode and power state. That a CHALLENGE's check is made
with its transaction on the line is what the proof context's own invariant says (R34, R59). -/
def ExecBus (s : State) (o : Outcome) : Prop := ∀ t, o = .next t → BoundsKept s t ∧ (ProofSafe s → FlushSafe s → FlushSafe t)

theorem execBus_next {s t : State} (h : BusKept s t) : ExecBus s (.next t) := fun _ ht => by
  cases ht
  exact ⟨h.toBoundsKept, fun _ => h.flushSafe⟩

/-! ### The line (R45 to R59) -/

theorem onLine_bus {s : State} {f : Transaction → State} (h : ∀ tx, s.cbc.line = some tx → BusKept s (f tx)) :
    ExecBus s (.next (onLine s f)) := by
  refine execBus_next ?_
  unfold onLine
  split
  · next hl => exact .ite (h _ hl) (.refl s)
  · exact .refl s

theorem lowSeen_kept (s : State) : BusKept s (lowSeen s) := lineMoved_kept (cbc_frame s _) rfl rfl rfl rfl

theorem withIdle_kept (s : State) (k : Nat) : BusKept s (withIdle s k) := lineMoved_kept (cbc_frame s _) rfl rfl rfl rfl

theorem onCharacter_bus {s : State} {f : Transaction → State} (h : ∀ tx, s.cbc.line = some tx → BusKept s (f tx)) :
    ExecBus s (.next (onCharacter s f)) := by
  refine execBus_next ?_
  unfold onCharacter
  split
  · exact .refl s
  · next hl => exact h _ hl
  · exact lowSeen_kept s

theorem collided_kept {s : State} {tx : Transaction} (hl : s.cbc.line = some tx) : BusKept s (collided s tx) :=
  (lowSeen_kept s).trans (failAttempt_kept (s := lowSeen s) hl)

theorem execBreakEnd_bus (s : State) : ExecBus s (execBreakEnd s) := by
  refine onLine_bus fun tx hl => .ite ?_ (.refl s)
  have hover : BusKept s (breakOver s) := lineMoved_kept (cbc_frame s _) rfl rfl rfl rfl
  exact hover.trans (.ite (setLine_kept hl rfl rfl) (messageReady_kept hl))

theorem execBackoffComplete_bus (k : Nat) (s : State) : ExecBus s (execBackoffComplete k s) := by
  refine onLine_bus fun tx hl => .ite ?_ (.refl s)
  have hcounted : BusKept s (setCbc s { s.cbc with idle := min (8 * tx.attempt) k, backoff := 8 * tx.attempt }) :=
    lineMoved_kept (cbc_frame s _) rfl rfl rfl rfl
  exact hcounted.trans (messageReady_kept hl)

theorem execCollision_bus (s : State) : ExecBus s (execCollision s) := by
  refine onLine_bus fun tx hl => ?_
  split
  · exact collided_kept hl
  · exact .refl s

theorem execMessageSent_bus (s : State) : ExecBus s (execMessageSent s) := by
  refine onLine_bus fun tx hl => ?_
  split
  · exact setLine_kept hl rfl rfl
  · exact .refl s

theorem execReplyAddressCharacter_bus (data : Byte) (s : State) : ExecBus s (execReplyAddressCharacter data s) := by
  refine onCharacter_bus fun tx hl => ?_
  split
  · exact setLine_kept hl rfl rfl
  · exact .refl s
  · exact .refl s
  · exact lowSeen_kept s

theorem execReplyDeadlineExpiry_bus (s : State) : ExecBus s (execReplyDeadlineExpiry s) :=
  onLine_bus fun _ hl => .ite (failAttempt_kept hl) (.ite (setLine_kept hl rfl rfl) (.refl s))

theorem execCbusFramingError_bus (s : State) : ExecBus s (execCbusFramingError s) := by
  refine onCharacter_bus fun tx hl => ?_
  dsimp only
  split
  · exact setLine_kept hl rfl rfl
  · exact setLine_kept hl rfl rfl
  · exact collided_kept hl
  · exact .refl s
  · exact lowSeen_kept s

theorem execFramingDiscardEnd_bus (s : State) : ExecBus s (execFramingDiscardEnd s) := by
  refine onLine_bus fun tx hl => ?_
  split
  · have hfail : BusKept (withIdle s 11) (failAttempt (withIdle s 11) tx tx.noted) := failAttempt_kept hl
    exact (withIdle_kept s 11).trans hfail
  · exact .refl s

theorem execCbusReplyEnd_bus (rest : List CbusChar) (s : State) : ExecBus s (execCbusReplyEnd rest s) := by
  refine onLine_bus fun tx hl => ?_
  split
  · next address _ =>
    have hended (k : Nat) : BusKept (withIdle s k) (replyEnded (withIdle s k) tx address rest) := replyEnded_kept hl
    exact (withIdle_kept s _).trans (hended (replyIdle address rest))
  · exact .refl s

theorem execReplyLengthLimitExpiry_bus (s : State) : ExecBus s (execReplyLengthLimitExpiry s) := by
  refine onLine_bus fun tx hl => ?_
  split
  · exact failAttempt_kept hl
  · exact .refl s

theorem execIdleWaitLimitExpiry_bus (s : State) : ExecBus s (execIdleWaitLimitExpiry s) := by
  refine onLine_bus fun tx hl => ?_
  split
  · exact failAttempt_kept hl
  · exact failAttempt_kept hl
  · exact failAttempt_kept hl
  · exact .refl s

/-! ### The digest engine (R35 to R37) -/

theorem execDerivedKeyDigestComplete_bus (s : State) : ExecBus s (execDerivedKeyDigestComplete s) := by
  have hready (key : BitVec 64) : BusKept s (keyReady s key) := .of_frame (prf_frame s _) (by decide)
  refine execBus_next ?_
  split
  · exact .ite (.ite ((hready _).trans (.of_frame (startResponseDigest_frame _) (by decide))) (hready _)) (.refl s)
  · exact .refl s

/-- With its transaction on the line or not, a checked CHALLENGE keeps the bounds as it leaves. -/
theorem leaveHeld_bounds (s : State) : BoundsKept s (leaveHeld s) := by
  unfold leaveHeld
  split
  · split
    · exact (Joined.refl s).leaveLine.toBoundsKept
    · exact .of_cbc rfl
  · exact .of_cbc rfl

/-- The transaction of a checked CHALLENGE leaves the line with what the check asked for. -/
theorem Joined.leaveHeld {s t : State} (h : Joined s t) (hl : s.cbc.line.isSome = true) : BusKept s (leaveHeld t) := by
  unfold Machine.leaveHeld
  split
  · split
    · exact h.leaveLine
    · exact h.kept_busy hl
  · exact h.kept_busy hl

/-- A digest is under way for the CHALLENGE on the line (R34). -/
theorem ProofSafe.busy {s : State} {d : Digest} (h : ProofSafe s) (hd : s.prf.digest = some d) : s.cbc.line.isSome = true := by
  by_contra hl
  obtain ⟨-, hnone, -⟩ := h.free (by simpa using hl)
  rw [hd] at hnone
  cases hnone

theorem execResponseDigestComplete_bus (s : State) : ExecBus s (execResponseDigestComplete s) := by
  unfold execResponseDigestComplete
  split
  · next key message hd =>
    split
    · intro t ht
      cases ht
      have hjoined := responseChecked_joined s (Config.kd key message)
      exact ⟨hjoined.toBoundsKept.trans (leaveHeld_bounds _), fun hp => (hjoined.leaveHeld (hp.busy hd)).flushSafe⟩
    · exact execBus_next (.refl s)
  · exact execBus_next (.refl s)

/-! ### Requests of the system port (8.3 to 8.6) -/

theorem sysp_kept (s : State) (x : Sysp) : BusKept s { s with sysp := x } := .of_frame (sysp_frame s x) (by decide)

theorem sysRequest_bus {s : State} {sel : Selection} {k : Byte} {len : Nat} {act : State → Answer} (h : ∀ t, BusKept t (act t).1) :
    ExecBus s (.next (sysRequest s sel k len act)) :=
  execBus_next (.ite ((((sysp_kept s _).trans (sysp_kept _ _)).trans (h _)).trans (sysp_kept _ _)) (.refl s))

theorem sysReport_bus {s : State} {sel : Selection} {k : Byte} {len : Nat} {act : State → Answer} (h : ∀ t, (act t).1 = t) :
    ExecBus s (.next (sysRequest s sel k len act)) := sysRequest_bus fun t => by rw [h t]; exact .refl t

theorem forSlot_kept {slot : Byte} {act : SlotId → State → Answer} (h : ∀ n t, BusKept t (act n t).1) (t : State) :
    BusKept t (forSlot slot act t).1 := by
  unfold forSlot
  split
  · exact .refl t
  · exact h _ t

theorem storeMode_kept (s : State) (n : SlotId) (m : Mode) : BusKept s (storeMode s n m) :=
  .of_cbc (storeMode_frame s n m .cbc (by decide)) (by rw [storeMode_sto])

theorem modSlot_kept (s : State) (n : SlotId) (f : SlotRec → SlotRec) : BusKept s (modSlot s n f) :=
  .of_frame (modSlot_frame s n f) (by decide)

theorem actSetSlotMode_kept (mode : Byte) (n : SlotId) (s : State) : BusKept s (actSetSlotMode mode n s).1 := by
  unfold actSetSlotMode
  split
  · exact .refl s
  · exact (storeMode_kept s n _).trans (.ite (startReading_kept _ n) (.refl _))

theorem actAdmit_kept (n : SlotId) (s : State) : BusKept s (actAdmit n s).1 := by
  unfold actAdmit
  split
  · exact .refl s
  · split
    · exact .refl s
    · exact startReading_kept s n

theorem actPark_kept (n : SlotId) (s : State) : BusKept s (actPark n s).1 := by
  unfold actPark
  split
  · exact (modSlot_kept s n fun r => { r with target := .parked }).trans (changeState_kept (st := .parked) nofun _ n)
  · exact .refl s

theorem actUnpark_kept (n : SlotId) (s : State) : BusKept s (actUnpark n s).1 := by
  unfold actUnpark
  split
  · exact .refl s
  · split
    · exact .refl s
    · exact ((modSlot_joined s n _).trans (changeState_joined _ n _)).arbitrateIfJoined

theorem actRetry_kept (n : SlotId) (s : State) : BusKept s (actRetry n s).1 := by
  unfold actRetry
  split
  · split
    · exact .refl s
    · exact BusKept.trans (.ite (endSlotWork_kept s n) (.refl s)) (startReading_kept _ n)
  · exact .refl s

theorem actSetLamp_kept (pattern : Byte) (n : SlotId) (s : State) : BusKept s (actSetLamp pattern n s).1 := by
  unfold actSetLamp
  split
  · exact .refl s
  · exact modSlot_kept s n _

theorem actTakeEvents_kept (k : Byte) (s : State) : BusKept s (actTakeEvents k s).1 := by
  unfold actTakeEvents
  split
  · exact .refl s
  · exact sysp_kept s _

/-- Marks of records to write are no power state (R174, R182). -/
theorem BusKept.of_marks {s t : State} {ps : List Part} (h : OnlyChanges ps s t) (hp : .cbc ∉ ps) (hm : MarksOnly s t) : BusKept s t :=
  .of_cbc (h .cbc hp) hm.power

theorem settings_kept (s : State) (x : Settings) : BusKept s { s with settings := x } := .of_frame (settings_frame s x) (by decide)

theorem markDirty_kept (s : State) (r : Fin 118) : BusKept s (markDirty s r) := .of_marks (markDirty_frame s r) (by decide) (markDirty_marks s r)

theorem actSetPolicy_kept (g p : Byte) (s : State) : BusKept s (actSetPolicy g p s).1 := by
  unfold actSetPolicy
  split
  · exact .ite (.refl s) ((settings_kept s _).trans (markDirty_kept _ _))
  · exact .refl s

theorem actSetLimits_kept (l : Limits) (s : State) : BusKept s (actSetLimits l s).1 := by
  have hstored : BusKept s (limitsStored s (clampLimits l)) := (settings_kept s _).trans (markDirty_kept _ _)
  have hlevels (t : State) : BusKept t (forSlots refreshLevel t) :=
    .foldl refreshLevel (fun u n => .of_frame (refreshLevel_frame u n) (by decide)) allSlots t
  exact .ite (.refl s) (.ite (hstored.trans (hlevels _)) hstored)

theorem forSlots_trigger_kept (s : State) : BusKept s (forSlots trigger s) := .foldl trigger trigger_kept allSlots s

theorem actFlush_kept (s : State) : BusKept s (actFlush s).1 := by
  unfold actFlush
  dsimp only
  exact forSlots_trigger_kept s

/-- A read is accepted while fewer than four wait (R63, R153). -/
theorem readRefusal_room {s : State} {a b c : Byte} (h : readRefusal s a b c = none) : s.cbc.queue.countP QEntry.isPassThrough < 4 := by
  unfold readRefusal at h
  split at h
  · cases h
  · split at h
    · cases h
    · split at h
      · cases h
      · split at h
        · cases h
        · next hroom =>
          rw [List.countP_eq_length_filter]
          omega

theorem joinRead_kept {s : State} {n : SlotId} {o l : Byte} {tag : Nat} (h : s.cbc.queue.countP QEntry.isPassThrough < 4) :
    BusKept s (joinQueue s (.passThrough n o l tag)) := (withEntry_joined (fun _ => rfl) fun _ => h).arbitrate

theorem takeCartRead_kept {s : State} {a b c : Byte} : BusKept s (takeCartRead s a b c) := by
  unfold takeCartRead
  split
  · next hr _ =>
    exact (sysp_kept s _).trans (joinRead_kept (readRefusal_room hr))
  · exact sysp_kept s _
  · exact .refl s

theorem execSysFrameRejected_bus (frame : List Byte) (sel : Selection) (s : State) : ExecBus s (execSysFrameRejected frame sel s) := by
  unfold execSysFrameRejected
  split
  · split
    · exact execBus_next (.refl s)
    · exact sysReport_bus fun _ => rfl
  · exact execBus_next (.refl s)

/-! ### Requests and timers of the engine port (chapter 6) -/

theorem engp_kept (s : State) (x : Engp) : BusKept s { s with engp := x } := .of_frame (engp_frame s x) (by decide)

theorem engRequest_bus {s : State} {sel : Selection} {k : Byte} {len : Nat} {act : State → EngAnswer}
    (h : ∀ t, BusKept t (act t).state) : ExecBus s (.next (engRequest s sel k len act)) :=
  execBus_next (.ite (((engp_kept s _).trans (h _)).trans (engp_kept _ _)) (.refl s))

theorem engp_joined (s : State) (x : Engp) : Joined s { s with engp := x } := .of_frame (engp_frame s x) (by decide)

theorem actDropReport_kept (id temperature : Byte) (l : List DropEntry) (s : State) : BusKept s (actDropReport id temperature l s).state := by
  unfold actDropReport
  split
  · exact .refl s
  · exact (Joined.trans (.ite (engp_joined s _) (.refl s)) (takeEntries_joined id _ l _)).arbitrateIfJoined

theorem actCloseSwath_kept (id : Byte) (s : State) : BusKept s (actCloseSwath id s).state := by
  unfold actCloseSwath
  split
  · next w _ =>
    rw [closeSwath_eq]
    refine (BusKept.trans (t := dropSwath s w.id) (engp_kept s _) ?_).trans
      (.of_frame ((stopIfNoneOpen_frame _).trans (clearIfEmpty_frame _)) (by decide))
    exact .foldl (fun t (l : Listed) => trigger t l.slot) (fun t l => trigger_kept t l.slot) w.slots _
  · exact .refl s

theorem actPurgeEnd_kept (slot : Byte) (actual : Half) (s : State) : BusKept s (actPurgeEnd slot actual s).state := by
  unfold actPurgeEnd
  split
  · exact .refl s
  · split
    · exact (((engp_joined s _).trans (debitPurge_joined _ _ _)).trans (requestAddUsed_joined _ _)).arbitrateIfJoined
    · exact .refl s

theorem execEngFrameRejected_bus (frame : List Byte) (sel : Selection) (s : State) : ExecBus s (execEngFrameRejected frame sel s) := by
  unfold execEngFrameRejected
  split
  · split
    · exact execBus_next (.refl s)
    · exact engRequest_bus fun t => .refl t
  · exact execBus_next (.refl s)

theorem postEvent_bus (s : State) (k : EventKind) (n c : Byte) (v : Option Word) : BusKept s (postEvent s k n c v) :=
  .of_frame (postEvent_frame s k n c v) (by decide)

theorem execReportWatchdogExpiry_bus (s : State) : ExecBus s (execReportWatchdogExpiry s) :=
  execBus_next (.ite (((engp_kept s _).trans (engp_kept _ _)).trans (postEvent_bus _ _ _ _ _)) (.refl s))

theorem execSwathTimerExpiry_bus (id : Byte) (s : State) : ExecBus s (execSwathTimerExpiry id s) := by
  unfold execSwathTimerExpiry
  split
  · refine execBus_next (.ite (BusKept.trans ?_ (postEvent_bus _ _ _ _ _)) (.refl s))
    exact .of_frame ((modSwath_frame s _ _).trans (stopIfNoneOpen_frame _)) (by decide)
  · exact execBus_next (.refl s)

theorem execPurgeTimerExpiry_bus (n : SlotId) (s : State) : ExecBus s (execPurgeTimerExpiry n s) := by
  unfold execPurgeTimerExpiry
  split
  · exact execBus_next (.ite
      (((engp_joined s _).trans (debitPurge_joined _ n _)).trans (postEvent_joined _ _ _ _ _)).arbitrateIfJoined (.refl s))
  · exact execBus_next (.refl s)

/-! ### The service line (chapter 9) -/

theorem svl_kept (s : State) (x : Svl) : BusKept s { s with svl := x } := .of_frame (svl_frame s x) (by decide)

theorem privileged_bus {s : State} {k : Byte} {act : State → Answer} (h : ∀ t, BusKept t (act t).1) :
    ExecBus s (.next (privileged s k act)) := by
  have hreply (t : State) (st : Status) (b : List Byte) : BusKept t (svcReply t k st b) := svl_kept t _
  exact execBus_next (.ite (.ite (((svl_kept s _).trans (h _)).trans (hreply _ _ _)) ((svl_kept s _).trans (hreply _ _ _))) (.refl s))

theorem openCommand_bus {s : State} {k : Byte} {act : State → Answer} (h : ∀ t, (act t).1 = t) : ExecBus s (.next (openCommand s k act)) :=
  execBus_next (.of_frame (openCommand_frame s k act h) (by decide))

theorem unlockFrame_bus (s : State) (k : Byte) (r : Unlock × Status) : ExecBus s (.next (unlockFrame s k r)) :=
  execBus_next (.ite ((svl_kept s _).trans (svl_kept _ _)) (.refl s))

theorem actWriteCal_kept (slot : Byte) (vS vM vL : Half) (kappa : Byte) (s : State) : BusKept s (actWriteCal slot vS vM vL kappa s).1 := by
  have hstored (n : SlotId) (c : Calibration) : BusKept s (storeCalibration s n c) := .of_cbc rfl rfl
  unfold actWriteCal
  split
  · exact .refl s
  · split
    · exact .refl s
    · split
      · exact .refl s
      · split
        · exact .refl s
        · exact hstored _ _

theorem actLockCal_kept (mask : Half) (s : State) : BusKept s (actLockCal mask s).1 := by
  have hlocks : BusKept s { s with locks := locksWith s mask } := .of_cbc rfl rfl
  unfold actLockCal
  split
  · exact .refl s
  · split
    · exact .refl s
    · exact .ite (.refl s) (hlocks.trans (markDirty_kept _ _))

theorem actWriteColourMap_kept (c : Vector Byte 10) (s : State) : BusKept s (actWriteColourMap c s).1 := by
  unfold actWriteColourMap
  split
  · exact (settings_kept s _).trans (markDirty_kept _ _)
  · exact .refl s

theorem actWriteFilter_kept (e : Byte) (x : FilterImage) (s : State) : BusKept s (actWriteFilter e x s).1 := by
  unfold actWriteFilter
  split
  · split
    · exact (BusKept.of_frame (his_frame s _) (by decide)).trans (markDirty_kept _ _)
    · exact .refl s
  · exact .refl s

theorem actClearHistory_kept (table scope : Byte) (serial : Serial) (s : State) : BusKept s (actClearHistory table scope serial s).1 := by
  have hseen (f : SeenEntry → Bool) : BusKept s (clearSeen s f).1 :=
    .of_cbc (clearSeen_frame s f .cbc (by decide)) (foldl_markDirty_marks recSeen _ _).power
  have hretired (f : RetiredEntry → Bool) : BusKept s (clearRetired s f).1 :=
    .of_cbc (clearRetired_frame s f .cbc (by decide)) (foldl_markDirty_marks recRetired _ _).power
  unfold actClearHistory clearTable
  split
  · dsimp only
    split
    · exact hseen _
    · exact hretired _
  · exact .refl s

theorem actLoadKey_kept (index : Byte) (key : BitVec 128) (s : State) : BusKept s (actLoadKey index key s).1 := by
  by_cases hr : 3 < index.toNat
  · rw [actLoadKey_range hr]
    exact .refl s
  · rw [actLoadKey_slot (k := ⟨index.toNat, by omega⟩) rfl]
    split
    · exact .refl s
    · exact .of_cbc rfl rfl

theorem execSyncSamplesComplete_bus (a b c : Bool) (s : State) : ExecBus s (execSyncSamplesComplete a b c s) := by
  unfold execSyncSamplesComplete
  split
  · exact execBus_next (.ite (.ite (svl_kept s _) (svl_kept s _)) (.refl s))
  · exact execBus_next (.refl s)

theorem execStoreCheckComplete_bus (s : State) : ExecBus s (execStoreCheckComplete s) := by
  unfold execStoreCheckComplete
  split
  · exact execBus_next (.ite ((svl_kept s _).trans (svl_kept _ _)) (.refl s))
  · exact execBus_next (.refl s)

theorem execSvcFrameRejected_bus (frame : List Byte) (s : State) : ExecBus s (execSvcFrameRejected frame s) := by
  unfold execSvcFrameRejected
  split
  · exact openCommand_bus fun _ => rfl
  · exact execBus_next (.ite (svl_kept s _) (.refl s))
  · exact execBus_next (.refl s)

theorem lineError_kept (s : State) : BusKept s (lineError s) := .of_frame (lineError_frame s) (by decide)

/-! ### Presence and the store (R3, R180) -/

theorem lines_kept (s : State) (l : Lines) : BusKept s { s with lines := l } := .of_frame (lines_frame s l) (by decide)

theorem execPresenceLineChange_bus (n : SlotId) (high : Bool) (s : State) : ExecBus s (execPresenceLineChange n high s) :=
  execBus_next (.ite (.refl s) (.ite ((lines_kept s _).trans (modSlot_kept _ n _)) (lines_kept s _)))

theorem execPresenceTimerExpiry_bus (n : SlotId) (s : State) : ExecBus s (execPresenceTimerExpiry n s) := by
  have hsense : BusKept s (senseSlot s n s.lines.presence[n]) := modSlot_kept s n _
  rw [execPresenceTimerExpiry_eq]
  exact execBus_next (.ite (.ite (hsense.trans (insertion_kept _ n)) (.ite (hsense.trans (removal_kept _ n)) hsense)) (.refl s))

/-- The stored records, their marks, the writer and the filter: all of STO but the power state. -/
theorem sto_kept {s : State} {x : Sto} (h : x.power = s.sto.power) : BusKept s { s with sto := x } := .of_cbc rfl h

theorem endCarried_kept (s : State) : BusKept s (endCarried s) := by
  unfold endCarried
  split
  · exact .of_cbc rfl rfl
  · exact .refl s

theorem execWriterStart_bus (s : State) : ExecBus s (execWriterStart s) := by
  have hcheck : BusKept s (noteCheck s) := by
    unfold noteCheck
    split
    · exact .refl s
    · exact .of_cbc rfl rfl
  refine execBus_next (.ite ?_ (.refl s))
  split
  · exact hcheck.trans (sto_kept rfl)
  · exact .refl s

theorem execWriteComplete_bus (s : State) : ExecBus s (execWriteComplete s) := by
  have hended (w : Fin 118 × Contents) : BusKept s (endWrite s w) := .of_cbc rfl rfl
  unfold execWriteComplete
  split
  · exact execBus_next (.ite (hended _) (endCarried_kept s))
  · exact execBus_next (.ite (.refl s) (endCarried_kept s))

/-! ### The power-failure flush (R182, R184) -/

/-- A queue with nothing to serve in normal service has nothing to serve in flush mode either (R64, R65). -/
theorem splitAddUsed_of_oldestEntry {q : List QEntry} (h : oldestEntry q = none) : splitAddUsed q = none := by
  induction q with
  | nil => rfl
  | cons e q ih =>
    cases e with
    | admission n step => cases h
    | passThrough n o l tag => cases h
    | writeBack n ops =>
      cases ops with
      | nil => rw [splitAddUsed_skip (by rintro m o ⟨⟩; nofun), ih h, Option.map_none]
      | cons op ops => cases h

theorem warned_attended {s : State} (h : FlushSafe s) : Attended (warned s) where
  mode := ⟨fun _ => nofun, fun _ => rfl⟩
  idle hl := by
    have hnone : nextEntry s.cbc.flush s.cbc.queue = none := h.attended.idle hl
    show nextEntry true s.cbc.queue = none
    cases hf : s.cbc.flush with
    | true => rwa [hf] at hnone
    | false =>
      rw [hf] at hnone
      rw [nextEntry, if_pos rfl, oldestAddUsed, splitAddUsed_of_oldestEntry hnone, Option.map_none]

theorem trigger_attended {s : State} (h : Attended s) (n : SlotId) : Attended (trigger s n) := by
  unfold trigger
  split
  · exact arbitrate_attended h.mode
  · exact h

theorem triggers_attended (l : List SlotId) {s : State} (h : Attended s) : Attended (l.foldl trigger s) := by
  induction l generalizing s with
  | nil => exact h
  | cons n l ih => exact ih (trigger_attended h n)

theorem assertPfail_kept (s : State) : BusKept s (assertPfail s) where
  toBoundsKept := by
    have hwarned : BoundsKept s (warned s) := .of_shrinks (fun tx htx => .inl ⟨tx, htx, rfl⟩) (.refl _)
    rw [assertPfail_eq]
    exact (hwarned.trans (forSlots_trigger_kept _).toBoundsKept).trans (drainCheck_kept _).toBoundsKept
  flushSafe h := drainCheck_flushSafe (triggers_attended allSlots (warned_attended h))

theorem withdrawPfail_kept (s : State) : BusKept s (withdrawPfail s) where
  toBoundsKept := by
    have hunwarned : BoundsKept s (unwarned s) := .of_shrinks (fun tx htx => .inl ⟨tx, htx, rfl⟩) (.refl _)
    rw [withdrawPfail_eq]
    exact hunwarned.trans (arbitrate_bounds _)
  flushSafe _ := by
    rw [withdrawPfail_eq]
    refine (flushSafe_iff _).2 ⟨arbitrate_attended ⟨nofun, fun h => absurd rfl h⟩, fun hp => ?_⟩
    rw [arbitrate_frame _ .sto (by decide)] at hp
    cases hp

/-! ### Resets and the load (R179, R185) -/

/-- A full reset leaves the bus free, with nothing waiting. -/
theorem fullReset_kept (s u : State) (p : Phase) : BusKept u (fullReset s p) where
  bus _ := ⟨nofun, Nat.zero_le _⟩
  entries _ := ⟨fun _ => Nat.zero_le _, nofun⟩
  flushSafe _ := ⟨⟨nofun, fun h => absurd rfl h⟩, fun _ => rfl, nofun⟩

theorem resetIfDue_kept (s : State) : BusKept s (resetIfDue s) := .ite (fullReset_kept s s _) (.refl s)

theorem loaded_kept (s : State) : BusKept s (loaded s) := by
  have hload (u : State) : BusKept u (startUpLoad u) := by
    rw [startUpLoad_eq]
    exact (BusKept.of_marks (loadRecords_frame u) (by decide) (loadRecords_spec u).2).trans
      (.of_frame (postLoadEvents_frame _ _ _) (by decide))
  exact ((endCarried_kept s).trans (hload _)).trans (.of_cbc rfl rfl)

theorem finishLoad_kept (s : State) : BusKept s (finishLoad s) := by
  have hfilter : BusKept (loaded s) (filtering (loaded s)) := sto_kept rfl
  have hpfail : BusKept (loaded s) (samplePfail (loaded s)) := by
    rw [samplePfail_eq]
    exact .ite hfilter (hfilter.trans (assertPfail_kept _))
  have hsample (t : State) (n : SlotId) : BusKept t (sampleSlot t n) := by
    rw [sampleSlot_eq]
    exact .ite ((modSlot_kept t n _).trans (insertion_kept _ n)) (.refl t)
  rw [finishLoad_eq]
  exact ((loaded_kept s).trans hpfail).trans (.foldl sampleSlot hsample allSlots _)

theorem execResetLineAsserted_bus (s : State) : ExecBus s (execResetLineAsserted s) :=
  execBus_next (.ite (.refl s) (.ite (lines_kept s _) (fullReset_kept _ s _)))

theorem execResetLineWithdrawn_bus (s : State) : ExecBus s (execResetLineWithdrawn s) := by
  have hloading (t : State) : BusKept t { t with phase := .loading } := .of_cbc rfl rfl
  exact execBus_next (.ite ((lines_kept s _).trans (hloading _)) (lines_kept s _))

/-! ### Every command, and the step -/

theorem exec_bus (i : Instr) (s : State) : ExecBus s (exec i s) := by
  cases i with
  | presenceLineChange slot high => exact execPresenceLineChange_bus slot high s
  | presenceTimerExpiry slot => exact execPresenceTimerExpiry_bus slot s
  | lampPhaseExpiry slot => exact execBus_next (.ite (modSlot_kept s slot _) (.refl s))
  | derivedKeyDigestComplete => exact execDerivedKeyDigestComplete_bus s
  | responseDigestComplete => exact execResponseDigestComplete_bus s
  | breakEnd => exact execBreakEnd_bus s
  | backoffComplete idleRun => exact execBackoffComplete_bus idleRun s
  | preambleComplete => exact onLine_bus fun tx hl => .ite (setLine_kept hl rfl rfl) (.refl s)
  | collision => exact execCollision_bus s
  | messageSent => exact execMessageSent_bus s
  | replyAddressCharacter data => exact execReplyAddressCharacter_bus data s
  | replyDeadlineExpiry => exact execReplyDeadlineExpiry_bus s
  | cbusFramingError => exact execCbusFramingError_bus s
  | framingDiscardEnd => exact execFramingDiscardEnd_bus s
  | cbusReplyEnd rest => exact execCbusReplyEnd_bus rest s
  | replyLengthLimitExpiry => exact execReplyLengthLimitExpiry_bus s
  | idleWaitLimitExpiry => exact execIdleWaitLimitExpiry_bus s
  | slotStatus slot sel => exact sysRequest_bus (forSlot_kept fun _ t => .refl t)
  | levels sel => exact sysReport_bus fun _ => rfl
  | setSlotMode slot mode sel => exact sysRequest_bus (forSlot_kept (actSetSlotMode_kept mode))
  | admitSlot slot sel => exact sysRequest_bus (forSlot_kept actAdmit_kept)
  | park slot sel => exact sysRequest_bus (forSlot_kept actPark_kept)
  | unpark slot sel => exact sysRequest_bus (forSlot_kept actUnpark_kept)
  | retry slot sel => exact sysRequest_bus (forSlot_kept actRetry_kept)
  | ackAlert slot sel => exact sysRequest_bus (forSlot_kept fun n t => modSlot_kept t n _)
  | setLamp slot pattern sel => exact sysRequest_bus (forSlot_kept (actSetLamp_kept pattern))
  | takeEvents n sel => exact sysRequest_bus (actTakeEvents_kept n)
  | cartRead slot offset length sel => exact execBus_next (.ite ((sysp_kept s _).trans takeCartRead_kept) (.refl s))
  | setPolicy nonGenuine suspect sel => exact sysRequest_bus (actSetPolicy_kept nonGenuine suspect)
  | setLimits low reserve threshold window swath purge sel => exact sysRequest_bus (actSetLimits_kept _)
  | flush sel => exact sysRequest_bus actFlush_kept
  | historyRead table index sel => exact sysReport_bus (actHistoryRead_state table index)
  | accountStats slot sel => exact sysRequest_bus (forSlot_kept fun n t => by rw [actAccountStats_state]; exact .refl t)
  | sysFrameRejected frame sel => exact execSysFrameRejected_bus frame sel s
  | sysPartialSelection received ready => exact execBus_next (.ite (sysp_kept s _) (.refl s))
  | sysCollectSelection clocked ready => exact execBus_next (.ite (sysp_kept s _) (.refl s))
  | openSwath id asks sel => exact engRequest_bus fun t => .of_frame (actOpenSwath_frame id asks t) (by decide)
  | dropReport id temperature entries sel => exact engRequest_bus (actDropReport_kept id temperature entries)
  | closeSwath id sel => exact engRequest_bus (actCloseSwath_kept id)
  | purgeStart slot amount sel => exact engRequest_bus fun t => .of_frame (actPurgeStart_frame slot amount t) (by decide)
  | purgeEnd slot actual sel => exact engRequest_bus (actPurgeEnd_kept slot actual)
  | gateStatus sel => exact engRequest_bus fun t => .refl t
  | engineRestart sel => exact engRequest_bus fun t => .of_frame (restartEngine_frame t) (by decide)
  | engFrameRejected frame sel => exact execEngFrameRejected_bus frame sel s
  | engPartialSelection received ready => exact execBus_next (.ite (engp_kept s _) (.refl s))
  | engCollectSelection clocked ready => exact execBus_next (.ite (engp_kept s _) (.refl s))
  | reportWatchdogExpiry => exact execReportWatchdogExpiry_bus s
  | swathTimerExpiry id => exact execSwathTimerExpiry_bus id s
  | purgeTimerExpiry slot => exact execPurgeTimerExpiry_bus slot s
  | syncLowRunEnd lowNs => exact execBus_next (.ite (svl_kept s _) (.refl s))
  | syncSamplesComplete first second third => exact execSyncSamplesComplete_bus first second third s
  | ident | slotDump | historyDump => exact openCommand_bus fun _ => rfl
  | storeCheck | svcGapTimeout | svcReplyStart | svcBreakStart => exact execBus_next (.ite (svl_kept s _) (.refl s))
  | storeCheckComplete => exact execStoreCheckComplete_bus s
  | unlockA code => exact unlockFrame_bus s _ _
  | unlockB code => exact unlockFrame_bus s _ _
  | writeCal slot vS vM vL kappa => exact privileged_bus (actWriteCal_kept slot vS vM vL kappa)
  | lockCal mask => exact privileged_bus (actLockCal_kept mask)
  | writeColourMap colours => exact privileged_bus (actWriteColourMap_kept colours)
  | setRegion region => exact privileged_bus fun t => (settings_kept t _).trans (markDirty_kept _ _)
  | writeFilter entry enabled offset mask expected chain invert action => exact privileged_bus (actWriteFilter_kept entry _)
  | clearHistory table scope serial => exact privileged_bus (actClearHistory_kept table scope serial)
  | loadKey index key => exact privileged_bus (actLoadKey_kept index key)
  | restart => exact privileged_bus fun t => svl_kept t _
  | svcFrameRejected frame => exact execSvcFrameRejected_bus frame s
  | svcReplySent | svcBreakEnd => exact execBus_next (.ite ((svl_kept s _).trans (resetIfDue_kept _)) (.refl s))
  | svcFramingError | toolBreak => exact execBus_next (lineError_kept s)
  | svcCollision => exact execBus_next (.ite (lineError_kept s) (.refl s))
  | pfailNChange high => exact execBus_next (.ite (.refl s) (.of_cbc rfl rfl))
  | pfailAsserted => exact execBus_next (.ite (assertPfail_kept s) (.refl s))
  | pfailWithdrawn => exact execBus_next (.ite (withdrawPfail_kept s) (.refl s))
  | busFlushDrained => exact execBus_next (.ite (drainCheck_kept s) (.refl s))
  | storeFlushComplete => exact execBus_next (.ite (storeFlushCheck_kept s) (.refl s))
  | writerStart => exact execWriterStart_bus s
  | writeComplete => exact execWriteComplete_bus s
  | powerOn => exact execBus_next (fullReset_kept _ s _)
  | resetLineAsserted => exact execResetLineAsserted_bus s
  | resetLineWithdrawn => exact execResetLineWithdrawn_bus s
  | startUpLoadComplete => exact execBus_next (.ite (finishLoad_kept s) (.refl s))
  | powerLoss => exact execBus_next (.ite (.refl s) (fullReset_kept _ s _))

theorem tick_kept (s : State) : BusKept s (tick s) := by
  have hsent (tx : Transaction) : (sentOn tx).command = tx.command ∧ (sentOn tx).attempt = tx.attempt := by
    unfold sentOn
    split <;> exact ⟨rfl, rfl⟩
  have hbus : BusKept s { s with cbc := busAfter s.cbc } := by
    refine lineMoved_kept (cbc_frame s _) ?_ ?_ rfl rfl
    · show (s.cbc.line.map sentOn).map _ = _
      rw [Option.map_map]
      exact congrArg (Option.map · s.cbc.line) (funext fun tx => (hsent tx).1)
    · show (s.cbc.line.map sentOn).map _ = _
      rw [Option.map_map]
      exact congrArg (Option.map · s.cbc.line) (funext fun tx => (hsent tx).2)
  exact .ite (.refl s) (hbus.trans (.of_frame (clockSvl_frame { s with cbc := busAfter s.cbc } _ _) (by decide)))

theorem step_bus {s t : State} (h : step s = .next t) : BoundsKept s t ∧ (ProofSafe s → FlushSafe s → FlushSafe t) := by
  unfold step at h
  split at h
  · next i l _ =>
    obtain ⟨hbounds, hflush⟩ := exec_bus i { s with pending := l } t h
    have hpending : BoundsKept s { s with pending := l } := .of_cbc rfl
    exact ⟨hpending.trans hbounds, hflush⟩
  · cases h
    exact ⟨(tick_kept s).toBoundsKept, fun _ => (tick_kept s).flushSafe⟩

/-! ### The places of each slot (R60 to R63) -/

theorem slot_count {α : Type} (f : QEntry → Option α) (slot : α → SlotId) (p : SlotId → QEntry → Bool) (q : List QEntry) (n : SlotId)
    (h : ∀ e, p n e = ((f e).map slot == some n)) : ((q.filterMap f).map slot).count n = q.countP (p n) := by
  induction q with
  | nil => rfl
  | cons e q ih =>
    rw [List.countP_cons, ← ih, h e, List.filterMap_cons]
    cases f e with
    | none => rfl
    | some a => rw [List.map_cons, List.count_cons]; rfl

/-- The slots of the waiting admission steps are distinct just when each slot has one place of them (R61). -/
theorem admissions_count (q : List QEntry) (n : SlotId) :
    ((queueWork q).map (·.1)).count n = q.countP (QEntry.isAdmissionOf n) :=
  slot_count QEntry.admissionStep (·.1) QEntry.isAdmissionOf q n fun e => by cases e <;> rfl

/-- The slot of a write-back entry. -/
def QEntry.writeBackSlot : QEntry → Option SlotId
  | .writeBack n _ => some n
  | _ => none

theorem writeBacks_count (q : List QEntry) (n : SlotId) :
    ((q.filterMap QEntry.writeBackSlot).map id).count n = q.countP (QEntry.isWriteBackOf n) :=
  slot_count QEntry.writeBackSlot id QEntry.isWriteBackOf q n fun e => by cases e <;> rfl

theorem queue_length_eq (q : List QEntry) :
    q.length = (queueWork q).length + (q.filterMap QEntry.writeBackSlot).length + q.countP QEntry.isPassThrough := by
  induction q with
  | nil => rfl
  | cons e q ih =>
    unfold queueWork at ih ⊢
    rw [List.length_cons, ih, List.filterMap_cons, List.filterMap_cons, List.countP_cons]
    cases e <;> simp [QEntry.admissionStep, QEntry.writeBackSlot, QEntry.isPassThrough] <;> omega

/-- Distinct slots are at most ten. -/
theorem distinct_slots {l : List SlotId} (h : l.Nodup) : l.length ≤ 10 := (h.length_le_card).trans_eq (Fintype.card_fin 10)

/-- Ten admission steps, ten write-back entries and four reads are the most that wait (R60). -/
theorem queue_length {q : List QEntry} (ha : ((queueWork q).map (·.1)).Nodup) (he : EntriesSafe q) (hr : ReadsSafe q) :
    q.length ≤ 24 := by
  have hw : ((q.filterMap QEntry.writeBackSlot).map id).Nodup :=
    List.nodup_iff_count_le_one.2 fun n => (writeBacks_count q n).trans_le (he.1 n)
  have hadmissions := distinct_slots ha
  have hwritebacks := distinct_slots hw
  rw [List.length_map] at hadmissions hwritebacks
  unfold ReadsSafe at hr
  rw [queue_length_eq]
  omega

theorem placesSafe_entries {s : State} (h : PlacesSafe s) : EntriesSafe s.cbc.queue := by
  obtain ⟨-, hone, hnodup, -⟩ := h
  exact ⟨fun n => by rw [List.countP_eq_length_filter]; exact hone n, hnodup⟩

/-- With each slot's work of admission in one place, the bounds of the other kinds give those of the whole queue. -/
theorem placesSafe_of {s : State} (ha : AdmissionsSafe s) (hb : BusSafe s) (he : EntriesSafe s.cbc.queue) : PlacesSafe s := by
  have hnodup : ((queueWork s.cbc.queue).map (·.1)).Nodup := ((queueWork_sublist s).map _).nodup ha.work.nodup
  refine ⟨fun n => ?_, fun n => ?_, he.2, queue_length hnodup he ((busSafe_iff s).1 hb).2⟩
  · rw [← List.countP_eq_length_filter, ← admissions_count]
    exact List.nodup_iff_count_le_one.1 hnodup n
  · rw [← List.countP_eq_length_filter]
    exact he.1 n

/-- Settles O15: whatever an event asks for joins the queue in its bounds (`Joined`), the arbiter and the end of a transaction
restore what holds of a free line (`Joined.arbitrate`, `attendDrain_kept`), and every command is made of such operations. The
one place of each admission step is the invariant of admission (O16). -/
theorem everyStepKeepsTheBusInBounds : Obligations.EveryStepKeepsTheBusInBounds := by
  refine ⟨fun s t hs h => (step_bus h).1.bus hs, fun s t hb ha hp h => ?_, fun s t ha hf h => (step_bus h).2 ha.proof hf⟩
  exact placesSafe_of ((step_keeps h).2 ha) ((step_bus h).1.bus hb) ((step_bus h).1.entries (placesSafe_entries hp))

end Sys2Proof.Machine
end

section
/-! The line actions of an attempt (R45 to R58); O33. -/

namespace Sys2Proof.Machine

section
variable {s : State} {tx : Transaction}

/-- The end of a break: a retry backs off, a first attempt goes to its preamble (R50, R58). -/
theorem exec_breakEnd (hr : s.phase = .running) (hl : s.cbc.line = some tx) (ha : tx.action = .breaking) :
    exec .breakEnd s = .next (if 1 < tx.attempt then
      setLine (breakOver s) { tx with action := .backoff, limit := some (startTimer s 500) } 0
      else messageReady (breakOver s) tx) := by
  show Host.Outcome.next (onLine s _) = _
  rw [onLine_running hr hl, if_pos ha]
  rfl

theorem exec_backoffComplete (hr : s.phase = .running) (hl : s.cbc.line = some tx) (ha : tx.action = .backoff) {k : Nat}
    (hk : k ≤ 8 * tx.attempt) : exec (.backoffComplete k) s =
      .next (messageReady (setCbc s { s.cbc with idle := k, backoff := 8 * tx.attempt }) tx) := by
  show Host.Outcome.next (onLine s _) = _
  rw [onLine_running hr hl, if_pos ha, Nat.min_eq_right hk]
  rfl

/-- The deadlines of R48, in bit-times. -/
theorem deadlineOf_eq (c : TxCommand) : deadlineOf c = match c with
    | .admission .readId | .writeBack .readUsage | .readArea _ _ _ => 300
    | .admission .challenge => 1000
    | .writeBack .addUsed | .writeBack .markSpent => 2500 := by
  rcases c with (_ | _) | (_ | _ | _) | _ <;> rfl

theorem exec_messageSent (hr : s.phase = .running) (hl : s.cbc.line = some tx) {k : Nat} (ha : tx.action = .sending k) :
    exec .messageSent s = .next
      (setLine s { tx with action := .awaiting, deadline := some (startTimer s (deadlineOf tx.command)) } 1) := by
  show Host.Outcome.next (onLine s _) = _
  rw [onLine_running hr hl, ha]
  exact congrArg (fun i => Host.Outcome.next (setLine s _ i)) (idleOver_messageBits _ tx)

/-- Where no attempt waits for a reply or takes one, a character only counts as a low bit-time (R45). -/
theorem character_discarded (hr : s.phase = .running) (hl : s.cbc.line = some tx)
    (ha : tx.action = .backoff ∨ tx.action = .preamble ∨ tx.action = .held ∨ ∃ taken, tx.action = .discarding taken) (data : Byte) :
    exec (.replyAddressCharacter data) s = .next (lowSeen s) ∧ exec .cbusFramingError s = .next (lowSeen s) := by
  constructor
  · show Host.Outcome.next (onCharacter s _) = _
    rw [onCharacter_running hr hl]
    rcases ha with ha | ha | ha | ⟨taken, ha⟩ <;> rw [ha]
  · show Host.Outcome.next (onCharacter s _) = _
    rw [onCharacter_running hr hl]
    rcases ha with ha | ha | ha | ⟨taken, ha⟩ <;> rw [ha]

end

/-- On a free line of a part with power a character only counts as a low bit-time, in reset too (R45). -/
theorem onCharacter_free {s : State} (hp : s.phase ≠ .off) (hl : s.cbc.line = none) (f : Transaction → State) :
    onCharacter s f = lowSeen s := by
  unfold onCharacter
  rw [hl]
  cases h : s.phase with
  | off => exact absurd h hp
  | running => rfl
  | resetHeld => rfl
  | loading => rfl

/-- Settles O33. -/
theorem lineActionsFollowOneAnother : Obligations.LineActionsFollowOneAnother := by
  refine ⟨fun s data hp hl => ⟨congrArg _ (onCharacter_free hp hl _), congrArg _ (onCharacter_free hp hl _)⟩,
    fun s tx hr hl => ⟨fun ha h1 => ?_, fun ha h1 => ?_, fun k ha hk => ?_, fun ha => ?_, fun k ha => ?_, fun data ha => ?_,
      fun ha => ?_, fun address ha => ?_, fun ha hd => ?_, fun data ha => (character_discarded hr hl ha data).1,
      fun data address ha => ?_, fun ha => (character_discarded hr hl ha 0).2⟩⟩
  · rw [exec_breakEnd hr hl ha, if_neg (by omega)]
    rfl
  · rw [exec_breakEnd hr hl ha, if_pos h1]
    rfl
  · exact exec_backoffComplete hr hl ha hk
  · show Host.Outcome.next (onLine s _) = _
    rw [onLine_running hr hl, if_pos ha]
    rfl
  · rw [exec_messageSent hr hl ha, deadlineOf_eq]
    rfl
  · show Host.Outcome.next (onCharacter s _) = _
    rw [onCharacter_running hr hl, ha]
    rfl
  · show Host.Outcome.next (onCharacter s _) = _
    rw [onCharacter_running hr hl, ha]
    rfl
  · show Host.Outcome.next (onCharacter s _) = _
    rw [onCharacter_running hr hl, ha]
    rfl
  · show Host.Outcome.next (onLine s _) = _
    rw [onLine_running hr hl, if_neg (by rw [ha]; nofun), if_pos ⟨ha, hd⟩]
    rfl
  · show Host.Outcome.next (onCharacter s _) = _
    rw [onCharacter_running hr hl, ha]
    rfl

end Sys2Proof.Machine
end

section
/-! One bit-time that passes, and the bits on CBUS and SVC (R43 to R46, R58, R164, R165); O2. -/

namespace Sys2Proof.Machine

/-! ### Characters, back to back (R43, R165) -/

/-- In blocks of equal length the bits of a block stand where the blocks before it end. -/
theorem flatMap_getElem? {α β : Type} {f : α → List β} {k : Nat} (hf : ∀ a, (f a).length = k) {l : List α} {i : Nat} {a : α}
    (h : l[i]? = some a) {j : Nat} (hj : j < k) : (l.flatMap f)[k * i + j]? = (f a)[j]? := by
  induction l generalizing i with
  | nil => cases h
  | cons b l ih =>
    rw [List.flatMap_cons]
    cases i with
    | zero =>
      cases h
      rw [Nat.mul_zero, Nat.zero_add, List.getElem?_append_left (by rw [hf]; exact hj)]
    | succ i =>
      rw [List.getElem?_append_right (by rw [hf, Nat.mul_succ]; omega), ← ih h, hf, Nat.mul_succ]
      congr 1
      omega

/-- After the start bit come the data bits, least significant first (R43, R165). -/
theorem dataBits_getElem? {b : Byte} {j : Nat} (hj : j < 8) (l : List Bool) :
    (false :: (dataBits b ++ l))[1 + j]? = some (b.getLsbD j) := by
  have hlength : (dataBits b).length = 8 := rfl
  rw [Nat.add_comm, List.getElem?_cons_succ, List.getElem?_append_left (by omega), dataBits, List.getElem?_map,
    List.getElem?_range hj, Option.map_some]

theorem svcReply_bits (r : SvcReply) {i : Nat} {b : Byte} (h : r.frame[i]? = some b) :
    r.bits[10 * i]? = some false ∧ (∀ j : Nat, j < 8 → r.bits[10 * i + 1 + j]? = some (b.getLsbD j)) ∧
      r.bits[10 * i + 9]? = some true := by
  have hbit {j : Nat} (hj : j < 10) : r.bits[10 * i + j]? = (svcCharBits b)[j]? := flatMap_getElem? svcCharBits_length h hj
  refine ⟨hbit (j := 0) (by omega), fun j hj => ?_, hbit (by omega)⟩
  rw [Nat.add_assoc, hbit (by omega)]
  exact dataBits_getElem? hj _

theorem messageChars_length (tx : Transaction) : (messageChars tx).length = (messageBytes tx).length := by
  unfold messageChars
  split
  · next h => rw [h]; rfl
  · next h => rw [h, List.length_cons, List.length_cons, List.length_map]

/-- Only the address character has its mark bit set (R43, R44). -/
theorem messageChars_getElem? {tx : Transaction} {i : Nat} {b : Byte} (h : (messageBytes tx)[i]? = some b) :
    (messageChars tx)[i]? = some ⟨decide (i = 0), b⟩ := by
  unfold messageChars
  split
  · next hnil => rw [hnil] at h; cases h
  · next address rest hcons =>
    rw [hcons] at h
    cases i with
    | zero => cases h; rfl
    | succ i =>
      rw [List.getElem?_cons_succ] at h
      rw [List.getElem?_cons_succ, List.getElem?_map, h]
      rfl

theorem messageBits_length (tx : Transaction) : (messageBits tx).length = 11 * (messageBytes tx).length := by
  simp [messageBits, List.length_flatMap, charBits_length, messageChars_length, Nat.mul_comm]

theorem messageBits_bits (tx : Transaction) {i : Nat} {b : Byte} (h : (messageBytes tx)[i]? = some b) :
    (messageBits tx)[11 * i]? = some false ∧ (∀ j : Nat, j < 8 → (messageBits tx)[11 * i + 1 + j]? = some (b.getLsbD j)) ∧
      (messageBits tx)[11 * i + 9]? = some (decide (i = 0)) ∧ (messageBits tx)[11 * i + 10]? = some true := by
  have hbit {j : Nat} (hj : j < 11) : (messageBits tx)[11 * i + j]? = (charBits ⟨decide (i = 0), b⟩)[j]? :=
    flatMap_getElem? charBits_length (messageChars_getElem? h) hj
  refine ⟨hbit (j := 0) (by omega), fun j hj => ?_, hbit (by omega), hbit (by omega)⟩
  rw [Nat.add_assoc, hbit (by omega)]
  exact dataBits_getElem? hj _

/-! ### The bus and the service line after a bit-time (R45, R58, R165) -/

theorem idleAfter_eq (c : Cbc) : idleAfter c = if cbusLevel c = true then min 255 (c.idle + 1) else 0 := rfl

/-- A line that the part releases counts one more idle bit-time, up to 255 (R45). -/
theorem idleAfter_released {c : Cbc} (h : cbusLevel c = true) : idleAfter c = min 255 (c.idle + 1) := by
  rw [idleAfter_eq, if_pos h]

theorem sentOn_other {tx : Transaction} (h : ∀ k, tx.action ≠ .sending k) : sentOn tx = tx := by
  unfold sentOn
  split
  · next k ha => exact absurd ha (h k)
  · rfl

theorem cbusLevel_released {c : Cbc} {tx : Transaction} (hl : c.line = some tx) (hb : tx.action ≠ .breaking)
    (hs : ∀ k, tx.action ≠ .sending k) : cbusLevel c = true := by
  rw [cbusLevel, hl]
  dsimp only
  split
  · next ha => exact absurd ha hb
  · next k ha => exact absurd ha (hs k)
  · rfl

theorem cbusLevel_breaking {c : Cbc} {tx : Transaction} (hl : c.line = some tx) (ha : tx.action = .breaking) : cbusLevel c = false := by
  simp only [cbusLevel, hl, ha]

theorem cbusLevel_sending {c : Cbc} {tx : Transaction} {k : Nat} {high : Bool} (hl : c.line = some tx) (ha : tx.action = .sending k)
    (hk : (messageBits tx)[k]? = some high) : cbusLevel c = high := by
  simp only [cbusLevel, hl, ha, hk, Option.getD_some]

theorem sentOn_sending {tx : Transaction} {k : Nat} {high : Bool} (ha : tx.action = .sending k) (hk : (messageBits tx)[k]? = some high) :
    sentOn tx = { tx with action := .sending (k + 1) } := by
  obtain ⟨hlt, -⟩ := List.getElem?_eq_some_iff.1 hk
  unfold sentOn
  rw [ha]
  exact congrArg (fun n => { tx with action := .sending n }) (Nat.min_eq_right hlt)

/-- The reply bits that are over, in SENDING at the rate in force (R164, R165). -/
theorem svcSent_sending {v : Svl} {r : SvcReply} {low : Nat} (hl : v.line = .sending) (he : v.error = .none) (hr : v.reply = some r)
    (hlow : v.rate = some low) (now : Nat) : svcSent v now = r.bits.take (70000 * (now - v.begun) / low) := by
  simp only [svcSent, hl, he, hr, hlow, svcBitsOver]

theorem svcSent_still {v : Svl} (h : v.line ≠ .sending ∨ v.error ≠ .none ∨ v.reply = none ∨ v.rate = none) (now : Nat) :
    svcSent v now = v.sent := by
  unfold svcSent
  split
  · next hl he hr hlow =>
    rcases h with h | h | h | h
    · exact absurd hl h
    · exact absurd he h
    · rw [hr] at h; cases h
    · rw [hlow] at h; cases h
  · rfl

theorem svcLevel_sending {s : State} {r : SvcReply} {high : Bool} (hl : s.svl.line = .sending) (he : s.svl.error = .none)
    (hr : s.svl.reply = some r) (hk : r.bits[s.svl.sent.length]? = some high) : svcLevel s = high := by
  simp only [svcLevel, hl, he, hr, hk, Option.getD_some]

theorem tick_frame (s : State) : OnlyChanges [.clock, .cbc, .svl] s (tick s) :=
  .ite (.refl _ s) (((cbc_frame s _).mono (by decide)).trans ((clockSvl_frame { s with cbc := busAfter s.cbc } _ _).mono (by decide)))

/-! ### The statement -/

/-- A free line stays free, and is released (R43, R46). -/
theorem busAfter_free {c : Cbc} (hl : c.line = none) :
    (busAfter c).line = none ∧ (busAfter c).idle = min 255 (c.idle + 1) ∧ (busAfter c).backoff = c.backoff := by
  refine ⟨by simp [busAfter, hl], idleAfter_released (by simp [cbusLevel, hl]), by simp [busAfter, backoffAfter, hl]⟩

theorem busAfter_line {c : Cbc} {tx : Transaction} (hl : c.line = some tx) : (busAfter c).line = some (sentOn tx) := by
  rw [busAfter, hl]
  rfl

theorem busAfter_backoff {c : Cbc} {tx : Transaction} (hl : c.line = some tx) :
    (busAfter c).backoff = if tx.action = .backoff then min (8 * tx.attempt) (c.backoff + 1) else c.backoff := by
  simp only [busAfter, backoffAfter, hl]

/-- Settles O2. -/
theorem anEmptyQueueLetsABitTimePass : Obligations.AnEmptyQueueLetsABitTimePass := by
  refine ⟨fun s hpend => ⟨tick s, ?_, tick_frame s, fun hoff => if_pos hoff, fun hp => ?_⟩,
    fun r => ⟨svcReply_bits_length r, fun _ _ h => svcReply_bits r h⟩,
    fun tx => ⟨messageBits_length tx, fun _ _ h => messageBits_bits tx h⟩⟩
  · unfold step
    rw [hpend]
  · have hsent : (tick s).svl.sent = svcSent s.svl (s.clock + 1) := by rw [tick_svl s hp, svcAfter]
    rw [tick_cbc s hp]
    refine ⟨tick_clock s hp, by rw [tick_svl s hp]; rfl, fun r low hl he hr hlow => ⟨?_, fun high hk => ?_⟩, fun h => ?_, rfl,
      busAfter_free, fun tx hl => ⟨fun ha => ⟨?_, ?_⟩, fun ha => ?_, fun ha => ⟨?_, ?_⟩, fun k high ha hk => ⟨?_, ?_⟩, fun hb hs => ⟨?_, ?_⟩⟩⟩
    · rw [hsent, svcSent_sending hl he hr hlow]
    · refine svcLevel_sending ?_ ?_ ?_ hk
      · rw [tick_svl s hp]; exact hl
      · rw [tick_svl s hp]; exact he
      · rw [tick_svl s hp]; exact hr
    · rw [hsent, svcSent_still h]
    · exact idleAfter_released (cbusLevel_released hl (by rw [ha]; nofun) fun k => by rw [ha]; nofun)
    · rw [busAfter_backoff hl, if_pos ha]
    · rw [busAfter_backoff hl, if_neg ha]
    · rw [busAfter_line hl, sentOn_other fun k => by rw [ha]; nofun]
    · exact (idleAfter_eq _).trans (if_neg (by rw [cbusLevel_breaking hl ha]; nofun))
    · rw [busAfter_line hl, sentOn_sending ha hk]
    · rw [← cbusLevel_sending hl ha hk]
      exact idleAfter_eq _
    · rw [busAfter_line hl, sentOn_other hs]
    · exact idleAfter_released (cbusLevel_released hl hb hs)

end Sys2Proof.Machine
end

section
/-! One start of the arbiter, and the triggers taken one after another (R64, R92, R94); O31. -/

namespace Sys2Proof.Machine

/-! ### One start (R64) -/

/-- On a free line the next entry is served: it is started, and once the line is busy no more (R64). -/
theorem arbitrate_starts {s : State} {n : SlotId} {c : TxCommand} {q : List QEntry} (hl : s.cbc.line = none)
    (hq : nextEntry s.cbc.flush s.cbc.queue = some (n, c, q))
    (hb : (startTransaction (setCbc s { s.cbc with queue := q }) n c).cbc.line.isSome = true) :
    arbitrate s = startTransaction (setCbc s { s.cbc with queue := q }) n c := by
  obtain ⟨k, hk⟩ := Nat.exists_eq_succ_of_ne_zero (Nat.ne_zero_of_lt (nextEntry_served hq).waitingOps_lt)
  show arbitrateUpTo (waitingOps s.cbc.queue) s = _
  rw [hk, arbitrateUpTo, if_neg (by rw [hl]; nofun), hq]
  exact arbitrateUpTo_busy k _ hb

/-- A start that ends at once, and nothing else to serve, leave the line free (R64, R94). -/
theorem arbitrate_endsAtOnce {s : State} {n : SlotId} {c : TxCommand} {q : List QEntry} (hl : s.cbc.line = none)
    (hq : nextEntry s.cbc.flush s.cbc.queue = some (n, c, q)) (hnone : nextEntry s.cbc.flush q = none)
    (hs : startTransaction (setCbc s { s.cbc with queue := q }) n c = setCbc s { s.cbc with queue := q }) :
    arbitrate s = setCbc s { s.cbc with queue := q } := by
  obtain ⟨k, hk⟩ := Nat.exists_eq_succ_of_ne_zero (Nat.ne_zero_of_lt (nextEntry_served hq).waitingOps_lt)
  show arbitrateUpTo (waitingOps s.cbc.queue) s = _
  rw [hk, arbitrateUpTo, if_neg (by rw [hl]; nofun), hq]
  show arbitrateUpTo k (startTransaction (setCbc s { s.cbc with queue := q }) n c) = _
  rw [hs]
  exact arbitrateUpTo_idle k hnone

/-- What an ADD_USED's start reads of a state (R94). -/
theorem canSend_congr {s t : State} {n : SlotId} {a : Account} (ha : t.accounts = s.accounts) (hs : t.slots = s.slots) :
    canSend t n a ↔ canSend s n a := by
  unfold canSend contactLost
  rw [ha, hs]

theorem AddUsedBegun.congr {s t s' t' : State} {n : SlotId} {a : Account} (h : AddUsedBegun s t n a) (hs : s'.accounts = s.accounts)
    (hl : t'.cbc.line = t.cbc.line) (ha : t'.accounts = t.accounts) : AddUsedBegun s' t' n a := by
  unfold AddUsedBegun Begun at h ⊢
  rw [hs, hl, ha]
  exact h

/-- An account that can send starts its ADD_USED (R94). -/
theorem startAddUsed_begun {s : State} {n : SlotId} {a : Account} (h : canSend s n a) :
    AddUsedBegun s (startTransaction s n (.writeBack .addUsed)) n a := by
  obtain ⟨e, m, t, ht⟩ := addUsedBody_canSend h
  obtain ⟨b, hb, rfl, -, -, -, -, -, rfl, rfl⟩ := addUsedBody_spec ht
  obtain rfl : b = a := by rw [h.1] at hb; exact (Option.some.inj hb).symm
  have hstart {u : State} {tx : Transaction} (hu : startTransaction s n (.writeBack .addUsed) = beginAttempt u tx) :
      (startTransaction s n (.writeBack .addUsed)).accounts = u.accounts ∧
        ∃ x l, (startTransaction s n (.writeBack .addUsed)).cbc.line = some { tx with action := x, limit := l } := by
    obtain ⟨x, l, hcbc⟩ := beginAttempt_line_eq u tx
    rw [hu, hcbc, beginAttempt_accounts]
    exact ⟨rfl, x, l, rfl⟩
  obtain ⟨haccounts, x, l, hline⟩ := hstart (by simp only [startTransaction, ht]; rfl)
  refine ⟨⟨_, hline, rfl, rfl, rfl, rfl, rfl, rfl⟩, fun tx htx => ?_, haccounts⟩
  rw [hline] at htx
  cases htx
  exact ⟨rfl, rfl⟩

theorem arbitrate_addUsed {s : State} {n : SlotId} {q : List QEntry} {a : Account} (hl : s.cbc.line = none)
    (hq : nextEntry s.cbc.flush s.cbc.queue = some (n, .writeBack .addUsed, q)) (ha : canSend s n a) :
    (arbitrate s).cbc.queue = q ∧ AddUsedBegun s (arbitrate s) n a := by
  have hbegun := startAddUsed_begun (s := setCbc s { s.cbc with queue := q }) ((canSend_congr rfl rfl).2 ha)
  have hbusy : (startTransaction (setCbc s { s.cbc with queue := q }) n (.writeBack .addUsed)).cbc.line.isSome = true := by
    obtain ⟨⟨tx, htx, -⟩, -⟩ := hbegun
    rw [htx]
    rfl
  rw [arbitrate_starts hl hq hbusy]
  exact ⟨startTransaction_queue _ _ _, hbegun.congr rfl rfl rfl⟩

/-- An account that cannot send starts nothing: NOTHING_SENT (R94). -/
theorem startAddUsed_nothing {s : State} {n : SlotId} (h : ¬ ∃ a, canSend s n a) : startTransaction s n (.writeBack .addUsed) = s := by
  have hnone : addUsedBody s n = none := by
    cases hb : addUsedBody s n with
    | none => rfl
    | some x =>
      obtain ⟨e, m, t⟩ := x
      obtain ⟨a, ha, he, hs, hd, hp, hc, hmax, -, -⟩ := addUsedBody_spec hb
      subst he
      exact absurd ⟨a, ha, hp, hs, hd, hc, hmax⟩ h
  simp only [startTransaction, hnone]

/-! ### Triggers, one after another (R92) -/

/-- What a trigger reads of its slot. -/
theorem triggerDue_congr {s t : State} {n : SlotId} (ha : t.accounts[n] = s.accounts[n]) (hs : t.slots = s.slots) :
    triggerDue t n = triggerDue s n := by
  unfold triggerDue contactLost
  rw [ha, hs]

theorem trigger_idle {s : State} {n : SlotId} (h : triggerDue s n = false) : trigger s n = s := by
  rw [trigger, if_neg (by rw [h]; nofun)]

theorem foldl_trigger_idle {s : State} {l : List SlotId} (h : ∀ n ∈ l, triggerDue s n = false) : l.foldl trigger s = s := by
  induction l with
  | nil => rfl
  | cons n l ih =>
    rw [List.foldl_cons, trigger_idle (h n List.mem_cons_self)]
    exact ih fun m hm => h m (List.mem_cons_of_mem _ hm)

theorem requestAddUsed_line (s : State) (n : SlotId) : (requestAddUsed s n).cbc.line = s.cbc.line := by
  unfold requestAddUsed
  split <;> rfl

theorem foldl_requestAddUsed_frame (l : List SlotId) (s : State) : OnlyChanges [.cbc] s (l.foldl requestAddUsed s) :=
  OnlyChanges.foldl _ requestAddUsed_frame l s

theorem foldl_requestAddUsed_line (l : List SlotId) (s : State) : (l.foldl requestAddUsed s).cbc.line = s.cbc.line := by
  induction l generalizing s with
  | nil => rfl
  | cons n l ih => exact (ih _).trans (requestAddUsed_line s n)

theorem requestAddUsed_due (s : State) (n m : SlotId) : triggerDue (requestAddUsed s n) m = triggerDue s m :=
  triggerDue_congr (by rw [requestAddUsed_frame s n .accounts (by decide)]) (requestAddUsed_frame s n .slots (by decide))

/-- With the line busy, triggers only ask (R64, R92). -/
theorem foldl_trigger_busy (l : List SlotId) {s : State} (hl : s.cbc.line.isSome = true) : l.foldl trigger s = l.foldl requestAddUsed s := by
  induction l generalizing s with
  | nil => rfl
  | cons n l ih =>
    have hn : trigger s n = requestAddUsed s n := by
      unfold trigger requestAddUsed placeOp
      split
      · exact arbitrate_busy _ hl
      · rfl
    rw [List.foldl_cons, List.foldl_cons, hn]
    exact ih (by rw [requestAddUsed_line]; exact hl)

theorem OpWaits.foldl_requestAddUsed {n : SlotId} {op : WbOp} (l : List SlotId) {s : State} (h : OpWaits s.cbc.queue n op) :
    OpWaits (l.foldl Machine.requestAddUsed s).cbc.queue n op := by
  induction l generalizing s with
  | nil => exact h
  | cons m l ih => exact ih (h.requestAddUsed m)

/-- Every slot that a trigger serves is asked for (R92). -/
theorem foldl_requestAddUsed_waits {n : SlotId} {l : List SlotId} {s : State} (hn : n ∈ l) (h : triggerDue s n = true) :
    OpWaits (l.foldl requestAddUsed s).cbc.queue n .addUsed := by
  induction l generalizing s with
  | nil => cases hn
  | cons m l ih =>
    rcases List.mem_cons.1 hn with rfl | hn
    · refine OpWaits.foldl_requestAddUsed l ?_
      rw [requestAddUsed, if_pos h]
      exact withOp_waits _ _ _
    · exact ih hn (by rw [requestAddUsed_due]; exact h)

/-- Into a queue without their entries the slots asked for join in order, each with its ADD_USED alone (R62). -/
theorem foldl_requestAddUsed_queue {l : List SlotId} (hd : l.Nodup) {s : State}
    (hfree : ∀ n ∈ l, ∀ ops, QEntry.writeBack n ops ∉ s.cbc.queue) :
    (l.foldl requestAddUsed s).cbc.queue = s.cbc.queue ++ (l.filter (triggerDue s)).map fun n => .writeBack n [.addUsed] := by
  induction l generalizing s with
  | nil => exact (List.append_nil _).symm
  | cons n l ih =>
    obtain ⟨hn, hd⟩ := List.nodup_cons.1 hd
    have hdue : triggerDue (requestAddUsed s n) = triggerDue s := funext (requestAddUsed_due s n)
    have hqueue : (requestAddUsed s n).cbc.queue = s.cbc.queue ++ if triggerDue s n = true then [.writeBack n [.addUsed]] else [] := by
      unfold requestAddUsed
      split
      · show withOp _ _ _ = _
        rw [withOp, if_neg]
        rintro hany
        obtain ⟨e, he, hp⟩ := List.any_eq_true.1 hany
        cases e with
        | admission m step => cases hp
        | passThrough m o l tag => cases hp
        | writeBack m ops =>
          obtain rfl : m = n := by simpa [QEntry.isWriteBackOf] using hp
          exact hfree m List.mem_cons_self ops he
      · exact (List.append_nil _).symm
    rw [List.foldl_cons, ih hd fun m hm ops ho => ?_, hdue, hqueue, List.append_assoc, List.filter_cons]
    · split <;> rfl
    · rw [hqueue] at ho
      rcases List.mem_append.1 ho with ho | ho
      · exact hfree m (List.mem_cons_of_mem _ hm) ops ho
      · split at ho
        · cases List.mem_singleton.1 ho
          exact hn hm
        · cases ho

/-! ### FLUSH (R158) -/

/-- The slots before and after one, in order. -/
theorem allSlots_split (n : SlotId) : ∃ before after, allSlots = before ++ n :: after ∧ (∀ m ∈ before, m.val < n.val) ∧
    after.Nodup ∧ ∀ m : SlotId, n.val < m.val → m ∈ after :=
  ⟨allSlots.filter (·.val < n.val), allSlots.filter (n.val < ·.val), by revert n; decide, by revert n; decide, by revert n; decide,
    by revert n; decide⟩

/-- On a free line with nothing waiting, in normal service, a trigger starts its ADD_USED (R64, R94). -/
theorem trigger_starts {s : State} {n : SlotId} {a : Account} (hl : s.cbc.line = none) (hq : s.cbc.queue = []) (hf : s.cbc.flush = false)
    (hdue : triggerDue s n = true) (hsend : canSend s n a) :
    (trigger s n).cbc.queue = [] ∧ AddUsedBegun s (trigger s n) n a := by
  have hnext : nextEntry (enqueueOp s n .addUsed).cbc.flush (enqueueOp s n .addUsed).cbc.queue = some (n, .writeBack .addUsed, []) := by
    rw [enqueueOp_cbc, hf, hq]
    rfl
  obtain ⟨hqueue, hbegun⟩ := arbitrate_addUsed (s := enqueueOp s n .addUsed) hl hnext ((canSend_congr rfl rfl).2 hsend)
  rw [trigger, if_pos hdue, placeOp]
  exact ⟨hqueue, hbegun.congr rfl rfl rfl⟩

/-- Of the triggers taken for every slot the first starts its ADD_USED, and the others wait (R64, R94). -/
theorem forSlots_trigger_starts {s : State} {n : SlotId} {a : Account} (hl : s.cbc.line = none) (hq : s.cbc.queue = [])
    (hf : s.cbc.flush = false) (hdue : triggerDue s n = true) (hfirst : ∀ m : SlotId, triggerDue s m = true → n.val ≤ m.val)
    (hsend : canSend s n a) : AddUsedBegun s (forSlots trigger s) n a ∧
      ∀ m : SlotId, m ≠ n → triggerDue s m = true → QEntry.writeBack m [.addUsed] ∈ (forSlots trigger s).cbc.queue := by
  obtain ⟨before, after, hsplit, hbefore, hnodup, hafter⟩ := allSlots_split n
  obtain ⟨hqueue, hbegun⟩ := trigger_starts hl hq hf hdue hsend
  have hbusy : (trigger s n).cbc.line.isSome = true := by
    obtain ⟨⟨tx, htx, -⟩, -⟩ := hbegun
    rw [htx]
    rfl
  have hidle : before.foldl trigger s = s := foldl_trigger_idle fun m hm => by
    by_contra h
    have := hfirst m (by simpa using h)
    have := hbefore m hm
    omega
  have hall : forSlots trigger s = after.foldl requestAddUsed (trigger s n) := by
    show allSlots.foldl trigger s = _
    rw [hsplit, List.foldl_append, List.foldl_cons, hidle, foldl_trigger_busy _ hbusy]
  rw [hall]
  refine ⟨hbegun.congr rfl (foldl_requestAddUsed_line _ _) (foldl_requestAddUsed_frame _ _ .accounts (by decide)), fun m hm hmdue => ?_⟩
  have hsame : triggerDue (trigger s n) m = true := by
    rw [triggerDue_congr (by rw [hbegun.2.2, put_other _ _ _ _ hm]) (trigger_frame s n .slots (by decide))]
    exact hmdue
  have hlt : n.val < m.val := lt_of_le_of_ne (hfirst m hmdue) fun h => hm (Fin.ext h.symm)
  rw [foldl_requestAddUsed_queue hnodup (by rw [hqueue]; nofun), hqueue]
  exact List.mem_map_of_mem (List.mem_filter.2 ⟨hafter m hlt, hsame⟩)

/-- With the line busy each slot that a trigger serves is asked for, and nothing starts (R92). -/
theorem forSlots_trigger_busy {s : State} (hl : s.cbc.line.isSome = true) : OnlyChanges [.cbc] s (forSlots trigger s) ∧
    (forSlots trigger s).cbc.line = s.cbc.line ∧
    ∀ n : SlotId, triggerDue s n = true → OpWaits (forSlots trigger s).cbc.queue n .addUsed := by
  have hasked : forSlots trigger s = allSlots.foldl requestAddUsed s := foldl_trigger_busy _ hl
  rw [hasked]
  exact ⟨foldl_requestAddUsed_frame _ s, foldl_requestAddUsed_line _ s, fun n hn => foldl_requestAddUsed_waits (mem_allSlots n) hn⟩

theorem actFlush_eq (s : State) : actFlush s =
    (forSlots trigger s, .ok, u8 (allSlots.filter (triggerDue s)).length ++ be16 (slotMask (triggerDue s))) := rfl

/-- Settles O31. -/
theorem flushAsksForEveryWriteBack : Obligations.FlushAsksForEveryWriteBack := by
  intro s sel hr
  have hreq : OnlyChanges [.sysp] s (reqState s sel 0) := (sysp_frame s _).trans (sysp_frame _ _)
  have htriggers : OnlyChanges (arbiterParts ++ [.sysp]) (reqState s sel 0) (forSlots trigger (reqState s sel 0)) :=
    forSlots_frame trigger (fun u n => (trigger_frame u n).mono (by decide)) _
  obtain ⟨t, ht, hframe, hrep, hsysp, -⟩ := sysRequest_acts (k := 0x0E) hr (actFlush_eq _) (by decide) htriggers
  generalize reqState s sel 0 = u at *
  have hslots : u.slots = s.slots := hreq .slots (by decide)
  have haccounts : u.accounts = s.accounts := hreq .accounts (by decide)
  have hcbc : u.cbc = s.cbc := hreq .cbc (by decide)
  have hdue : triggerDue u = triggerDue s := funext fun n => triggerDue_congr (by rw [haccounts]) hslots
  have htcbc : t.cbc = (forSlots trigger u).cbc := hsysp .cbc (by decide)
  have htaccounts : t.accounts = (forSlots trigger u).accounts := hsysp .accounts (by decide)
  rw [hdue] at hrep
  refine ⟨t, ht, hframe, hrep, fun hl => ?_, fun hl hq hf => ⟨fun hnone => ?_, fun n a hn hfirst hsend => ?_⟩⟩
  · obtain ⟨honly, hline, hwaits⟩ := forSlots_trigger_busy (s := u) (by rw [hcbc]; exact hl)
    refine ⟨((hreq.mono (by decide)).trans (honly.mono (by decide))).trans (hsysp.mono (by decide)), ?_, fun n hn => ?_⟩
    · rw [htcbc, hline, hcbc]
    · rw [htcbc]
      exact hwaits n (by rw [hdue]; exact hn)
  · have hidle : forSlots trigger u = u := foldl_trigger_idle fun n _ => by rw [hdue]; exact hnone n
    rw [htcbc, htaccounts, hidle]
    exact ⟨hcbc, haccounts⟩
  · obtain ⟨hbegun, hothers⟩ := forSlots_trigger_starts (s := u) (by rw [hcbc]; exact hl) (by rw [hcbc]; exact hq)
      (by rw [hcbc]; exact hf) (by rw [hdue]; exact hn) (by rw [hdue]; exact hfirst) ((canSend_congr haccounts hslots).2 hsend)
    refine ⟨hbegun.congr haccounts.symm (by rw [htcbc]) htaccounts, fun m hm hmdue => ?_⟩
    rw [htcbc]
    exact hothers m hm (by rw [hdue]; exact hmdue)

end Sys2Proof.Machine
end

section
/-! A pass-through result placed, and the operation that the arbiter starts next (R62, R64, R65, R94, R154); O37. -/

namespace Sys2Proof.Machine

/-! ### What the arbiter serves (R62, R64, R65) -/

theorem leftover_eq (n : SlotId) (ops : List WbOp) : leftover n ops = if ops = [] then [] else [.writeBack n ops] := by
  cases ops <;> rfl

/-- The first entry that lists ADD_USED, past entries that list none (R65). -/
theorem splitAddUsed_first {before after : List QEntry} {n : SlotId} {ops : List WbOp}
    (hb : ∀ (m : SlotId) (l : List WbOp), QEntry.writeBack m l ∈ before → WbOp.addUsed ∉ l) (ho : WbOp.addUsed ∈ ops) :
    splitAddUsed (before ++ .writeBack n ops :: after) = some (n, ops.erase .addUsed, before ++ after) := by
  induction before with
  | nil => exact splitAddUsed_listed ho n after
  | cons e before ih =>
    rw [List.cons_append, splitAddUsed_skip (fun m l he => hb m l (he ▸ List.mem_cons_self)),
      ih fun m l hm => hb m l (List.mem_cons_of_mem _ hm)]
    rfl

/-- An entry served begins its transaction (R50, R64). -/
theorem arbitrate_begun {s u : State} {n : SlotId} {c : TxCommand} {q : List QEntry} {body : List Byte} (hl : s.cbc.line = none)
    (hq : nextEntry s.cbc.flush s.cbc.queue = some (n, c, q))
    (hs : startTransaction (setCbc s { s.cbc with queue := q }) n c = beginAttempt u (newTransaction n c body)) :
    (arbitrate s).cbc.queue = q ∧ Begun (arbitrate s) n c body := by
  have hstart := arbitrate_starts hl hq (by rw [hs]; exact beginAttempt_line _ _)
  rw [hstart]
  refine ⟨startTransaction_queue _ _ _, ?_⟩
  rw [hs]
  exact beginAttempt_begun u n c body

/-- An ADD_USED with nothing to send ends at once (R94). -/
theorem arbitrate_nothingSent {s : State} {n : SlotId} {q : List QEntry} (hl : s.cbc.line = none)
    (hq : nextEntry s.cbc.flush s.cbc.queue = some (n, .writeBack .addUsed, q)) (hnone : nextEntry s.cbc.flush q = none)
    (ha : ¬ ∃ a, canSend s n a) : arbitrate s = setCbc s { s.cbc with queue := q } :=
  arbitrate_endsAtOnce hl hq hnone (startAddUsed_nothing fun ⟨a, h⟩ => ha ⟨a, (canSend_congr rfl rfl).1 h⟩)

/-- The body of a write-back message that carries none (R49). -/
theorem startTransaction_plainOp {op : WbOp} (h : op ≠ .addUsed) (s : State) (n : SlotId) :
    startTransaction s n (.writeBack op) = beginAttempt s (newTransaction n (.writeBack op) []) := by
  cases op with
  | addUsed => exact absurd rfl h
  | readUsage => rfl
  | markSpent => rfl

/-- In normal service a write-back entry at the head is served by its first operation, the others at the tail (R62). -/
theorem nextEntry_writeBack (n : SlotId) (op : WbOp) (ops : List WbOp) (q : List QEntry) :
    nextEntry false (.writeBack n (op :: ops) :: q) =
      some (n, .writeBack op, q ++ if ops = [] then [] else [.writeBack n ops]) := by
  rw [← leftover_eq]
  rfl

/-- In flush mode the first entry that lists ADD_USED is served, by it alone (R65). -/
theorem nextEntry_addUsed {before after : List QEntry} {n : SlotId} {ops : List WbOp}
    (hb : ∀ (m : SlotId) (l : List WbOp), QEntry.writeBack m l ∈ before → WbOp.addUsed ∉ l) (ho : WbOp.addUsed ∈ ops) :
    nextEntry true (before ++ .writeBack n ops :: after) = some (n, .writeBack .addUsed,
      before ++ after ++ if ops.erase .addUsed = [] then [] else [.writeBack n (ops.erase .addUsed)]) := by
  rw [nextEntry, if_pos rfl, oldestAddUsed, splitAddUsed_first hb ho, ← leftover_eq]
  rfl

theorem nextEntry_noAddUsed {q : List QEntry} (h : ∀ (m : SlotId) (l : List WbOp), QEntry.writeBack m l ∈ q → WbOp.addUsed ∉ l) :
    nextEntry true q = none := by
  rw [nextEntry, if_pos rfl, oldestAddUsed, splitAddUsed_none h]
  rfl

/-! ### The result of a read placed (R154) -/

theorem passThroughResult_placed {s : State} {tag : Nat} {lost : Bool} (h : s.sysp.holder = .waiting tag lost) (n : SlotId) (o l : Byte)
    (r : TxResult) : (passThroughResult s n o l tag r).sysp.holder =
      .ready ⟨0x8B, (readReply n o l r).1, replyFlags lost (attn s) false false, (readReply n o l r).2⟩ := by
  unfold passThroughResult
  simp only [h, if_pos]
  rfl

theorem handOver_read {tx : Transaction} {o l : Byte} {tag : Nat} (hc : tx.command = .readArea o l tag) (s : State) (r : TxResult) :
    handOver s tx r = passThroughResult s tx.slot o l tag r := by
  unfold handOver
  simp only [hc]

/-- The parts that a placed result and the arbiter after it can change. -/
theorem leaveLine_readFrame {s u : State} (h : OnlyChanges [.cbc, .sysp] s u) :
    OnlyChanges (arbiterParts ++ [.sysp, .his, .sto]) s (leaveLine u) := by
  rw [leaveLine_eq]
  exact (((h.mono (by decide)).trans ((lineOff_frame u).mono (by decide))).trans ((arbitrate_frame _).mono (by decide))).trans
    ((drainCheck_frame _).mono (by decide))

theorem leaveLine_holder (s : State) : (leaveLine s).sysp.holder = s.sysp.holder := by
  rw [leaveLine_eq, drainCheck_holder, arbitrate_frame _ .sysp (by decide), lineOff_frame s .sysp (by decide)]

theorem leaveLine_cbc (s : State) : (leaveLine s).cbc = (arbitrate (lineOff s)).cbc := by rw [leaveLine_eq, drainCheck_cbc]

/-- The holder after a read's transaction has left the line with its result (R154). -/
theorem leaveLine_answers {s u : State} (h : OnlyChanges [.cbc] s u) (n : SlotId) (o l : Byte) (tag : Nat) (r : TxResult) :
    (∀ lost : Bool, s.sysp.holder = .waiting tag lost → (leaveLine (passThroughResult u n o l tag r)).sysp.holder =
      .ready ⟨0x8B, (readReply n o l r).1, replyFlags lost (attn s) false false, (readReply n o l r).2⟩) ∧
    ((∀ lost : Bool, s.sysp.holder ≠ .waiting tag lost) → (leaveLine (passThroughResult u n o l tag r)).sysp.holder = s.sysp.holder) := by
  have hsysp : u.sysp = s.sysp := h .sysp (by decide)
  have hattn : attn u = attn s := by rw [attn, attn, hsysp]
  refine ⟨fun lost hw => ?_, fun hw => ?_⟩
  · rw [leaveLine_holder, passThroughResult_placed (by rw [hsysp]; exact hw), hattn]
  · rw [leaveLine_holder, passThroughResult_dropped (by rw [hsysp]; exact hw), hsysp]

theorem readReply_reply (n : SlotId) (o l : Byte) (st : CartStatus) (body : List Byte) : readReply n o l (.reply st body) =
    (if st = .done then .ok else .badCommand, [slotByte n, o, l] ++ if st = .done then body else []) := by
  cases st <;> rfl

/-- From `s` a read's transaction has left the line with its result: `w` is what the arbiter found, with the line free and the
idle count at 12 (R45, R53), and `t` what it left. -/
structure ReadDone (s w t : State) : Prop where
  frame : OnlyChanges [.cbc, .sysp] s w
  found : w.cbc = { s.cbc with line := none, idle := 12 }
  left : t.cbc = (arbitrate w).cbc
  accounts : t.accounts = (arbitrate w).accounts

theorem readDone_leaveLine (s : State) (n : SlotId) (o l : Byte) (tag : Nat) (r : TxResult) :
    ReadDone s (lineOff (passThroughResult (withIdle s 12) n o l tag r)) (leaveLine (passThroughResult (withIdle s 12) n o l tag r)) where
  frame := (((lineMoved_withIdle s 12).frame.mono (by decide)).trans ((passThroughResult_frame _ n o l tag r).mono (by decide))).trans
    ((lineOff_frame _).mono (by decide))
  found := by
    rw [lineOff, passThroughResult_cbc]
    rfl
  left := leaveLine_cbc _
  accounts := leaveLine_accounts _

section
variable {s w t : State}

/-- With nothing to serve the line stays free (R64, R65). -/
theorem ReadDone.idle (h : ReadDone s w t) (hn : nextEntry s.cbc.flush s.cbc.queue = none) :
    t.cbc = { s.cbc with line := none, idle := 12 } ∧ t.accounts = s.accounts := by
  rw [h.left, h.accounts, arbitrate_idle (by rw [h.found]; exact hn)]
  exact ⟨h.found, h.frame .accounts (by decide)⟩

/-- An entry served begins its transaction (R50, R64). -/
theorem ReadDone.begun (h : ReadDone s w t) {u : State} {n : SlotId} {c : TxCommand} {q : List QEntry} {body : List Byte}
    (hq : nextEntry s.cbc.flush s.cbc.queue = some (n, c, q))
    (hs : startTransaction (setCbc w { w.cbc with queue := q }) n c = beginAttempt u (newTransaction n c body)) :
    t.cbc.queue = q ∧ Begun t n c body := by
  obtain ⟨hqueue, hbegun⟩ := arbitrate_begun (by rw [h.found]) (by rw [h.found]; exact hq) hs
  exact ⟨by rw [h.left, hqueue], hbegun.of_cbc h.left⟩

theorem ReadDone.canSend_iff (h : ReadDone s w t) (n : SlotId) (a : Account) : canSend w n a ↔ canSend s n a :=
  canSend_congr (h.frame .accounts (by decide)) (h.frame .slots (by decide))

theorem ReadDone.addUsed (h : ReadDone s w t) {n : SlotId} {q : List QEntry} {a : Account}
    (hq : nextEntry s.cbc.flush s.cbc.queue = some (n, .writeBack .addUsed, q)) (ha : canSend s n a) :
    t.cbc.queue = q ∧ AddUsedBegun s t n a := by
  obtain ⟨hqueue, hbegun⟩ := arbitrate_addUsed (by rw [h.found]) (by rw [h.found]; exact hq) ((h.canSend_iff n a).2 ha)
  exact ⟨by rw [h.left, hqueue], hbegun.congr (h.frame .accounts (by decide)).symm (by rw [h.left]) h.accounts⟩

/-- A CHALLENGE served sends the challenge that PRF builds next (R33, R49). -/
theorem ReadDone.challenge (h : ReadDone s w t) {n : SlotId} {q : List QEntry} {id : IdRecord}
    (hq : nextEntry s.cbc.flush s.cbc.queue = some (n, .admission .challenge, q)) (hid : s.prf.identity[n] = some id) :
    t.cbc.queue = q ∧ Begun t n (.admission .challenge) (challengeBytes (Config.randomBytes s.draws ++ s.prf.seqNo)) := by
  have hprf : w.prf = s.prf := h.frame .prf (by decide)
  have hdraws : w.draws = s.draws := h.frame .draws (by decide)
  have hfirst := startChallenge_first (s := setCbc w { w.cbc with queue := q }) (n := n) (id := id) (by
    show w.prf.identity[n] = _
    rw [hprf]
    exact hid)
  have hnext : nextChallenge (setCbc w { w.cbc with queue := q }) = Config.randomBytes s.draws ++ s.prf.seqNo := by
    show Config.randomBytes w.draws ++ w.prf.seqNo = _
    rw [hprf, hdraws]
  rw [← hnext]
  exact h.begun hq (by simp only [startTransaction, hfirst]; rfl)

/-- An ADD_USED with nothing to send, alone in the queue, leaves the line free (R94). -/
theorem ReadDone.nothingSent (h : ReadDone s w t) {n : SlotId} (hf : s.cbc.flush = false) (hq : s.cbc.queue = [.writeBack n [.addUsed]])
    (ha : ¬ ∃ a, canSend s n a) : t.cbc = { s.cbc with line := none, queue := [], idle := 12 } ∧ t.accounts = s.accounts := by
  have hnext : nextEntry w.cbc.flush w.cbc.queue = some (n, .writeBack .addUsed, []) := by
    rw [h.found]
    show nextEntry s.cbc.flush s.cbc.queue = _
    rw [hf, hq]
    rfl
  have hnone : nextEntry w.cbc.flush [] = none := by cases w.cbc.flush <;> rfl
  rw [h.left, h.accounts,
    arbitrate_nothingSent (by rw [h.found]) hnext hnone fun ⟨a, hsend⟩ => ha ⟨a, (h.canSend_iff n a).1 hsend⟩]
  exact ⟨by rw [setCbc, h.found], h.frame .accounts (by decide)⟩

/-- A write-back entry at the head is served by its first operation (R62, R64, R94). -/
theorem ReadDone.writeBack (h : ReadDone s w t) (hf : s.cbc.flush = false) {n : SlotId} {op : WbOp} {ops : List WbOp} {q : List QEntry}
    (hq : s.cbc.queue = .writeBack n (op :: ops) :: q) :
    (op ≠ .addUsed → t.cbc.queue = q ++ (if ops = [] then [] else [.writeBack n ops]) ∧ Begun t n (.writeBack op) []) ∧
    (∀ a : Account, op = .addUsed → canSend s n a →
      t.cbc.queue = q ++ (if ops = [] then [] else [.writeBack n ops]) ∧ AddUsedBegun s t n a) ∧
    (op = .addUsed → (¬ ∃ a : Account, canSend s n a) → q = [] → ops = [] →
      t.cbc = { s.cbc with line := none, queue := [], idle := 12 } ∧ t.accounts = s.accounts) := by
  have hnext : nextEntry s.cbc.flush s.cbc.queue =
      some (n, .writeBack op, q ++ if ops = [] then [] else [.writeBack n ops]) := by
    rw [hf, hq]
    exact nextEntry_writeBack n op ops q
  refine ⟨fun hop => h.begun hnext (startTransaction_plainOp hop _ n), ?_, ?_⟩
  · rintro a rfl ha
    exact h.addUsed hnext ha
  · rintro rfl ha rfl rfl
    exact h.nothingSent hf hq ha

end

/-- Settles O37. -/
theorem aPassThroughReplyIsPlaced : Obligations.APassThroughReplyIsPlaced := by
  intro s tx o l tag hr hline hcommand
  refine ⟨fun i errors h3 herr => ?_, fun address rest st ha he hst => ?_⟩
  · obtain ⟨u, hmoved, howed, hexec⟩ := exec_thirdFailure hr hline h3 herr
    rw [handOver_read hcommand] at hexec
    have hresult := passThroughResult_frame u tx.slot o l tag (.failure (reportedError errors))
    refine ⟨_, hexec, leaveLine_readFrame ((hmoved.frame.mono (by decide)).trans (hresult.mono (by decide))), ?_,
      leaveLine_answers hmoved.frame _ _ _ _ _⟩
    exact leaveLine_breakOwed (by rw [passThroughResult_cbc]; exact howed)
  · have hexec : exec (.cbusReplyEnd rest) s =
        .next (leaveLine (passThroughResult (withIdle s 12) tx.slot o l tag (.reply st (replyData rest)))) := by
      rw [execCbusReplyEnd_taking hr hline ha, replyIdle_accepted he, replyEnded_accepted he hst, acceptReply,
        if_neg fun h => by rw [hcommand] at h; exact absurd h.1 nofun, handOver_read hcommand]
    have hmoved := (lineMoved_withIdle s 12).frame
    have hresult := passThroughResult_frame (withIdle s 12) tx.slot o l tag (.reply st (replyData rest))
    obtain ⟨hplaced, hdropped⟩ := leaveLine_answers hmoved tx.slot o l tag (.reply st (replyData rest))
    have hdone := readDone_leaveLine s tx.slot o l tag (.reply st (replyData rest))
    rw [readReply_reply] at hplaced
    refine ⟨_, hexec, leaveLine_readFrame ((hmoved.mono (by decide)).trans (hresult.mono (by decide))), hplaced, hdropped,
      fun hq => hdone.idle (by rw [hq]; cases s.cbc.flush <;> rfl), fun hf => ⟨fun n q hq => ?_, fun n q id hq hid => ?_,
        fun n a b g q hq => ?_, fun n op ops q hq => hdone.writeBack hf hq⟩, fun hf => ⟨fun before after n ops a hq hb ho hsend => ?_,
        fun hnone => ?_⟩⟩
    · exact hdone.begun (by rw [hf, hq]; rfl) (startTransaction_readId _ n)
    · exact hdone.challenge (by rw [hf, hq]; rfl) hid
    · exact hdone.begun (by rw [hf, hq]; rfl) rfl
    · exact hdone.addUsed (by rw [hf, hq]; exact nextEntry_addUsed hb ho) hsend
    · exact hdone.idle (by rw [hf]; exact nextEntry_noAddUsed hnone)

end Sys2Proof.Machine
end

section
/-! The parts of the state that each command can change, one command at a time. -/

namespace Sys2Proof.Machine

/-- A command changes no parts but those listed. -/
def ExecChanges (ps : List Part) (s : State) (o : Outcome) : Prop := ∀ t, o = .next t → OnlyChanges ps s t

theorem execChanges_next {ps : List Part} {s t : State} (h : OnlyChanges ps s t) : ExecChanges ps s (.next t) :=
  fun _ ht => by cases ht; exact h

/-- A command that acts in some states only. -/
theorem execChanges_if {ps : List Part} {s t : State} {c : Prop} [Decidable c] (h : OnlyChanges ps s t) :
    ExecChanges ps s (.next (if c then t else s)) := execChanges_next (.ite h (.refl _ s))

/-! ### Requests -/

theorem sysRequest_changes {ps : List Part} {s : State} {sel : Selection} {k : Byte} {len : Nat} {act : State → Answer}
    (hm : .sysp ∈ ps) (h : ∀ t, OnlyChanges ps t (act t).1) : ExecChanges ps s (.next (sysRequest s sel k len act)) :=
  execChanges_next (sysRequest_frame hm s sel k len act h)

/-- A request that reports changes nothing but the reply. -/
theorem sysReport_changes {s : State} {sel : Selection} {k : Byte} {len : Nat} {act : State → Answer} (h : ∀ t, (act t).1 = t) :
    ExecChanges [.sysp] s (.next (sysRequest s sel k len act)) :=
  sysRequest_changes (by decide) fun t => by rw [h t]; exact .refl _ t

theorem actSetSlotMode_frame (mode : Byte) (n : SlotId) (s : State) :
    OnlyChanges (debitParts ++ [.settings, .sto]) s (actSetSlotMode mode n s).1 := by
  unfold actSetSlotMode
  split
  · exact .refl _ s
  · exact ((storeMode_frame s n _).mono (by decide)).trans (.ite ((startReading_frame _ n).mono (by decide)) (.refl _ _))

theorem actAdmit_frame (n : SlotId) (s : State) : OnlyChanges debitParts s (actAdmit n s).1 := by
  unfold actAdmit
  split
  · exact .refl _ s
  · split
    · exact .refl _ s
    · exact startReading_frame s n

theorem actPark_frame (n : SlotId) (s : State) : OnlyChanges [.slots, .sysp, .engp] s (actPark n s).1 := by
  unfold actPark
  split
  · have hmove (t : State) : OnlyChanges [.slots, .sysp, .engp] t (changeState t n .parked) := by
      rw [changeState_eq_moveSlot t n .parked nofun]
      exact moveSlot_frame t n .parked
    exact ((setTarget_frame s n .parked).mono (by decide)).trans (hmove _)
  · exact .refl _ s

theorem actUnpark_frame (n : SlotId) (s : State) : OnlyChanges debitParts s (actUnpark n s).1 := by
  unfold actUnpark
  split
  · exact .refl _ s
  · split
    · exact .refl _ s
    · exact arbitrateIfJoined_frame_debit (((modSlot_frame s n _).mono (by decide)).trans (changeState_frame _ n _))

theorem actRetry_frame (n : SlotId) (s : State) : OnlyChanges resultParts s (actRetry n s).1 := by
  unfold actRetry
  split
  · split
    · exact .refl _ s
    · exact OnlyChanges.trans (.ite (endSlotWork_frame s n) (.refl _ s)) ((startReading_frame _ n).mono (by decide))
  · exact .refl _ s

theorem actSetLamp_frame (pattern : Byte) (n : SlotId) (s : State) : OnlyChanges [.slots, .sysp] s (actSetLamp pattern n s).1 := by
  unfold actSetLamp
  split
  · exact .refl _ s
  · exact (modSlot_frame s n _).mono (by decide)

theorem actTakeEvents_frame (k : Byte) (s : State) : OnlyChanges [.sysp] s (actTakeEvents k s).1 := by
  unfold actTakeEvents
  split
  · exact .refl _ s
  · exact sysp_frame s _

theorem actSetPolicy_frame (g p : Byte) (s : State) : OnlyChanges [.settings, .sto, .sysp] s (actSetPolicy g p s).1 := by
  unfold actSetPolicy
  split
  · exact (policySet_frame s _ _).mono (by decide)
  · exact .refl _ s

theorem execCartRead_changes (slot offset length : Byte) (sel : Selection) (s : State) :
    ExecChanges (arbiterParts ++ [.sysp]) s (execCartRead slot offset length sel s) :=
  execChanges_if (((sysp_frame s _).mono (by decide)).trans (takeCartRead_frame _ _ _ _))

theorem execSysFrameRejected_changes (frame : List Byte) (sel : Selection) (s : State) :
    ExecChanges [.sysp] s (execSysFrameRejected frame sel s) := by
  unfold execSysFrameRejected
  split
  · split
    · exact execChanges_next (.refl _ s)
    · exact sysReport_changes fun _ => rfl
  · exact execChanges_next (.refl _ s)

theorem engRequest_changes {ps : List Part} {s : State} {sel : Selection} {k : Byte} {len : Nat} {act : State → EngAnswer}
    (hm : .engp ∈ ps) (h : ∀ t, OnlyChanges ps t (act t).state) : ExecChanges ps s (.next (engRequest s sel k len act)) :=
  execChanges_next (engRequest_frame hm s sel k len act h)

theorem restartWatchdog_frame (s : State) : OnlyChanges [.engp] s (restartWatchdog s) := .ite (engp_frame s _) (.refl _ s)

/-- A report with too many entries, or none, changes nothing (R71). -/
theorem actDropReport_changes (id temperature : Byte) (l : List DropEntry) (s : State) :
    OnlyChanges debitParts s (actDropReport id temperature l s).state := by
  unfold actDropReport
  split
  · exact .refl _ s
  · exact arbitrateIfJoined_frame_debit (((restartWatchdog_frame s).mono (by decide)).trans (takeEntries_frame id _ l _))

theorem closeSwath_frame (s : State) (w : Swath) : OnlyChanges (arbiterParts ++ [.engp]) s (closeSwath s w) := by
  rw [closeSwath_eq]
  refine (OnlyChanges.trans (t := dropSwath s w.id) ((engp_frame s _).mono (by decide)) ?_).trans
    (((stopIfNoneOpen_frame _).trans (clearIfEmpty_frame _)).mono (by decide))
  exact OnlyChanges.foldl (fun t (l : Listed) => trigger t l.slot) (fun t l => (trigger_frame t l.slot).mono (by decide)) w.slots _

theorem actCloseSwath_frame (id : Byte) (s : State) : OnlyChanges (arbiterParts ++ [.engp]) s (actCloseSwath id s).state := by
  unfold actCloseSwath
  split
  · exact closeSwath_frame s _
  · exact .refl _ s

theorem execEngFrameRejected_changes (frame : List Byte) (sel : Selection) (s : State) :
    ExecChanges [.engp] s (execEngFrameRejected frame sel s) := by
  unfold execEngFrameRejected
  split
  · split
    · exact execChanges_next (.refl _ s)
    · exact engRequest_changes (by decide) fun t => .refl _ t
  · exact execChanges_next (.refl _ s)

/-! ### The engine's timers -/

theorem execReportWatchdogExpiry_changes (s : State) : ExecChanges [.engp, .sysp] s (execReportWatchdogExpiry s) :=
  execChanges_if ((((engp_frame s _).trans (reevalGates_frame _)).mono (by decide)).trans ((postEvent_frame _ _ _ _ _).mono (by decide)))

theorem execSwathTimerExpiry_changes (id : Byte) (s : State) : ExecChanges [.engp, .sysp] s (execSwathTimerExpiry id s) := by
  unfold execSwathTimerExpiry
  split
  · exact execChanges_if ((((modSwath_frame s _ _).trans (stopIfNoneOpen_frame _)).mono (by decide)).trans
      ((postEvent_frame _ _ _ _ _).mono (by decide)))
  · exact execChanges_next (.refl _ s)

theorem execPurgeTimerExpiry_changes (n : SlotId) (s : State) : ExecChanges debitParts s (execPurgeTimerExpiry n s) := by
  unfold execPurgeTimerExpiry
  split
  · exact execChanges_if (arbitrateIfJoined_frame_debit ((purged_frame s n _).trans ((postEvent_frame _ _ _ _ _).mono (by decide))))
  · exact execChanges_next (.refl _ s)

/-! ### The bus and the digest engine -/

theorem onLine_changes {ps : List Part} {s : State} {f : Transaction → State} (h : ∀ tx, OnlyChanges ps s (f tx)) :
    ExecChanges ps s (.next (onLine s f)) := execChanges_next (onLine_frame s f h)

theorem onCharacter_changes {ps : List Part} {s : State} {f : Transaction → State} (hm : .cbc ∈ ps) (h : ∀ tx, OnlyChanges ps s (f tx)) :
    ExecChanges ps s (.next (onCharacter s f)) := by
  refine execChanges_next ?_
  unfold onCharacter
  split
  · exact .refl _ s
  · exact h _
  · exact (cbc_frame s _).mono (by simpa using hm)

theorem collided_frame (s : State) (tx : Transaction) : OnlyChanges resultParts s (collided s tx) :=
  OnlyChanges.trans (t := lowSeen s) ((cbc_frame s _).mono (by decide)) (failAttempt_frame _ tx _)

theorem replyEnded_frame (s : State) (tx : Transaction) (address : Byte) (rest : List CbusChar) :
    OnlyChanges resultParts s (replyEnded s tx address rest) := by
  unfold replyEnded
  split
  · exact acceptReply_frame s tx _ _
  · exact failAttempt_frame s tx _

theorem execBreakEnd_changes (s : State) : ExecChanges [.cbc] s (execBreakEnd s) :=
  onLine_changes fun tx => .ite (OnlyChanges.trans (t := setCbc s { s.cbc with breakOwed := false, idle := 0, backoff := 0 })
    (cbc_frame s _) (.ite (setLine_frame _ _ _) (messageReady_frame _ tx))) (.refl _ s)

theorem execBackoffComplete_changes (k : Nat) (s : State) : ExecChanges [.cbc] s (execBackoffComplete k s) :=
  onLine_changes fun tx => .ite ((cbc_frame s _).trans (messageReady_frame _ tx)) (.refl _ s)

theorem execCollision_changes (s : State) : ExecChanges resultParts s (execCollision s) := by
  refine onLine_changes fun tx => ?_
  split
  · exact collided_frame s tx
  · exact .refl _ s

theorem execMessageSent_changes (s : State) : ExecChanges [.cbc] s (execMessageSent s) := by
  refine onLine_changes fun tx => ?_
  split
  · exact setLine_frame s _ _
  · exact .refl _ s

theorem execReplyAddressCharacter_changes (data : Byte) (s : State) : ExecChanges [.cbc] s (execReplyAddressCharacter data s) := by
  refine onCharacter_changes (by decide) fun tx => ?_
  split
  · exact setLine_frame s _ _
  · exact .refl _ s
  · exact .refl _ s
  · exact cbc_frame s _

theorem execReplyDeadlineExpiry_changes (s : State) : ExecChanges resultParts s (execReplyDeadlineExpiry s) :=
  onLine_changes fun tx => .ite (failAttempt_frame s tx _) (.ite ((setLine_frame s _ _).mono (by decide)) (.refl _ s))

theorem execCbusFramingError_changes (s : State) : ExecChanges resultParts s (execCbusFramingError s) := by
  refine onCharacter_changes (by decide) fun tx => ?_
  dsimp only
  split
  · exact (setLine_frame s _ _).mono (by decide)
  · exact (setLine_frame s _ _).mono (by decide)
  · exact collided_frame s tx
  · exact .refl _ s
  · exact (cbc_frame s _).mono (by decide)

theorem execFramingDiscardEnd_changes (s : State) : ExecChanges resultParts s (execFramingDiscardEnd s) := by
  refine onLine_changes fun tx => ?_
  split
  · exact OnlyChanges.trans (t := withIdle s 11) ((cbc_frame s _).mono (by decide)) (failAttempt_frame _ tx _)
  · exact .refl _ s

theorem execCbusReplyEnd_changes (rest : List CbusChar) (s : State) : ExecChanges resultParts s (execCbusReplyEnd rest s) := by
  refine onLine_changes fun tx => ?_
  split
  · exact ((cbc_frame s _).mono (by decide)).trans (replyEnded_frame (withIdle s _) tx _ rest)
  · exact .refl _ s

theorem execReplyLengthLimitExpiry_changes (s : State) : ExecChanges resultParts s (execReplyLengthLimitExpiry s) := by
  refine onLine_changes fun tx => ?_
  split
  · exact failAttempt_frame s tx _
  · exact .refl _ s

theorem execIdleWaitLimitExpiry_changes (s : State) : ExecChanges resultParts s (execIdleWaitLimitExpiry s) := by
  refine onLine_changes fun tx => ?_
  split
  · exact failAttempt_frame s tx _
  · exact failAttempt_frame s tx _
  · exact failAttempt_frame s tx _
  · exact .refl _ s

theorem execDerivedKeyDigestComplete_changes (s : State) : ExecChanges [.prf] s (execDerivedKeyDigestComplete s) := by
  refine execChanges_next ?_
  split
  · exact .ite (.ite ((prf_frame s _).trans (startResponseDigest_frame _)) (prf_frame s _)) (.refl _ s)
  · exact .refl _ s

theorem execResponseDigestComplete_changes (s : State) : ExecChanges resultParts s (execResponseDigestComplete s) := by
  refine execChanges_next ?_
  split
  · exact .ite (((responseChecked_frame s _).mono (by decide)).trans (leaveHeld_frame _)) (.refl _ s)
  · exact .refl _ s

/-! ### The service line -/

theorem execSyncSamplesComplete_changes (a b c : Bool) (s : State) : ExecChanges [.svl] s (execSyncSamplesComplete a b c s) := by
  unfold execSyncSamplesComplete
  split
  · exact execChanges_if (.ite (svl_frame s _) (svl_frame s _))
  · exact execChanges_next (.refl _ s)

theorem openCommand_changes {s : State} {k : Byte} {act : State → Answer} (h : ∀ t, (act t).1 = t) :
    ExecChanges [.svl] s (.next (openCommand s k act)) := execChanges_next (openCommand_frame s k act h)

theorem execStoreCheckComplete_changes (s : State) : ExecChanges [.svl] s (execStoreCheckComplete s) := by
  unfold execStoreCheckComplete
  split
  · exact execChanges_if ((svl_frame s _).trans (svcReply_frame _ _ _ _))
  · exact execChanges_next (.refl _ s)

theorem unlockFrame_changes (s : State) (k : Byte) (r : Unlock × Status) : ExecChanges [.svl] s (.next (unlockFrame s k r)) :=
  execChanges_if ((setUnlock_frame s _).trans (svcReply_frame _ _ _ _))

theorem privileged_changes {ps : List Part} {s : State} {k : Byte} {act : State → Answer} (hm : .svl ∈ ps)
    (h : ∀ t, OnlyChanges ps t (act t).1) : ExecChanges ps s (.next (privileged s k act)) :=
  execChanges_next (privileged_frame hm s k act h)

theorem storeCalibration_frame (s : State) (n : SlotId) (c : Calibration) : OnlyChanges [.svl, .cal, .sto] s (storeCalibration s n c) :=
  ((cal_frame s _).mono (by decide)).trans ((markDirty_frame _ _).mono (by decide))

theorem actWriteCal_frame (slot : Byte) (vS vM vL : Half) (kappa : Byte) (s : State) :
    OnlyChanges [.svl, .cal, .sto] s (actWriteCal slot vS vM vL kappa s).1 := by
  unfold actWriteCal
  split
  · exact .refl _ s
  · split
    · exact .refl _ s
    · split
      · exact .refl _ s
      · split
        · exact .refl _ s
        · exact storeCalibration_frame s _ _

theorem actLockCal_frame (mask : Half) (s : State) : OnlyChanges [.svl, .locks, .sto] s (actLockCal mask s).1 := by
  unfold actLockCal
  split
  · exact .refl _ s
  · split
    · exact .refl _ s
    · exact .ite (.refl _ s) (((locks_frame s _).mono (by decide)).trans ((markDirty_frame _ _).mono (by decide)))

theorem settingsDirty_frame (s : State) (x : Settings) :
    OnlyChanges [.svl, .settings, .sto] s (markDirty { s with settings := x } recSettings) :=
  ((settings_frame s _).mono (by decide)).trans ((markDirty_frame _ _).mono (by decide))

theorem actWriteColourMap_frame (c : Vector Byte 10) (s : State) : OnlyChanges [.svl, .settings, .sto] s (actWriteColourMap c s).1 := by
  unfold actWriteColourMap
  split
  · exact settingsDirty_frame s _
  · exact .refl _ s

theorem actWriteFilter_frame (e : Byte) (x : FilterImage) (s : State) : OnlyChanges [.svl, .his, .sto] s (actWriteFilter e x s).1 := by
  unfold actWriteFilter
  split
  · split
    · exact ((his_frame s _).mono (by decide)).trans ((markDirty_frame _ _).mono (by decide))
    · exact .refl _ s
  · exact .refl _ s

theorem actClearHistory_frame (table scope : Byte) (serial : Serial) (s : State) :
    OnlyChanges [.svl, .his, .sto] s (actClearHistory table scope serial s).1 := by
  unfold actClearHistory clearTable
  split
  · dsimp only
    split
    · exact (clearSeen_frame s _).mono (by decide)
    · exact (clearRetired_frame s _).mono (by decide)
  · exact .refl _ s

theorem actLoadKey_frame (index : Byte) (key : BitVec 128) (s : State) : OnlyChanges [.svl, .prf, .sto] s (actLoadKey index key s).1 := by
  unfold actLoadKey
  split
  · dsimp only
    split
    · exact .refl _ s
    · exact ((prf_frame s _).mono (by decide)).trans ((markDirty_frame _ _).mono (by decide))
  · exact .refl _ s

theorem execSvcFrameRejected_changes (frame : List Byte) (s : State) : ExecChanges [.svl] s (execSvcFrameRejected frame s) := by
  unfold execSvcFrameRejected
  split
  · exact openCommand_changes fun _ => rfl
  · exact execChanges_if (svl_frame s _)
  · exact execChanges_next (.refl _ s)

/-- A reset that may be due once the service line has moved on (R173). -/
theorem resetIfDue_frame (s : State) (v : Svl) : OnlyChanges resetParts s (resetIfDue { s with svl := v }) := by
  have h : OnlyChanges resetParts s { s with svl := v } := (svl_frame s v).mono (by decide)
  exact .ite (h.trans (fullReset_frame _ _)) h

/-! ### Presence, the store and power -/

theorem execPresenceLineChange_changes (n : SlotId) (high : Bool) (s : State) :
    ExecChanges [.lines, .slots] s (execPresenceLineChange n high s) := by
  have hlines (l : Lines) : OnlyChanges [.lines, .slots] s { s with lines := l } := (lines_frame s l).mono (by decide)
  exact execChanges_next (.ite (.refl _ s) (.ite ((hlines _).trans ((modSlot_frame _ n _).mono (by decide))) (hlines _)))

theorem execPresenceTimerExpiry_changes (n : SlotId) (s : State) : ExecChanges resultParts s (execPresenceTimerExpiry n s) := by
  have hsense : OnlyChanges resultParts s (senseSlot s n s.lines.presence[n]) := (modSlot_frame s n _).mono (by decide)
  rw [execPresenceTimerExpiry_eq]
  exact execChanges_if (.ite (hsense.trans ((insertion_frame _ n).mono (by decide))) (.ite (hsense.trans (removal_frame _ n)) hsense))

theorem withdrawPfail_frame (s : State) : OnlyChanges (arbiterParts ++ [.sto, .engp]) s (withdrawPfail s) := by
  rw [withdrawPfail_eq]
  refine OnlyChanges.trans (t := unwarned s) ?_ ((arbitrate_frame _).mono (by decide))
  exact (((sto_frame s _).mono (by decide)).trans ((reevalGates_frame _).mono (by decide))).trans ((cbc_frame _ _).mono (by decide))

theorem noteCheck_frame (s : State) : OnlyChanges [.svl, .draws] s (noteCheck s) := by
  unfold noteCheck
  split
  · exact .refl _ s
  · intro p hp; cases p <;> first | rfl | exact (hp (by decide)).elim

theorem execWriterStart_changes (s : State) : ExecChanges [.sto, .svl, .draws] s (execWriterStart s) := by
  refine execChanges_if ?_
  split
  · exact ((noteCheck_frame s).mono (by decide)).trans ((sto_frame _ _).mono (by decide))
  · exact .refl _ s

theorem execWriteComplete_changes (s : State) : ExecChanges [.sto] s (execWriteComplete s) := by
  unfold execWriteComplete
  split
  · exact execChanges_next (.ite ((sto_frame s _).trans (sto_frame _ _)) (endCarried_frame s))
  · exact execChanges_next (.ite (.refl _ s) (endCarried_frame s))

theorem losePower_frame (s : State) : OnlyChanges resetParts s (losePower s) :=
  ((breakRecord_frame s).mono (by decide)).trans (fullReset_frame _ _)

theorem loaded_frame (s : State) : OnlyChanges [.phase, .sto, .settings, .cal, .prf, .his, .locks, .sysp] s (loaded s) := by
  refine OnlyChanges.trans ((endCarried_frame s).mono (by decide)) ?_
  refine OnlyChanges.trans ?_ ((setPhase_frame (startUpLoad (endCarried s)) .running).mono (by decide))
  rw [startUpLoad_eq]
  exact ((loadRecords_frame _).mono (by decide)).trans ((postLoadEvents_frame _ _ _).mono (by decide))

theorem finishLoad_frame (s : State) : OnlyChanges resetParts s (finishLoad s) := by
  rw [finishLoad_eq]
  exact (((loaded_frame s).mono (by decide)).trans ((samplePfail_frame _).mono (by decide))).trans
    ((forSlots_frame sampleSlot sampleSlot_frame _).mono (by decide))

theorem execPfailNChange_changes (high : Bool) (s : State) : ExecChanges [.lines, .sto] s (execPfailNChange high s) := by
  refine execChanges_next (.ite (.refl _ s) ?_)
  exact ((lines_frame s _).mono (by decide)).trans ((sto_frame { s with lines := { s.lines with pfailN := high } } _).mono (by decide))

theorem execResetLineAsserted_changes (s : State) : ExecChanges (.lines :: resetParts) s (execResetLineAsserted s) := by
  have hlines : OnlyChanges (.lines :: resetParts) s { s with lines := { s.lines with resetN := false } } :=
    (lines_frame s _).mono (by decide)
  exact execChanges_next (.ite (.refl _ s) (.ite hlines (hlines.trans ((fullReset_frame _ _).mono (by decide)))))

theorem execResetLineWithdrawn_changes (s : State) : ExecChanges [.phase, .lines] s (execResetLineWithdrawn s) := by
  have hlines : OnlyChanges [.phase, .lines] s { s with lines := { s.lines with resetN := true } } := (lines_frame s _).mono (by decide)
  exact execChanges_next (.ite (hlines.trans ((setPhase_frame _ _).mono (by decide))) hlines)

/-! ### Every command -/

theorem exec_changes (i : Instr) (s : State) : ExecChanges (footprint i) s (exec i s) := by
  cases i with
  | presenceLineChange slot high => exact execPresenceLineChange_changes slot high s
  | presenceTimerExpiry slot => exact execPresenceTimerExpiry_changes slot s
  | lampPhaseExpiry slot => exact execChanges_if (modSlot_frame s slot _)
  | derivedKeyDigestComplete => exact execDerivedKeyDigestComplete_changes s
  | responseDigestComplete => exact execResponseDigestComplete_changes s
  | breakEnd => exact execBreakEnd_changes s
  | backoffComplete idleRun => exact execBackoffComplete_changes idleRun s
  | preambleComplete => exact onLine_changes fun tx => .ite (setLine_frame s _ _) (.refl _ s)
  | collision => exact execCollision_changes s
  | messageSent => exact execMessageSent_changes s
  | replyAddressCharacter data => exact execReplyAddressCharacter_changes data s
  | replyDeadlineExpiry => exact execReplyDeadlineExpiry_changes s
  | cbusFramingError => exact execCbusFramingError_changes s
  | framingDiscardEnd => exact execFramingDiscardEnd_changes s
  | cbusReplyEnd rest => exact execCbusReplyEnd_changes rest s
  | replyLengthLimitExpiry => exact execReplyLengthLimitExpiry_changes s
  | idleWaitLimitExpiry => exact execIdleWaitLimitExpiry_changes s
  | slotStatus slot sel => exact sysRequest_changes (by simp [footprint]) (forSlot_frame slot _ fun _ t => .refl _ t)
  | levels sel => exact sysReport_changes fun _ => rfl
  | setSlotMode slot mode sel => exact sysRequest_changes (by simp [footprint, debitParts]) (forSlot_frame slot _ (actSetSlotMode_frame mode))
  | admitSlot slot sel => exact sysRequest_changes (by simp [footprint, debitParts]) (forSlot_frame slot _ actAdmit_frame)
  | park slot sel => exact sysRequest_changes (by simp [footprint]) (forSlot_frame slot _ actPark_frame)
  | unpark slot sel => exact sysRequest_changes (by simp [footprint, debitParts]) (forSlot_frame slot _ actUnpark_frame)
  | retry slot sel => exact sysRequest_changes (by simp [footprint, resultParts, debitParts]) (forSlot_frame slot _ actRetry_frame)
  | ackAlert slot sel =>
    exact sysRequest_changes (by simp [footprint]) (forSlot_frame slot _ fun n t => (modSlot_frame t n _).mono (by simp [footprint]))
  | setLamp slot pattern sel => exact sysRequest_changes (by simp [footprint]) (forSlot_frame slot _ (actSetLamp_frame pattern))
  | takeEvents n sel => exact sysRequest_changes (by simp [footprint]) (actTakeEvents_frame n)
  | cartRead slot offset length sel => exact execCartRead_changes slot offset length sel s
  | setPolicy nonGenuine suspect sel => exact sysRequest_changes (by simp [footprint]) (actSetPolicy_frame nonGenuine suspect)
  | setLimits low reserve threshold window swath purge sel => exact sysRequest_changes (by simp [footprint]) fun t => limitsSet_frame t _
  | flush sel => exact sysRequest_changes (by simp [footprint]) actFlush_frame
  | historyRead table index sel => exact sysReport_changes (actHistoryRead_state table index)
  | accountStats slot sel =>
    exact sysRequest_changes (by simp [footprint]) (forSlot_frame slot _ fun n t => by rw [actAccountStats_state]; exact .refl _ t)
  | sysFrameRejected frame sel => exact execSysFrameRejected_changes frame sel s
  | sysPartialSelection received ready => exact execChanges_if (sysp_frame s _)
  | sysCollectSelection clocked ready => exact execChanges_if (sysp_frame s _)
  | openSwath id asks sel => exact engRequest_changes (by simp [footprint]) (actOpenSwath_frame id asks)
  | dropReport id temperature entries sel => exact engRequest_changes (by simp [footprint, debitParts]) (actDropReport_changes id temperature entries)
  | closeSwath id sel => exact engRequest_changes (by simp [footprint]) (actCloseSwath_frame id)
  | purgeStart slot amount sel => exact engRequest_changes (by simp [footprint]) (actPurgeStart_frame slot amount)
  | purgeEnd slot actual sel => exact engRequest_changes (by simp [footprint, debitParts]) (actPurgeEnd_frame slot actual)
  | gateStatus sel => exact engRequest_changes (by simp [footprint]) fun t => .refl _ t
  | engineRestart sel => exact engRequest_changes (by simp [footprint]) restartEngine_frame
  | engFrameRejected frame sel => exact execEngFrameRejected_changes frame sel s
  | engPartialSelection received ready => exact execChanges_if (engp_frame s _)
  | engCollectSelection clocked ready => exact execChanges_if (engp_frame s _)
  | reportWatchdogExpiry => exact execReportWatchdogExpiry_changes s
  | swathTimerExpiry id => exact execSwathTimerExpiry_changes id s
  | purgeTimerExpiry slot => exact execPurgeTimerExpiry_changes slot s
  | syncLowRunEnd lowNs => exact execChanges_if (svl_frame s _)
  | syncSamplesComplete first second third => exact execSyncSamplesComplete_changes first second third s
  | ident | slotDump | historyDump => exact openCommand_changes fun _ => rfl
  | storeCheck | svcGapTimeout | svcReplyStart | svcBreakStart => exact execChanges_if (svl_frame s _)
  | storeCheckComplete => exact execStoreCheckComplete_changes s
  | unlockA code => exact unlockFrame_changes s _ _
  | unlockB code => exact unlockFrame_changes s _ _
  | writeCal slot vS vM vL kappa => exact privileged_changes (by simp [footprint]) (actWriteCal_frame slot vS vM vL kappa)
  | lockCal mask => exact privileged_changes (by simp [footprint]) (actLockCal_frame mask)
  | writeColourMap colours => exact privileged_changes (by simp [footprint]) (actWriteColourMap_frame colours)
  | setRegion region => exact privileged_changes (by simp [footprint]) fun t => settingsDirty_frame t _
  | writeFilter entry enabled offset mask expected chain invert action => exact privileged_changes (by simp [footprint]) (actWriteFilter_frame entry _)
  | clearHistory table scope serial => exact privileged_changes (by simp [footprint]) (actClearHistory_frame table scope serial)
  | loadKey index key => exact privileged_changes (by simp [footprint]) (actLoadKey_frame index key)
  | restart => exact privileged_changes (by simp [footprint]) fun t => svl_frame t _
  | svcFrameRejected frame => exact execSvcFrameRejected_changes frame s
  | svcReplySent | svcBreakEnd => exact execChanges_if (resetIfDue_frame s _)
  | svcFramingError | toolBreak => exact execChanges_next (lineError_frame s)
  | svcCollision => exact execChanges_if (lineError_frame s)
  | pfailNChange high => exact execPfailNChange_changes high s
  | pfailAsserted => exact execChanges_if (assertPfail_frame s)
  | pfailWithdrawn => exact execChanges_if (withdrawPfail_frame s)
  | busFlushDrained => exact execChanges_if (drainCheck_frame s)
  | storeFlushComplete => exact execChanges_if (storeFlushCheck_frame s)
  | writerStart => exact execWriterStart_changes s
  | writeComplete => exact execWriteComplete_changes s
  | powerOn => exact execChanges_next (OnlyChanges.trans (.ite (.refl _ s) (losePower_frame s)) (fullReset_frame _ _))
  | resetLineAsserted => exact execResetLineAsserted_changes s
  | resetLineWithdrawn => exact execResetLineWithdrawn_changes s
  | startUpLoadComplete => exact execChanges_if (finishLoad_frame s)
  | powerLoss => exact execChanges_next (.ite (.refl _ s) (losePower_frame s))

end Sys2Proof.Machine
end

section
/-! Limits, colours, calibration and filters stay in their ranges (R68, R139, R156, R172, R175; O14). -/

namespace Sys2Proof.Machine

/-! ### Relations that the writes of history keep (R129 to R132) -/

/-- A relation between states that holds across every change that leaves history alone, and across the two operations of a
running part that write history: the close of an account and the end of a bus flush. -/
structure AcrossHistory (R : State → State → Prop) : Prop where
  trans : ∀ {s t u : State}, R s t → R t u → R s u
  frame : ∀ {s t : State} {ps : List Part}, OnlyChanges ps s t → .his ∉ ps → R s t
  close : ∀ (s : State) (n : SlotId), R s (closeAccount s n)
  drain : ∀ s : State, R s (drainCheck s)

/-- A conditional is related as both of its branches are. -/
theorem rel_ite {R : State → State → Prop} {s t u : State} {c : Prop} [Decidable c] (ht : R s t) (hu : R s u) :
    R s (if c then t else u) := by
  split
  · exact ht
  · exact hu

/-- The commands that name a history table or a filter (R144, R145), and those that reload them. -/
def namesHistory (i : Instr) : Bool :=
  match i with
  | .writeFilter _ _ _ _ _ _ _ _ | .clearHistory _ _ _ => true
  | i => reloads i

theorem warned_frame (s : State) : OnlyChanges [.sto, .engp, .cbc] s (warned s) :=
  (((sto_frame s _).mono (by decide)).trans ((reevalGates_frame _).mono (by decide))).trans ((cbc_frame _ _).mono (by decide))

section
variable {R : State → State → Prop} (h : AcrossHistory R)
include h

theorem AcrossHistory.refl (s : State) : R s s := h.frame (OnlyChanges.refl [] s) (by decide)

theorem AcrossHistory.leaveLine (s : State) : R s (leaveLine s) := by
  rw [leaveLine_eq]
  exact h.trans (h.trans (h.frame (lineOff_frame s) (by decide)) (h.frame (arbitrate_frame _) (by decide))) (h.drain _)

theorem AcrossHistory.handOver_leaveLine (s : State) (tx : Transaction) (r : TxResult) : R s (Machine.leaveLine (handOver s tx r)) :=
  h.trans (h.frame (handOver_frame s tx r) (by decide)) (h.leaveLine _)

theorem AcrossHistory.failAttempt (s : State) (tx : Transaction) (noted : List BusError) : R s (failAttempt s tx noted) := by
  have hnext (t : State) (tx : Transaction) : R t (nextAttempt t tx) := by
    unfold nextAttempt
    split
    · split
      · exact h.trans (h.frame (unbuiltChallenge_frame t _) (by decide)) (h.leaveLine _)
      · next hs => exact h.trans (h.frame (startChallenge_frame hs) (by decide)) (h.frame (beginAttempt_frame _ _) (by decide))
    · exact h.frame (beginAttempt_frame t _) (by decide)
  rw [failAttempt_eq]
  exact h.trans (h.frame (cbc_frame s _) (by decide)) (rel_ite (hnext _ _) (h.handOver_leaveLine _ tx _))

theorem AcrossHistory.collided (s : State) (tx : Transaction) : R s (collided s tx) :=
  h.trans (h.frame (cbc_frame s _) (by decide)) (h.failAttempt (lowSeen s) tx _)

theorem AcrossHistory.replyEnded (s : State) (tx : Transaction) (address : Byte) (rest : List CbusChar) :
    R s (replyEnded s tx address rest) := by
  unfold Machine.replyEnded
  split
  · refine rel_ite ?_ (h.handOver_leaveLine s tx _)
    exact h.trans (h.frame (cbc_frame s _) (by decide)) (h.frame (takeChallengeReply_frame _ _) (by decide))
  · exact h.failAttempt s tx _

theorem AcrossHistory.endSlotWork (s : State) (n : SlotId) : R s (endSlotWork s n) := by
  have habort (t : State) : R t (abortLine t n) := by
    unfold abortLine
    split
    · exact h.refl t
    · exact rel_ite (h.trans (h.frame (cbc_frame t _) (by decide)) (h.frame (handOver_frame _ _ _) (by decide))) (h.refl t)
  rw [endSlotWork_eq, cancelSlotWork_eq]
  refine h.trans (h.close s n) (h.trans ?_ (h.frame (dropEngineHolds_frame _ n) (by decide)))
  refine h.trans (h.frame (dropEntries_frame _ n) (by decide)) (h.trans (habort _) ?_)
  exact h.trans (h.frame (arbitrate_frame _) (by decide)) (h.drain _)

theorem AcrossHistory.removal (s : State) (n : SlotId) : R s (removal s n) := by
  rw [removal_eq]
  exact h.trans (h.endSlotWork s n) (h.frame (vacated_frame _ n _) (by decide))

theorem AcrossHistory.actRetry (n : SlotId) (s : State) : R s (actRetry n s).1 := by
  unfold Machine.actRetry
  split
  · split
    · exact h.refl s
    · exact h.trans (rel_ite (h.endSlotWork s n) (h.refl s)) (h.frame (startReading_frame _ n) (by decide))
  · exact h.refl s

/-! The commands that end a transaction, a slot's work or a bus flush (R11, R17, R58, R59, R182, R183). -/

theorem AcrossHistory.onLine {s : State} {f : Transaction → State} (hf : ∀ tx, R s (f tx)) : R s (onLine s f) := by
  unfold Machine.onLine
  split
  · exact rel_ite (hf _) (h.refl s)
  · exact h.refl s

theorem AcrossHistory.execCbusFramingError {s t : State} (he : execCbusFramingError s = .next t) : R s t := by
  cases he
  have hcbc (c : Cbc) : R s { s with cbc := c } := h.frame (cbc_frame s c) (by decide)
  unfold onCharacter
  split
  · exact h.refl s
  · dsimp only
    split
    · exact hcbc _
    · exact hcbc _
    · exact h.collided s _
    · exact h.refl s
    · exact hcbc _
  · exact hcbc _

theorem AcrossHistory.execCbusReplyEnd {rest : List CbusChar} {s t : State} (he : execCbusReplyEnd rest s = .next t) : R s t := by
  cases he
  refine h.onLine fun tx => ?_
  split
  · exact h.trans (h.frame (cbc_frame s _) (by decide)) (h.replyEnded (withIdle s _) tx _ rest)
  · exact h.refl s

theorem AcrossHistory.execReplyDeadlineExpiry {s t : State} (he : execReplyDeadlineExpiry s = .next t) : R s t := by
  cases he
  exact h.onLine fun tx => rel_ite (h.failAttempt s tx _) (rel_ite (h.frame (setLine_frame s _ _) (by decide)) (h.refl s))

theorem AcrossHistory.execIdleWaitLimitExpiry {s t : State} (he : execIdleWaitLimitExpiry s = .next t) : R s t := by
  cases he
  refine h.onLine fun tx => ?_
  split
  · exact h.failAttempt s tx _
  · exact h.failAttempt s tx _
  · exact h.failAttempt s tx _
  · exact h.refl s

theorem AcrossHistory.execFramingDiscardEnd {s t : State} (he : execFramingDiscardEnd s = .next t) : R s t := by
  cases he
  refine h.onLine fun tx => ?_
  split
  · exact h.trans (h.frame (cbc_frame s _) (by decide)) (h.failAttempt (withIdle s 11) tx _)
  · exact h.refl s

theorem AcrossHistory.execReplyLengthLimitExpiry {s t : State} (he : execReplyLengthLimitExpiry s = .next t) : R s t := by
  cases he
  refine h.onLine fun tx => ?_
  split
  · exact h.failAttempt s tx _
  · exact h.refl s

theorem AcrossHistory.execCollision {s t : State} (he : execCollision s = .next t) : R s t := by
  cases he
  refine h.onLine fun tx => ?_
  split
  · exact h.collided s tx
  · exact h.refl s

theorem AcrossHistory.execResponseDigestComplete {s t : State} (he : execResponseDigestComplete s = .next t) : R s t := by
  have hheld (u : State) : R u (leaveHeld u) := by
    unfold leaveHeld
    split
    · exact rel_ite (h.leaveLine u) (h.refl u)
    · exact h.refl u
  cases he
  split
  · exact rel_ite (h.trans (h.frame (responseChecked_frame s _) (by decide)) (hheld _)) (h.refl s)
  · exact h.refl s

theorem AcrossHistory.execPresenceTimerExpiry {n : SlotId} {s t : State} (he : execPresenceTimerExpiry n s = .next t) : R s t := by
  have hsense : R s (senseSlot s n s.lines.presence[n]) := h.frame (modSlot_frame s n _) (by decide)
  rw [execPresenceTimerExpiry_eq] at he
  cases he
  refine rel_ite (rel_ite ?_ (rel_ite (h.trans hsense (h.removal _ n)) hsense)) (h.refl s)
  exact h.trans hsense (h.frame (insertion_frame _ n) (by decide))

theorem AcrossHistory.assertPfail (s : State) : R s (assertPfail s) := by
  rw [assertPfail_eq]
  refine h.trans (t := warned s) ?_ (h.trans (h.frame (forSlots_frame trigger trigger_frame _) (by decide)) (h.drain _))
  exact h.frame (warned_frame s) (by decide)

theorem AcrossHistory.execRetry {slot : Byte} {sel : Selection} {s t : State} (he : execRetry slot sel s = .next t) : R s t := by
  have hsysp (u : State) (x : Sysp) : R u { u with sysp := x } := h.frame (sysp_frame u x) (by decide)
  have hact (u : State) : R u (forSlot slot Machine.actRetry u).1 := by
    unfold forSlot
    split
    · exact h.refl u
    · exact h.actRetry _ u
  cases he
  exact rel_ite (h.trans (h.trans (hsysp s _) (hsysp _ _)) (h.trans (hact _) (hsysp _ _))) (h.refl s)

/-- Every command but a reload, WRITE_FILTER and CLEAR_HISTORY. -/
theorem AcrossHistory.exec {i : Instr} (hi : namesHistory i = false) {s t : State} (he : exec i s = .next t) : R s t := by
  cases i with
  | svcReplySent | svcBreakEnd | powerOn | resetLineAsserted | startUpLoadComplete | powerLoss | writeFilter | clearHistory => cases hi
  | presenceTimerExpiry slot => exact h.execPresenceTimerExpiry he
  | responseDigestComplete => exact h.execResponseDigestComplete he
  | collision => exact h.execCollision he
  | replyDeadlineExpiry => exact h.execReplyDeadlineExpiry he
  | cbusFramingError => exact h.execCbusFramingError he
  | framingDiscardEnd => exact h.execFramingDiscardEnd he
  | cbusReplyEnd rest => exact h.execCbusReplyEnd he
  | replyLengthLimitExpiry => exact h.execReplyLengthLimitExpiry he
  | idleWaitLimitExpiry => exact h.execIdleWaitLimitExpiry he
  | retry slot sel => exact h.execRetry he
  | pfailAsserted =>
    cases he
    exact rel_ite (h.assertPfail s) (h.refl s)
  | busFlushDrained =>
    cases he
    exact rel_ite (h.drain s) (h.refl s)
  | _ => exact h.frame (exec_changes _ s t he) (by simp [footprint, debitParts, arbiterParts])

end

/-! ### What the invariant says of each part -/

/-- Limits and colours in their ranges (R156, R172). -/
def SettingsInRange (x : Settings) : Prop :=
  LimitsSafe x.limits ∧ ∀ n : SlotId, 1 ≤ x.colours[n].toNat ∧ x.colours[n].toNat ≤ 15

/-- VALID calibration in its ranges (R68). -/
def CalibrationsInRange (v : Vector Calibration 10) : Prop :=
  ∀ n : SlotId, v[n].valid = true → calibrationInRange v[n].vS v[n].vM v[n].vL v[n].kappa = true

/-- Filter offsets in their range (R139). -/
def FiltersInRange (v : Vector Filter 6) : Prop := ∀ e : Fin 6, v[e].offset.toNat ≤ 63

theorem settingsSafe_iff (s : State) :
    SettingsSafe s ↔ SettingsInRange s.settings ∧ CalibrationsInRange s.cal ∧ FiltersInRange s.his.filters := by
  unfold SettingsSafe SettingsInRange
  exact and_assoc.symm

theorem defaultSettings_inRange : SettingsInRange defaultSettings := by
  unfold SettingsInRange LimitsSafe
  decide

/-- Whatever limits are asked for, those set lie in their ranges (R156). -/
theorem clampLimits_safe (l : Limits) : LimitsSafe (clampLimits l) := by
  unfold LimitsSafe clampLimits clampTo
  dsimp only
  omega

/-! ### A reset and a load (R175 to R179) -/

theorem fullReset_settingsSafe (s : State) (p : Phase) : SettingsSafe (fullReset s p) := by
  refine (settingsSafe_iff _).2 ⟨defaultSettings_inRange, fun n => ?_, fun e => ?_⟩
  · show (Vector.replicate 10 invalidCalibration)[n].valid = true → _
    simp [invalidCalibration]
  · show (Vector.replicate 6 clearedFilter)[e].offset.toNat ≤ 63
    simp [clearedFilter]

theorem resetIfDue_settingsSafe {s : State} (h : SettingsSafe s) (v : Svl) : SettingsSafe (resetIfDue { s with svl := v }) := by
  unfold resetIfDue
  split
  · exact fullReset_settingsSafe _ _
  · exact h

/-- A settings record is read only if its values are in range (R175). -/
theorem readSettings_inRange {x : SettingsImage} {y : Settings} (h : readSettings x = some y) : SettingsInRange y := by
  unfold readSettings at h
  split at h
  · split at h
    · next hc =>
      cases h
      simp only [Bool.and_eq_true, limitsInRange, within_iff, List.all_eq_true] at hc
      obtain ⟨⟨hl, -⟩, hcolours⟩ := hc
      refine ⟨?_, fun n => hcolours _ (Vector.mem_toList_iff.2 (Vector.getElem_mem n.isLt))⟩
      unfold LimitsSafe
      dsimp only
      omega
    · cases h
  · cases h

theorem loadedSettings_inRange (s : State) : SettingsInRange ((loadedSettings s).getD defaultSettings) := by
  cases h : loadedSettings s with
  | none => exact defaultSettings_inRange
  | some y =>
    unfold loadedSettings at h
    split at h
    · exact readSettings_inRange h
    · cases h

theorem goodContents_fit {s : State} {r : Fin 118} {c : Contents} (h : goodContents s r = some c) : contentsFit r c = true := by
  unfold goodContents at h
  split at h
  · split at h
    · next hc => cases h; exact hc.2
    · cases h
  · cases h

theorem loadedCalibration_inRange (s : State) : CalibrationsInRange (tab 10 (loadedCalibration s)) := by
  intro n
  rw [tab_get]
  unfold loadedCalibration
  split
  · next h => exact fun _ => (Bool.and_eq_true_iff.1 (goodContents_fit h)).2
  · exact nofun

theorem readFilter_inRange {x : FilterImage} {f : Filter} (h : readFilter x = some f) : f.offset.toNat ≤ 63 := by
  unfold readFilter at h
  split at h
  · split at h
    · next hc => cases h; exact hc
    · cases h
  · cases h

theorem loadedFilter_inRange (s : State) : FiltersInRange (tab 6 (loadedFilter s)) := by
  intro e
  rw [tab_get]
  unfold loadedFilter
  split
  · next x h =>
    cases hf : readFilter x with
    | none => decide
    | some f => exact readFilter_inRange hf
  · decide

theorem acrossHistory_filters : AcrossHistory fun s t => t.his.filters = s.his.filters := by
  have hframe {s t : State} {ps : List Part} (h : OnlyChanges ps s t) (hp : .his ∉ ps) : t.his.filters = s.his.filters := by
    rw [show t.his = s.his from h .his hp]
  have hseen (s : State) (n : SlotId) (a : Account) : (seenFromAccount s n a).his.filters = s.his.filters := by
    rw [seenFromAccount_his]
    unfold readyStamp
    split
    · dsimp only
      rw [markOthers_his]
    · rfl
  have hretire (s : State) (p : Fin 64) : (readyRetire s p).his.filters = s.his.filters := by
    unfold readyRetire
    split
    · dsimp only
      rw [markOthers_his]
    · rfl
  have hadd (s : State) (x : Serial) (w : RetiredReason) : (addRetired s x w).his.filters = s.his.filters := by
    unfold addRetired
    split
    · exact hretire s _
    · split
      · split <;> rfl
      · rfl
  have hentry (s : State) (n : SlotId) : (provisionalEntry s n).his.filters = s.his.filters := by
    rcases provisionalEntry_cases s n with h | ⟨a, -, -, h⟩ <;> rw [h]
    exact hseen s n a
  have hentries (l : List SlotId) (s : State) : (l.foldl provisionalEntry s).his.filters = s.his.filters := by
    induction l generalizing s with
    | nil => rfl
    | cons n l ih => exact (ih _).trans (hentry s n)
  refine ⟨fun h k => k.trans h, hframe, fun s n => ?_, fun s => ?_⟩
  · unfold closeAccount
    split
    · rfl
    · next a _ =>
      show (closeIntoHistory s n a).his.filters = _
      unfold closeIntoHistory
      split
      · dsimp only
        split
        · exact (hadd _ _ _).trans (hseen s n a)
        · split
          · exact (hadd _ _ _).trans (hseen s n a)
          · exact hseen s n a
      · rfl
  · rcases drainCheck_his s with h | ⟨-, h⟩ <;> rw [h]
    rw [provisionalEntries_eq]
    exact hentries _ s

theorem finishLoad_settingsSafe (s : State) : SettingsSafe (finishLoad s) := by
  have hload := (loadRecords_spec (endCarried s)).1
  have hframe : OnlyChanges [.phase, .sysp] (loadRecords (endCarried s)) (loaded s) := by
    refine OnlyChanges.trans ?_ ((setPhase_frame (startUpLoad (endCarried s)) .running).mono (by decide))
    rw [startUpLoad_eq]
    exact (postLoadEvents_frame _ _ _).mono (by decide)
  have hsample : OnlyChanges resultParts (loaded s) (finishLoad s) := by
    rw [finishLoad_eq]
    exact ((samplePfail_frame _).mono (by decide)).trans ((forSlots_frame sampleSlot sampleSlot_frame _).mono (by decide))
  have hfilters : (finishLoad s).his.filters = (loaded s).his.filters := by
    rw [finishLoad_eq, forSlots_frame sampleSlot sampleSlot_frame _ .his (by decide), samplePfail_eq]
    split
    · rfl
    · exact acrossHistory_filters.assertPfail _
  refine (settingsSafe_iff _).2 ⟨?_, ?_, ?_⟩
  · rw [hsample .settings (by decide), hframe .settings (by decide), hload.settings]
    exact loadedSettings_inRange _
  · rw [hsample .cal (by decide), hframe .cal (by decide), hload.cal]
    exact loadedCalibration_inRange _
  · rw [hfilters, hframe .his (by decide), hload.filters]
    exact loadedFilter_inRange _

theorem exec_reload_settingsSafe {i : Instr} (hi : reloads i = true) {s t : State} (he : exec i s = .next t) (h : SettingsSafe s) :
    SettingsSafe t := by
  cases i with
  | svcReplySent | svcBreakEnd =>
    cases he
    split
    · exact resetIfDue_settingsSafe h _
    · exact h
  | powerOn =>
    cases he
    exact fullReset_settingsSafe _ _
  | resetLineAsserted =>
    cases he
    split
    · exact h
    · dsimp only
      split
      · exact h
      · exact fullReset_settingsSafe _ _
  | startUpLoadComplete =>
    cases he
    split
    · exact finishLoad_settingsSafe s
    · exact h
  | powerLoss =>
    cases he
    split
    · exact h
    · exact fullReset_settingsSafe _ _
  | _ => cases hi

/-! ### The commands that set them (R155, R156, R170, R172) -/

section
variable {P : State → Prop} {s : State}

/-- A property of the state that the replies of the system port do not touch holds after a request if its action keeps it. -/
theorem sysRequest_keepsProp (hp : ∀ (u : State) (x : Sysp), P u → P { u with sysp := x }) {sel : Selection} {k : Byte} {len : Nat}
    {act : State → Answer} (hact : ∀ u, P u → P (act u).1) (h : P s) : P (sysRequest s sel k len act) := by
  unfold sysRequest
  split
  · exact hp _ _ (hact _ (hp _ _ (hp s _ h)))
  · exact h

theorem privileged_keepsProp (hp : ∀ (u : State) (x : Svl), P u → P { u with svl := x }) {k : Byte} {act : State → Answer}
    (hact : ∀ u, P u → P (act u).1) (h : P s) : P (privileged s k act) := by
  unfold privileged
  split
  · split
    · exact hp _ _ (hact _ (hp s _ h))
    · exact hp _ _ (hp s _ h)
  · exact h

end

theorem actSetSlotMode_inRange (mode : Byte) (n : SlotId) (s : State) (h : SettingsInRange s.settings) :
    SettingsInRange (actSetSlotMode mode n s).1.settings := by
  unfold actSetSlotMode
  split
  · exact h
  · have hstored (m : Mode) : SettingsInRange (storeMode s n m).settings := by
      rw [storeMode_settings]
      exact h
    dsimp only
    split
    · rw [startReading_frame _ n .settings (by decide)]
      exact hstored _
    · exact hstored _

theorem actSetPolicy_inRange (g p : Byte) (s : State) (h : SettingsInRange s.settings) :
    SettingsInRange (actSetPolicy g p s).1.settings := by
  unfold actSetPolicy
  split
  · next g p _ _ =>
    show SettingsInRange (policySet s g p).settings
    rw [policySet_settings]
    exact h
  · exact h

theorem actSetLimits_inRange (asked : Limits) (s : State) (h : SettingsInRange s.settings) :
    SettingsInRange (actSetLimits asked s).1.settings := by
  rw [actSetLimits_eq, limitsSet_settings]
  exact ⟨clampLimits_safe asked, h.2⟩

theorem actWriteColourMap_inRange (colours : Vector Byte 10) (s : State) (h : SettingsInRange s.settings) :
    SettingsInRange (actWriteColourMap colours s).1.settings := by
  unfold actWriteColourMap
  split
  · next hc =>
    refine ⟨h.1, fun n => within_iff.1 ?_⟩
    exact List.all_eq_true.1 hc _ (Vector.mem_toList_iff.2 (Vector.getElem_mem n.isLt))
  · exact h

theorem exec_settingsInRange {i : Instr} (hi : reloads i = false) {s t : State} (he : exec i s = .next t)
    (h : SettingsInRange s.settings) : SettingsInRange t.settings := by
  cases i with
  | svcReplySent | svcBreakEnd | powerOn | resetLineAsserted | startUpLoadComplete | powerLoss => cases hi
  | setSlotMode slot mode sel =>
    cases he
    refine sysRequest_keepsProp (P := fun u => SettingsInRange u.settings) (fun _ _ => id) (fun u hu => ?_) h
    unfold forSlot
    split
    · exact hu
    · exact actSetSlotMode_inRange mode _ u hu
  | setPolicy nonGenuine suspect sel =>
    cases he
    exact sysRequest_keepsProp (P := fun u => SettingsInRange u.settings) (fun _ _ => id) (actSetPolicy_inRange nonGenuine suspect) h
  | setLimits low reserve threshold window swath purge sel =>
    cases he
    exact sysRequest_keepsProp (P := fun u => SettingsInRange u.settings) (fun _ _ => id) (actSetLimits_inRange _) h
  | writeColourMap colours =>
    cases he
    exact privileged_keepsProp (P := fun u => SettingsInRange u.settings) (fun _ _ => id) (actWriteColourMap_inRange colours) h
  | setRegion region =>
    cases he
    exact privileged_keepsProp (P := fun u => SettingsInRange u.settings) (fun _ _ => id) (fun _ => id) h
  | _ =>
    rw [exec_changes _ s t he .settings (by simp [footprint, resultParts, debitParts, arbiterParts])]
    exact h

theorem actWriteCal_inRange (slot : Byte) (vS vM vL : Half) (kappa : Byte) (s : State) (h : CalibrationsInRange s.cal) :
    CalibrationsInRange (actWriteCal slot vS vM vL kappa s).1.cal := by
  unfold actWriteCal
  split
  · exact h
  · next n _ =>
    split
    · exact h
    · next hr =>
      split
      · exact h
      · split
        · exact h
        · intro m
          show (put s.cal n _)[m].valid = true → _
          have hm := h m
          change _ → calibrationInRange (put s.cal n _)[m].vS (put s.cal n _)[m].vM (put s.cal n _)[m].vL (put s.cal n _)[m].kappa = true
          rw [put_get]
          split
          · exact fun _ => by simpa using hr
          · exact hm

theorem exec_calibrationsInRange {i : Instr} (hi : reloads i = false) {s t : State} (he : exec i s = .next t)
    (h : CalibrationsInRange s.cal) : CalibrationsInRange t.cal := by
  cases i with
  | svcReplySent | svcBreakEnd | powerOn | resetLineAsserted | startUpLoadComplete | powerLoss => cases hi
  | writeCal slot vS vM vL kappa =>
    cases he
    exact privileged_keepsProp (P := fun u => CalibrationsInRange u.cal) (fun _ _ => id) (actWriteCal_inRange slot vS vM vL kappa) h
  | _ =>
    rw [exec_changes _ s t he .cal (by simp [footprint, resultParts, debitParts, arbiterParts])]
    exact h

theorem actWriteFilter_inRange (entry : Byte) (x : FilterImage) (s : State) (h : FiltersInRange s.his.filters) :
    FiltersInRange (actWriteFilter entry x s).1.his.filters := by
  unfold actWriteFilter
  split
  · split
    · next f hf =>
      intro e
      change (put s.his.filters _ f)[e].offset.toNat ≤ 63
      rw [put_get]
      split
      · exact readFilter_inRange hf
      · exact h e
    · exact h
  · exact h

theorem actClearHistory_filters (table scope : Byte) (serial : Serial) (s : State) :
    (actClearHistory table scope serial s).1.his.filters = s.his.filters := by
  unfold actClearHistory clearTable
  split
  · dsimp only
    split
    · rw [(clearSeen_spec s _).1]
    · rw [(clearRetired_spec s _).1]
  · rfl

theorem exec_filtersInRange {i : Instr} (hi : reloads i = false) {s t : State} (he : exec i s = .next t)
    (h : FiltersInRange s.his.filters) : FiltersInRange t.his.filters := by
  by_cases hn : namesHistory i = false
  · rw [acrossHistory_filters.exec hn he]
    exact h
  · cases i with
    | writeFilter entry enabled offset mask expected chain invert action =>
      cases he
      exact privileged_keepsProp (P := fun u => FiltersInRange u.his.filters) (fun _ _ => id) (actWriteFilter_inRange entry _) h
    | clearHistory table scope serial =>
      cases he
      refine privileged_keepsProp (P := fun u => FiltersInRange u.his.filters) (fun _ _ => id) (fun u hu => ?_) h
      rw [actClearHistory_filters]
      exact hu
    | _ => exact absurd hi hn

/-- Settles O14: a command that sets limits, colours, calibration or a filter checks or clamps them, the load reads records in
range alone, and no other command touches them. -/
theorem everyStepKeepsSettingsInRange : Obligations.EveryStepKeepsSettingsInRange := by
  intro s t hs h
  unfold step at h
  split at h
  · next i rest _ =>
    cases hi : reloads i with
    | true => exact exec_reload_settingsSafe hi h hs
    | false =>
      obtain ⟨hset, hcal, hfilters⟩ := (settingsSafe_iff s).1 hs
      exact (settingsSafe_iff t).2
        ⟨exec_settingsInRange hi h hset, exec_calibrationsInRange hi h hcal, exec_filtersInRange hi h hfilters⟩
  · cases h
    unfold tick
    split <;> exact hs

end Sys2Proof.Machine
end

section
/-! Metering arithmetic: what a run of fine volumes adds up to, and the ranges of T, F, P and Q (R72 to R76; O41). -/

namespace Sys2Proof.Machine

theorem unitsPerMicrolitre_pos : 0 < unitsPerMicrolitre := by decide

/-! ### The residue carried over a run (R76) -/

/-- One fine volume after another: the microlitres debited so far and the residue. -/
def carryStep (x : Nat × Nat) (q : Nat) : Nat × Nat := (x.1 + (carry x.2 q).1, (carry x.2 q).2)

/-- Carried on, a residue loses nothing of what was debited before. -/
theorem carry_div (r q x : Nat) :
    (r + q) / unitsPerMicrolitre + ((r + q) % unitsPerMicrolitre + x) / unitsPerMicrolitre = (r + (q + x)) / unitsPerMicrolitre := by
  conv_rhs => rw [← Nat.add_assoc, ← Nat.div_add_mod (r + q) unitsPerMicrolitre, Nat.add_assoc,
    Nat.mul_add_div unitsPerMicrolitre_pos]

theorem carry_mod (r q x : Nat) : ((r + q) % unitsPerMicrolitre + x) % unitsPerMicrolitre = (r + (q + x)) % unitsPerMicrolitre := by
  rw [Nat.mod_add_mod, Nat.add_assoc]

/-- Whatever was debited and left before, the run adds quotient and remainder of residue and sum. -/
theorem foldl_carryStep (qs : List Nat) {k r : Nat} (h : r < unitsPerMicrolitre) :
    qs.foldl carryStep (k, r) = (k + (r + qs.sum) / unitsPerMicrolitre, (r + qs.sum) % unitsPerMicrolitre) := by
  induction qs generalizing k r with
  | nil => rw [List.foldl_nil, List.sum_nil, Nat.add_zero, Nat.div_eq_of_lt h, Nat.mod_eq_of_lt h, Nat.add_zero]
  | cons q qs ih =>
    rw [List.foldl_cons, carryStep, carry, ih (Nat.mod_lt _ unitsPerMicrolitre_pos), Nat.add_assoc k, carry_div, carry_mod,
      List.sum_cons]

/-! ### The temperature factor (R72, R74) -/

theorem temperatureFactor_range (kappa : Byte) (t : Nat) :
    2048 ≤ temperatureFactor kappa t ∧ temperatureFactor kappa t ≤ 6144 := by
  unfold temperatureFactor
  omega

theorem temperatureFactor_neutral {kappa : Byte} {t : Nat} (h : kappa = 0 ∨ t = 30) : temperatureFactor kappa t = 4096 := by
  have hprod : kappa.toInt * ((t : Int) - 30) = 0 := by
    rcases h with rfl | rfl
    · exact Int.zero_mul _
    · exact Int.mul_zero _
  rw [temperatureFactor, unclampedFactor, hprod]
  rfl

/-! ### Raw and fine volume of an entry (R73, R75) -/

theorem calibrationInRange_volumes {vS vM vL : Half} {kappa : Byte} (h : calibrationInRange vS vM vL kappa = true) :
    (16 ≤ vS.toNat ∧ vS.toNat ≤ 1023) ∧ (16 ≤ vM.toNat ∧ vM.toNat ≤ 1023) ∧ 16 ≤ vL.toNat ∧ vL.toNat ≤ 1023 := by
  simp only [calibrationInRange, Bool.and_eq_true, within_iff] at h
  obtain ⟨⟨⟨⟨hS, hM⟩, hL⟩, -⟩, -⟩ := h
  exact ⟨hS, hM, hL⟩

/-- One size's share of the raw volume is at most 65,535 drops of 1,023 sixteenths. -/
theorem drops_le (n : Half) {v : Nat} (hv : v ≤ 1023) : n.toNat * v ≤ 67042305 :=
  Nat.mul_le_mul (Nat.le_of_lt_succ n.isLt) hv

theorem drops_eq_zero (n : Half) {v : Nat} (hv : 16 ≤ v) : n.toNat * v = 0 ↔ n = 0 := by
  rw [Nat.mul_eq_zero, or_iff_left (by omega)]
  exact BitVec.toNat_inj (y := 0)

section
variable {c : Calibration} (h : calibrationInRange c.vS c.vM c.vL c.kappa = true) (e : DropEntry) (t : Nat)
include h

theorem rawVolume_le : rawVolume c e ≤ 201126915 := by
  obtain ⟨⟨-, hS⟩, ⟨-, hM⟩, -, hL⟩ := calibrationInRange_volumes h
  have hsmall := drops_le e.small hS
  have hmedium := drops_le e.medium hM
  have hlarge := drops_le e.large hL
  unfold rawVolume
  omega

theorem rawVolume_eq_zero : rawVolume c e = 0 ↔ e.small = 0 ∧ e.medium = 0 ∧ e.large = 0 := by
  obtain ⟨⟨hS, -⟩, ⟨hM, -⟩, hL, -⟩ := calibrationInRange_volumes h
  rw [rawVolume, Nat.add_eq_zero_iff, Nat.add_eq_zero_iff, drops_eq_zero _ hS, drops_eq_zero _ hM, drops_eq_zero _ hL, and_assoc]

theorem fineVolume_le : fineVolume c e t ≤ 1235723765760 :=
  Nat.mul_le_mul (rawVolume_le h e) (temperatureFactor_range c.kappa t).2

theorem fineVolume_eq_zero : fineVolume c e t = 0 ↔ e.small = 0 ∧ e.medium = 0 ∧ e.large = 0 := by
  have hF := (temperatureFactor_range c.kappa t).1
  rw [fineVolume, Nat.mul_eq_zero, or_iff_left (by omega), rawVolume_eq_zero h]

end

/-- Settles O41. -/
theorem meteringLosesNothing : Obligations.MeteringLosesNothing := by
  refine ⟨fun r qs hr => ?_, fun carried => ⟨Nat.min_le_right .., Nat.min_eq_left, fun h => Nat.min_eq_right (Nat.le_of_lt h)⟩,
    fun kappa carried => ?_, fun c e carried r hc hr => ?_⟩
  · exact (foldl_carryStep qs hr).trans (by rw [Nat.zero_add])
  · obtain ⟨hlow, hhigh⟩ := temperatureFactor_range kappa (workingTemperature carried)
    exact ⟨hlow, hhigh, temperatureFactor_neutral⟩
  · have hQ := fineVolume_le hc e (workingTemperature carried)
    have hsum : r + fineVolume c e (workingTemperature carried) ≤ 1301259765759 := by
      unfold unitsPerMicrolitre at hr
      omega
    exact ⟨rawVolume_le hc e, hQ, fineVolume_eq_zero hc e _, hsum, Nat.div_le_div_right (c := unitsPerMicrolitre) hsum,
      Nat.mod_lt _ unitsPerMicrolitre_pos⟩

end Sys2Proof.Machine
end

section
/-! WRITE_FILTER with an action code past REJECT (R139, R172; O54). -/

namespace Sys2Proof.Machine

/-- The last `none` of `FilterAction.ofCode` is the action NONE, lifted to `some`, and not a refusal: in the function's own
namespace the name is the constructor's. -/
theorem filterAction_ofCode_unlisted {b : Byte} (h : 2 < b.toNat) : FilterAction.ofCode b = some .none := by
  have hne (c : Byte) (hc : c.toNat ≤ 2) : b ≠ c := ne_of_toNat_lt (by omega)
  unfold FilterAction.ofCode
  rw [if_neg (hne 0 (by decide)), if_neg (hne 1 (by decide)), if_neg (hne 2 (by decide))]

/-- A filter record disabled, of action code 3. -/
def unlistedAction : FilterImage := ⟨0, 0, 0, 0, 0, 0, 3⟩

theorem readFilter_unlistedAction : readFilter unlistedAction = some ⟨false, 0, 0, 0, false, false, .none⟩ := by
  have ha : FilterAction.ofCode unlistedAction.action = some .none := filterAction_ofCode_unlisted (by decide)
  simp only [readFilter, ha]
  rfl

/-- Refutes O54: its last clause refuses an action code above 2 with RANGE, but `FilterAction.ofCode 3` is the action NONE, so
an unlocked WRITE_FILTER of entry 0 with action 3 is answered OK. -/
theorem not_settingCommandsTakeEffect : ¬ Obligations.SettingCommandsTakeEffect := by
  intro h
  have hl : listening (Tests.served .opened) = true := by decide
  obtain ⟨-, -, -, -, -, -, -, -, -, hrefused⟩ := h (Tests.served .opened) hl rfl
  have hrange := hrefused 0 0 0 0 0 3 0 0 (by decide)
  have htaken : (actWriteFilter 0 unlistedAction (setUnlock (Tests.served .opened) .none)).2.1 = .ok := by
    rw [actWriteFilter, dif_pos (by decide), readFilter_unlistedAction]
  have hstate : privileged (Tests.served .opened) 0x4C (actWriteFilter 0 unlistedAction) = _ := Host.Outcome.next.inj hrange
  rw [privileged_opened hl rfl, htaken] at hstate
  have hstatus : some Status.ok = some Status.range := congrArg (fun t : State => t.svl.reply.map SvcReply.status) hstate
  cases hstatus

end Sys2Proof.Machine
end

section
/-! What the steps of a debit leave of the swath table, the purge records and the slot's account (R88 to R91). -/

namespace Sys2Proof.Machine

/-! ### Swaths and purge records kept -/

/-- From `s` to `t` the swath table and the purge records stay. -/
structure SameHolds (s t : State) : Prop where
  table : t.engp.table = s.engp.table
  purges : t.engp.purges = s.engp.purges

theorem SameHolds.refl (s : State) : SameHolds s s := ⟨rfl, rfl⟩

theorem SameHolds.trans {s t u : State} (h : SameHolds s t) (k : SameHolds t u) : SameHolds s u :=
  ⟨k.table.trans h.table, k.purges.trans h.purges⟩

theorem SameHolds.of_frame {s t : State} {ps : List Part} (h : OnlyChanges ps s t) (hp : .engp ∉ ps) : SameHolds s t :=
  ⟨by rw [h .engp hp], by rw [h .engp hp]⟩

theorem SameHolds.ite {s t u : State} {c : Prop} [Decidable c] (h : SameHolds s t) (k : SameHolds s u) :
    SameHolds s (if c then t else u) := by
  split
  · exact h
  · exact k

theorem SameHolds.holds {s t : State} (h : SameHolds s t) (n : SlotId) : holds t n = holds s n := by
  rw [Machine.holds, Machine.holds, purgeHold, purgeHold, h.table, h.purges]

theorem moveSlot_sameHolds (s : State) (n : SlotId) (st : SlotState) : SameHolds s (moveSlot s n st) := by
  have h := moveSlot_engp s n st
  exact ⟨by rw [h], by rw [h]⟩

theorem changeState_sameHolds (s : State) (n : SlotId) (st : SlotState) : SameHolds s (changeState s n st) := by
  have h := moveSlot_sameHolds s n st
  exact ⟨by rw [changeState_engp]; exact h.table, by rw [changeState_engp]; exact h.purges⟩

theorem raiseAlert_sameHolds (s : State) (n : SlotId) (c : AlertCode) (v : Option Word) : SameHolds s (raiseAlert s n c v) :=
  .of_frame (raiseAlert_frame_slot s n c v) (by decide)

theorem reportExhaustion_sameHolds (s : State) (n : SlotId) : SameHolds s (reportExhaustion s n) := by
  unfold reportExhaustion
  refine SameHolds.trans ?_ (raiseAlert_sameHolds _ n _ _)
  exact SameHolds.trans (t := reevalGate s n) ⟨rfl, rfl⟩ (.ite (changeState_sameHolds _ n _) (.refl _))

/-! ### The account after a debit -/

theorem reportExhaustion_account {s : State} {n : SlotId} {a : Account} (h : s.accounts[n] = some a) :
    ∃ x, (reportExhaustion s n).accounts[n] = some { a with spent := x } := by
  unfold reportExhaustion
  dsimp only
  rw [raiseAlert_frame_slot _ n _ _ .accounts (by decide)]
  split
  · exact changeState_account (s := reevalGate s n) .exhausted h
  · exact ⟨a.spent, h⟩

theorem afterDebit_unmetered {s : State} {n : SlotId} {a : Account} (h : s.accounts[n] = some a) (hm : a.metered ≠ true) (before : Nat) :
    afterDebit s n before = s := by
  unfold afterDebit
  rw [h]
  exact if_neg hm

/-- Only a metered account takes the steps after a debit (R88). -/
theorem afterDebit_cases (s : State) (n : SlotId) (before : Nat) :
    afterDebit s n before = s ∨ ∃ a, s.accounts[n] = some a ∧ a.metered = true ∧
      afterDebit s n before = thresholdTaken (if 0 < before ∧ headroom a = 0 then
        reportExhaustion (clampHolds (refreshLevel s n) n) n else clampHolds (refreshLevel s n) n) n := by
  cases ha : s.accounts[n] with
  | none =>
    left
    unfold afterDebit
    rw [ha]
  | some a =>
    by_cases hm : a.metered = true
    · exact .inr ⟨a, rfl, hm, afterDebit_eq ha hm before⟩
    · exact .inl (afterDebit_unmetered ha hm before)

/-- The steps after a debit change of the account its level and its spent mark alone (R88). -/
theorem afterDebit_account {s : State} {n : SlotId} {a : Account} (h : s.accounts[n] = some a) (before : Nat) :
    ∃ l x, (afterDebit s n before).accounts[n] = some { a with level := l, spent := x } := by
  rcases afterDebit_cases s n before with hs | ⟨b, hb, hm, hs⟩
  · exact ⟨a.level, a.spent, by rw [hs]; exact h⟩
  · obtain ⟨⟨l, hl⟩, -⟩ := refreshLevel_at h
    have hclamp : (clampHolds (refreshLevel s n) n).accounts[n] = some { a with level := l } := by
      rw [clampHolds_frame _ n .accounts (by decide)]
      exact hl
    rw [hs, thresholdTaken_frame _ n .accounts (by decide)]
    split
    · obtain ⟨x, hx⟩ := reportExhaustion_account hclamp
      exact ⟨l, x, hx⟩
    · exact ⟨l, a.spent, hclamp⟩

/-- Sent from or not, an account keeps what the arbiter does not move, and the sum of the two amounts it moves between (R94). -/
theorem arbitrateIfJoined_account {s t : State} {n : SlotId} {a : Account} (h : t.accounts[n] = some a) :
    ∃ b, (arbitrateIfJoined s t).accounts[n] = some b ∧ b = { a with inFlight := b.inFlight, pendingInk := b.pendingInk } ∧
      b.inFlight + b.pendingInk = a.inFlight + a.pendingInk := by
  have hkeep : ∃ b, t.accounts[n] = some b ∧ b = { a with inFlight := b.inFlight, pendingInk := b.pendingInk } ∧
      b.inFlight + b.pendingInk = a.inFlight + a.pendingInk := ⟨a, h, rfl, rfl⟩
  unfold arbitrateIfJoined
  split
  · exact hkeep
  · rcases arbitrate_account h with hsame | ⟨b, hsent, hb⟩
    · rw [hsame, ← h]
      exact hkeep
    · exact ⟨b, hb, sent_fields hsent⟩

/-! ### A purge record that is clear stays so -/

theorem clampHolds_purgeNone {s : State} {n : SlotId} (h : s.engp.purges[n] = none) : (clampHolds s n).engp.purges[n] = none := by
  cases ha : s.accounts[n] with
  | none =>
    unfold clampHolds
    rw [ha]
    exact h
  | some a =>
    obtain ⟨cuts, heq⟩ := clampHolds_eq ha
    have hcut (excess : Nat) : (postCuts (cut s n excess) n cuts).engp.purges[n] = none := by
      have hpurges : (postCuts (cut s n excess) n cuts).engp = (cut s n excess).engp := postCuts_frame _ n cuts .engp (by decide)
      rw [hpurges]
      exact (upd_same _ _ _).trans (by rw [h]; rfl)
    rw [heq]
    split
    · exact hcut _
    · exact h

theorem afterDebit_purgeNone {s : State} {n : SlotId} (h : s.engp.purges[n] = none) (before : Nat) :
    (afterDebit s n before).engp.purges[n] = none := by
  have hclamp : (clampHolds (refreshLevel s n) n).engp.purges[n] = none :=
    clampHolds_purgeNone (by rw [refreshLevel_frame s n .engp (by decide)]; exact h)
  rcases afterDebit_cases s n before with hs | ⟨a, -, -, hs⟩
  · rw [hs]
    exact h
  · have hsame (c : Prop) [Decidable c] : SameHolds (clampHolds (refreshLevel s n) n) (thresholdTaken (if c then
        reportExhaustion (clampHolds (refreshLevel s n) n) n else clampHolds (refreshLevel s n) n) n) :=
      (SameHolds.ite (reportExhaustion_sameHolds _ n) (.refl _)).trans (.of_frame (thresholdTaken_frame _ n) (by decide))
    rw [hs, (hsame _).purges]
    exact hclamp

end Sys2Proof.Machine
end

section
/-! A purge is debited once, by its end or its timer (R80, R84, R119, R120; O46). -/

namespace Sys2Proof.Machine

/-! ### Room in the event queue (R160) -/

/-- The event queue holds no OVERFLOW and takes `k` more events. -/
def Room (k : Nat) (s : State) : Prop := (∀ e ∈ s.sysp.events, e.kind ≠ .overflow) ∧ s.sysp.events.length + k ≤ 24

theorem Room.mono {j k : Nat} {s : State} (h : Room k s) (hk : j ≤ k) : Room j s := ⟨h.1, by have := h.2; omega⟩

theorem Room.of_sysp {k : Nat} {s t : State} (h : Room k s) (ht : t.sysp = s.sysp) : Room k t := by
  unfold Room at h ⊢
  rw [ht]
  exact h

/-- An event posted with room is stored last. -/
theorem postEvent_stored {k : Nat} {s : State} (h : Room (k + 1) s) (kind : EventKind) (n c : Byte) (v : Option Word) :
    (postEvent s kind n c v).sysp.events = s.sysp.events ++ [⟨s.sysp.seq, kind, n, c, v⟩] := by
  obtain ⟨hkinds, hlen⟩ := h
  have hno : (s.sysp.events.any (·.kind == .overflow)) = false :=
    List.any_eq_false.2 fun e he hk => hkinds e he (eq_of_beq hk)
  rw [postEvent_sysp]
  dsimp only
  rw [takeEvent, if_neg (by rw [hno]; nofun), if_pos (by omega)]

theorem Room.post {k : Nat} {s : State} (h : Room (k + 1) s) {kind : EventKind} (hk : kind ≠ .overflow) (n c : Byte) (v : Option Word) :
    Room k (postEvent s kind n c v) := by
  obtain ⟨hkinds, hlen⟩ := h
  unfold Room
  rw [postEvent_stored ⟨hkinds, hlen⟩]
  refine ⟨fun e he => ?_, by rw [List.length_append, List.length_singleton]; omega⟩
  rcases List.mem_append.1 he with he | he
  · exact hkinds e he
  · rw [List.mem_singleton.1 he]
    exact hk

/-! ### The events of a debit (R87 to R90) -/

theorem refreshLevel_room {k : Nat} {s : State} (h : Room (k + 1) s) (n : SlotId) : Room k (refreshLevel s n) := by
  unfold refreshLevel
  split
  · exact h.mono (Nat.le_succ k)
  · next a _ =>
    have hpost (l : Level) (v : Option Word) :
        Room k (postEvent (setAccount s n (some { a with level := l })) .level (slotByte n) l.code v) :=
      Room.post (h.of_sysp rfl) (by nofun) _ _ _
    dsimp only
    split
    · split
      · exact (hpost _ _).of_sysp rfl
      · exact hpost _ _
    · exact h.mono (Nat.le_succ k)

theorem postCuts_room {k : Nat} {s : State} (n : SlotId) (cuts : List (Byte × Nat)) (h : Room (k + cuts.length) s) :
    Room k (postCuts s n cuts) := by
  unfold postCuts
  induction cuts generalizing s with
  | nil => exact h
  | cons c cuts ih =>
    refine ih ?_
    dsimp only
    split
    · exact h.mono (by rw [List.length_cons]; omega)
    · exact Room.post h (by nofun) _ _ _

theorem cutSwaths_length (n : SlotId) (ws : List Swath) (e : Nat) : (cutSwaths n ws e).2.2.length ≤ ws.length := by
  induction ws with
  | nil => exact Nat.le_refl _
  | cons w ws ih =>
    unfold cutSwaths
    dsimp only
    split
    · rw [List.length_append, List.length_singleton, List.length_cons]
      exact Nat.succ_le_succ ih
    · exact Nat.le_succ_of_le ih

/-- The clamp posts at most one event for each swath and one for the purge hold (R89). -/
theorem clampHolds_room {k : Nat} {s : State} (n : SlotId) (h : Room (k + s.engp.table.length + 1) s) : Room k (clampHolds s n) := by
  unfold clampHolds
  split
  · exact h.mono (by omega)
  · next a _ =>
    split
    · refine postCuts_room n _ ((h.of_sysp rfl).mono ?_)
      rw [List.length_append, List.length_singleton]
      exact Nat.add_le_add_left (Nat.succ_le_succ (cutSwaths_length n s.engp.table _)) k
    · exact h.mono (by omega)

theorem raiseAlert_room {k : Nat} {s : State} (h : Room (k + 1) s) (n : SlotId) (c : AlertCode) (v : Option Word) :
    Room k (raiseAlert s n c v) := (Room.post h (kind := .alert) (by nofun) _ _ _).of_sysp (raiseAlert_sysp s n c v)

theorem changeState_room {k : Nat} {s : State} (h : Room (k + 1) s) (n : SlotId) (st : SlotState) : Room k (changeState s n st) :=
  (Room.post h (kind := .slotState) (by nofun) _ _ _).of_sysp ((changeState_sysp s n st).trans (moveSlot_sysp s n st))

theorem reportExhaustion_room {k : Nat} {s : State} (h : Room (k + 2) s) (n : SlotId) : Room k (reportExhaustion s n) := by
  unfold reportExhaustion
  refine raiseAlert_room ?_ n _ _
  have hgate : Room (k + 2) (reevalGate s n) := h.of_sysp rfl
  split
  · exact changeState_room hgate n .exhausted
  · exact hgate.mono (Nat.le_succ _)

/-- A debit posts at most a level, its cuts, a slot state and an alert. -/
theorem afterDebit_room {k : Nat} {s : State} (n : SlotId) (before : Nat) (h : Room (k + s.engp.table.length + 4) s) :
    Room k (afterDebit s n before) := by
  rcases afterDebit_cases s n before with hs | ⟨a, -, -, hs⟩
  · rw [hs]
    exact h.mono (by omega)
  · have hclamp : Room (k + 2) (clampHolds (refreshLevel s n) n) := by
      refine clampHolds_room n (refreshLevel_room (h.mono ?_) n)
      rw [refreshLevel_frame s n .engp (by decide)]
      omega
    rw [hs]
    refine Room.of_sysp ?_ (thresholdTaken_frame _ n .sysp (by decide))
    split
    · exact reportExhaustion_room hclamp n
    · exact hclamp.mono (by omega)

/-! ### The debit of a purge (R80) -/

/-- From `a` to `b` an account is debited `d` µL of a purge. -/
def PurgeDebited (d : Nat) (a b : Account) : Prop :=
  b.inFlight + b.pendingInk = a.inFlight + a.pendingInk + d ∧ b.purgeTotal = a.purgeTotal + d ∧ b.dropTotal = a.dropTotal ∧
    b.residue = a.residue ∧ b.base = a.base ∧ b.confirmed = a.confirmed

theorem debitPurge_account {s : State} {n : SlotId} {a : Account} (h : s.accounts[n] = some a) (d : Nat) :
    ∃ b, (debitPurge s n d).accounts[n] = some b ∧ PurgeDebited d a b := by
  unfold debitPurge
  rw [h]
  obtain ⟨l, x, hb⟩ := afterDebit_account (s := setAccount s n (some { a with pendingInk := a.pendingInk + d, purgeTotal := a.purgeTotal + d }))
    (put_same _ _ _) (headroom a)
  exact ⟨_, hb, (Nat.add_assoc _ _ _).symm, rfl, rfl, rfl, rfl, rfl⟩

theorem debitPurge_purgeNone {s : State} {n : SlotId} (h : s.engp.purges[n] = none) (d : Nat) :
    (debitPurge s n d).engp.purges[n] = none := by
  unfold debitPurge
  split
  · exact h
  · exact afterDebit_purgeNone (s := setAccount s n _) h _

theorem debitPurge_room {k : Nat} {s : State} (n : SlotId) (d : Nat) (h : Room (k + s.engp.table.length + 4) s) :
    Room k (debitPurge s n d) := by
  unfold debitPurge
  split
  · exact h.mono (by omega)
  · exact afterDebit_room n _ (h.of_sysp rfl)

/-- What a purge's end and its timer have in common: the record cleared and the purge debited, then changes of the queue and of
the events alone, then the arbiter. -/
theorem purge_debited {s u : State} {n : SlotId} {d : Nat} {ps : List Part} (hu : OnlyChanges ps (debitPurge (clearPurge s n) n d) u)
    (hp : ∀ p ∈ [Part.slots, .accounts, .engp], p ∉ ps) (hd : ps ⊆ debitParts) :
    OnlyChanges debitParts s (arbitrateIfJoined s u) ∧ OtherSlotsKept n s (arbitrateIfJoined s u) ∧
      (arbitrateIfJoined s u).engp.purges[n] = none ∧
      ∀ a, s.accounts[n] = some a → ∃ b, (arbitrateIfJoined s u).accounts[n] = some b ∧ PurgeDebited d a b := by
  have hcleared : (clearPurge s n).engp.purges[n] = none := put_same _ _ _
  refine ⟨arbitrateIfJoined_frame_debit ((purged_frame s n d).trans (hu.mono hd)), ?_, ?_, fun a ha => ?_⟩
  · exact (debitPurge_others s n d).trans (.of_eq ((arbitrateIfJoined_slots s u).trans (hu .slots (hp _ (by decide)))))
  · rw [arbitrateIfJoined_engp, hu .engp (hp _ (by decide))]
    exact debitPurge_purgeNone hcleared d
  · obtain ⟨b, hb, hink, hrest⟩ := debitPurge_account (s := clearPurge s n) ha d
    obtain ⟨c, hc, hfields, hsum⟩ := arbitrateIfJoined_account (s := s) (by rw [hu .accounts (hp _ (by decide))]; exact hb)
    refine ⟨c, hc, hsum.trans hink, ?_⟩
    rw [hfields]
    exact hrest

/-! ### PURGE_END (R119) and the purge timer (R120) -/

theorem actPurgeEnd_none {slot : Byte} (h : slotOf slot = none) (actual : Half) (s : State) :
    actPurgeEnd slot actual s = { state := s, status := .range } := by
  unfold actPurgeEnd
  rw [h]

theorem actPurgeEnd_clear {slot : Byte} {n : SlotId} (h : slotOf slot = some n) (actual : Half) {s : State}
    (hp : s.engp.purges[n] = none) : actPurgeEnd slot actual s = { state := s, status := .unknownPurge } := by
  unfold actPurgeEnd
  rw [h]
  exact if_neg (by rw [hp]; nofun)

/-- The answer of a PURGE_END that finds its record. -/
theorem actPurgeEnd_eq {slot : Byte} {n : SlotId} {p : Purge} (h : slotOf slot = some n) (actual : Half) {s : State}
    (hp : s.engp.purges[n] = some p) :
    actPurgeEnd slot actual s =
      { state := arbitrateIfJoined s (requestAddUsed (debitPurge (clearPurge s n) n (min actual.toNat 4000)) n), status := .ok
        clamped := decide (4000 < actual.toNat), body := u16 (min actual.toNat 4000) } := by
  unfold actPurgeEnd
  rw [h]
  exact if_pos (by rw [hp]; rfl)

/-- An engine request whose act only answers changes the reply alone. -/
theorem engRequest_answered {s : State} (sel : Selection) (k : Byte) (len : Nat) {act : State → EngAnswer} {st : Status}
    (hr : s.phase = .running) (h : ∀ u : State, u.engp.purges = s.engp.purges → act u = { state := u, status := st }) :
    ∃ t, (Host.Outcome.next (engRequest s sel k len act) : Outcome) = .next t ∧ OnlyChanges [.engp] s t ∧
      t.engp = { s.engp with reply := t.engp.reply, sent := t.engp.sent } ∧
      EngReplied (replyMet s sel len) k st false false [] t := by
  have hact := h (endEngSelection s sel.ready (len + 3 + sel.filler)) rfl
  obtain ⟨t, hexec, hframe, ht, hreply⟩ := engRequest_next (ps := [.engp]) s sel k len act hr (by decide) (by rw [hact]; exact .refl _ _)
  rw [hact] at ht hreply
  have hengp : t.engp = { s.engp with
      reply := t.engp.reply, sent := (endEngSelection s sel.ready (len + 3 + sel.filler)).engp.sent } := congrArg State.engp ht
  have hsent : t.engp.sent = (endEngSelection s sel.ready (len + 3 + sel.filler)).engp.sent := by rw [hengp]
  refine ⟨t, hexec, hframe, ?_, hreply⟩
  rw [hsent]
  exact hengp

theorem purgeEnd_debits {s : State} {n : SlotId} (hr : s.phase = .running) {slot : Byte} (actual : Half) (sel : Selection) {p : Purge}
    (hs : slotOf slot = some n) (hp : s.engp.purges[n] = some p) :
    ∃ t, exec (.purgeEnd slot actual sel) s = .next t ∧ OnlyChanges debitParts s t ∧ OtherSlotsKept n s t ∧
      t.engp.purges[n] = none ∧
      (∀ a, s.accounts[n] = some a → ∃ b, t.accounts[n] = some b ∧ PurgeDebited (min actual.toNat 4000) a b) ∧
      EngReplied (replyMet s sel 3) 0x25 .ok (decide (4000 < actual.toNat)) false (u16 (min actual.toNat 4000)) t := by
  have hact := actPurgeEnd_eq (s := endEngSelection s sel.ready (3 + 3 + sel.filler)) hs actual hp
  obtain ⟨t, hexec, hframe, ht, hreply⟩ := engRequest_next (ps := debitParts) s sel 0x25 3 (actPurgeEnd slot actual) hr (by decide)
    (actPurgeEnd_frame slot actual _)
  rw [hact] at ht hreply
  obtain ⟨-, hothers, hclear, hdebit⟩ := purge_debited
    (requestAddUsed_frame (debitPurge (clearPurge (endEngSelection s sel.ready (3 + 3 + sel.filler)) n) n (min actual.toNat 4000)) n)
    (by decide) (by decide)
  have hengp := congrArg State.engp ht
  have hslots := congrArg State.slots ht
  have haccounts := congrArg State.accounts ht
  dsimp only at hengp hslots haccounts
  refine ⟨t, hexec, hframe, OtherSlotsKept.trans (.of_eq rfl) (hothers.trans (.of_eq hslots)), by rw [hengp]; exact hclear, fun a ha => ?_,
    hreply⟩
  rw [haccounts]
  exact hdebit a ha

theorem purgeTimer_debits {s : State} {n : SlotId} (hr : s.phase = .running) {p : Purge} (hp : s.engp.purges[n] = some p) :
    ∃ t, exec (.purgeTimerExpiry n) s = .next t ∧ OnlyChanges debitParts s t ∧ OtherSlotsKept n s t ∧
      t.engp.purges[n] = none ∧
      (∀ a, s.accounts[n] = some a → ∃ b, t.accounts[n] = some b ∧ PurgeDebited p.requested a b) ∧
      t.sysp = (postEvent (debitPurge (clearPurge s n) n p.requested) .purgeAssumed (slotByte n) 0
        (some (BitVec.ofNat 32 p.requested))).sysp := by
  obtain ⟨hframe, hothers, hclear, hdebit⟩ := purge_debited (postEvent_frame (debitPurge (clearPurge s n) n p.requested) .purgeAssumed
    (slotByte n) 0 (some (BitVec.ofNat 32 p.requested))) (by decide) (by decide)
  refine ⟨_, exec_purgeTimer hr hp, hframe, hothers, hclear, hdebit, ?_⟩
  exact OnlyChanges.ite (.refl arbiterParts _) (arbitrate_frame _) .sysp (by decide)

/-- Settles O46. -/
theorem aPurgeIsDebitedOnce : Obligations.APurgeIsDebitedOnce := by
  refine ⟨fun s slot actual sel hr hs => engRequest_answered sel 0x25 3 hr fun u _ => actPurgeEnd_none hs actual u,
    fun s n hr => ⟨fun slot actual sel p hs hp => purgeEnd_debits hr actual sel hs hp, fun slot actual sel hs hp => ?_, fun p hp => ?_⟩⟩
  · exact engRequest_answered sel 0x25 3 hr fun u hu => actPurgeEnd_clear hs actual (by rw [hu]; exact hp)
  · obtain ⟨t, hexec, hframe, hothers, hclear, hdebit, hsysp⟩ := purgeTimer_debits hr hp
    refine ⟨t, hexec, hframe, hothers, hclear, hdebit, fun ha => ?_, fun hsafe hlen hkinds => ?_⟩
    · have hnone : debitPurge (clearPurge s n) n p.requested = clearPurge s n := by
        unfold debitPurge
        rw [show (clearPurge s n).accounts[n] = none from ha]
      rw [hsysp, hnone]
      rfl
    · obtain ⟨htable, -⟩ := hsafe
      have hroom : Room 1 (debitPurge (clearPurge s n) n p.requested) :=
        debitPurge_room n _ ⟨hkinds, show s.sysp.events.length + (1 + s.engp.table.length + 4) ≤ 24 by omega⟩
      refine ⟨(debitPurge (clearPurge s n) n p.requested).sysp.seq, ?_⟩
      rw [hsysp, postEvent_stored hroom]
      exact List.getLast?_concat

end Sys2Proof.Machine
end

section
/-! What a step leaves of one slot's account and holds: the account in its ranges, its ledger balanced, the holds within its
headroom (R76, R83, R84, R89, R98, R100). The shared operations of the blocks first. -/

namespace Sys2Proof.Machine

/-! ### What is asked of a slot -/

/-- Slot `m`'s account lies in its ranges. -/
def AccountInRange (m : SlotId) (s : State) : Prop := ∀ a, s.accounts[m] = some a → AccountSafe a

/-- An account's ledger balances (R84). -/
def Ledger (a : Account) : Prop := a.confirmed + a.inFlight + a.pendingInk = a.catchUp + a.dropTotal + a.purgeTotal

def LedgerBalances (m : SlotId) (s : State) : Prop := ∀ a, s.accounts[m] = some a → Ledger a

/-- Only OPEN swaths hold for slot `m`, and its holds are within their limit. -/
def HoldsWithin (m : SlotId) (s : State) : Prop := HoldsOpen m s.engp.table ∧ holds s m ≤ holdLimit s m

theorem holdLimit_congr {s t : State} {m : SlotId} (h : t.accounts[m] = s.accounts[m]) : holdLimit t m = holdLimit s m := by
  unfold holdLimit
  rw [h]

theorem holdLimit_some {s : State} {m : SlotId} {a : Account} (h : s.accounts[m] = some a) :
    holdLimit s m = if a.metered then headroom a else 0 := by
  unfold holdLimit
  rw [h]

theorem holdLimit_none {s : State} {m : SlotId} (h : s.accounts[m] = none) : holdLimit s m = 0 := by
  unfold holdLimit
  rw [h]

/-- From `s` to `t` slot `m` keeps what is asked of its account, and, granted `p`, of its holds. The condition is what the opening
of an account needs: that none was open. -/
structure Sound (p : Prop) (m : SlotId) (s t : State) : Prop where
  range : AccountInRange m s → AccountInRange m t
  ledger : AccountInRange m s → LedgerBalances m s → LedgerBalances m t
  within : p → AccountInRange m s → HoldsWithin m s → HoldsWithin m t

/-! ### One account to the next -/

/-- An account may be replaced by another: ranges and ledger carry over. -/
structure AccountGoes (a b : Account) : Prop where
  safe : AccountSafe a → AccountSafe b
  ledger : AccountSafe a → Ledger a → Ledger b
  metered : b.metered = a.metered

/-- An account may be replaced by another without looking at the holds: it has no less headroom. -/
structure AccountStays (a b : Account) : Prop extends AccountGoes a b where
  headroom : AccountSafe a → headroom a ≤ headroom b

theorem AccountGoes.trans {a b c : Account} (h : AccountGoes a b) (k : AccountGoes b c) : AccountGoes a c :=
  ⟨fun hs => k.safe (h.safe hs), fun hs hl => k.ledger (h.safe hs) (h.ledger hs hl), k.metered.trans h.metered⟩

theorem AccountStays.refl (a : Account) : AccountStays a a := ⟨⟨id, fun _ h => h, rfl⟩, fun _ => Nat.le_refl _⟩

theorem AccountStays.trans {a b c : Account} (h : AccountStays a b) (k : AccountStays b c) : AccountStays a c :=
  ⟨h.toAccountGoes.trans k.toAccountGoes, fun hs => (h.headroom hs).trans (k.headroom (h.safe hs))⟩

/-- Level, spent mark and suspension are in no range, no ledger and no headroom. -/
theorem marks_stay (a : Account) (l : Level) (x : SpentState) (u : Bool) : AccountStays a { a with level := l, spent := x, suspended := u } :=
  ⟨⟨id, fun _ h => h, rfl⟩, fun _ => Nat.le_refl _⟩

theorem sent_stays {a b : Account} (h : Sent a b) : AccountStays a b := by
  have hroom := sent_headroom h
  obtain ⟨-, hdoubt, -, m, -, hm, rfl⟩ := h
  refine ⟨⟨fun ⟨h1, h2, h3, h4⟩ => ⟨h1, h2, ?_, h4⟩, fun _ hl => ?_, rfl⟩, fun _ => hroom.ge⟩
  · show a.doubtful ≤ a.pendingInk - m
    omega
  · show a.confirmed + (a.inFlight + m) + (a.pendingInk - m) = a.catchUp + a.dropTotal + a.purgeTotal
    unfold Ledger at hl
    omega

/-! ### Steps that keep a slot sound -/

section
variable {p : Prop} {m : SlotId}

/-- The account stays or is replaced by one with no less headroom, and the holds may only fall. -/
theorem Sound.of_account {s t : State} (ha : Option.Rel AccountStays s.accounts[m] t.accounts[m]) (hf : HoldsFall m s t) :
    Sound p m s t := by
  cases hs : s.accounts[m] with
  | none =>
    have ht : t.accounts[m] = none := by
      rw [hs] at ha
      generalize t.accounts[m] = x at ha
      cases ha
      rfl
    refine ⟨fun _ a h => ?_, fun _ _ a h => ?_, fun _ _ hw => ⟨hw.1.falls hf.table, ?_⟩⟩
    · rw [ht] at h
      cases h
    · rw [ht] at h
      cases h
    · rw [holdLimit_none ht, ← holdLimit_none hs]
      exact hf.holds.trans hw.2
  | some a =>
    obtain ⟨b, ht, hab⟩ : ∃ b, t.accounts[m] = some b ∧ AccountStays a b := by
      rw [hs] at ha
      generalize t.accounts[m] = x at ha
      cases ha with
      | some h => exact ⟨_, rfl, h⟩
    refine ⟨fun h x hx => ?_, fun h hl x hx => ?_, fun _ h hw => ⟨hw.1.falls hf.table, hf.holds.trans (hw.2.trans ?_)⟩⟩
    · rw [ht] at hx
      cases hx
      exact hab.safe (h a hs)
    · rw [ht] at hx
      cases hx
      exact hab.ledger (h a hs) (hl a hs)
    · have hroom := hab.headroom (h a hs)
      rw [holdLimit_some hs, holdLimit_some ht, hab.metered]
      split
      · exact hroom
      · exact Nat.le_refl _

theorem optionRel_refl (x : Option Account) : Option.Rel AccountStays x x := by
  cases x with
  | none => exact .none
  | some a => exact .some (.refl a)

/-- The slot's account stays. -/
theorem Sound.of_same {s t : State} (ha : t.accounts[m] = s.accounts[m]) (hf : HoldsFall m s t) : Sound p m s t :=
  .of_account (by rw [ha]; exact optionRel_refl _) hf

theorem Sound.of_untouched {s t : State} (h : Untouched m s t) : Sound p m s t := .of_same h.account h.holds

theorem Sound.of_sameHolds {s t : State} (ha : t.accounts = s.accounts) (h : SameHolds s t) : Sound p m s t :=
  .of_same (by rw [ha]) (.of_engp h.table h.purges)

theorem Sound.of_frame {s t : State} {ps : List Part} (h : OnlyChanges ps s t) (hp : ∀ q ∈ [Part.accounts, .engp], q ∉ ps) :
    Sound p m s t := .of_sameHolds (h .accounts (hp _ (by decide))) (.of_frame h (hp _ (by decide)))

theorem Sound.refl (s : State) : Sound p m s s := ⟨id, fun _ h => h, fun _ _ h => h⟩

theorem Sound.trans {s t u : State} (h : Sound p m s t) (k : Sound p m t u) : Sound p m s u :=
  ⟨fun hr => k.range (h.range hr), fun hr hl => k.ledger (h.range hr) (h.ledger hr hl),
    fun hp hr hw => k.within hp (h.range hr) (h.within hp hr hw)⟩

theorem Sound.ite {s t u : State} {c : Prop} [Decidable c] (h : Sound p m s t) (k : Sound p m s u) : Sound p m s (if c then t else u) :=
  rel_ite h k

theorem Sound.foldl {α : Type} (f : State → α → State) (h : ∀ s a, Sound p m s (f s a)) (l : List α) (s : State) :
    Sound p m s (l.foldl f s) := by
  induction l generalizing s with
  | nil => exact .refl s
  | cons a l ih => exact (h s a).trans (ih _)

theorem forSlots_sound (f : State → SlotId → State) (h : ∀ s n, Sound p m s (f s n)) (s : State) : Sound p m s (forSlots f s) :=
  .foldl f h allSlots s

/-! ### Accounts replaced -/

theorem put_stays {s : State} {n : SlotId} {a b : Account} (ha : s.accounts[n] = some a) (h : AccountStays a b) :
    Option.Rel AccountStays s.accounts[m] (put s.accounts n (some b))[m] := by
  rw [put_get]
  split
  · next e =>
    subst e
    rw [ha]
    exact .some h
  · exact optionRel_refl _

theorem setAccount_sound {s : State} {n : SlotId} {a b : Account} (ha : s.accounts[n] = some a) (h : AccountStays a b) :
    Sound p m s (setAccount s n (some b)) := .of_account (put_stays ha h) (.of_engp rfl rfl)

theorem modAccount_sound {s : State} {n : SlotId} {f : Account → Account} (h : ∀ a, s.accounts[n] = some a → AccountStays a (f a)) :
    Sound p m s (modAccount s n f) := by
  refine .of_account ?_ (.of_engp rfl rfl)
  show Option.Rel AccountStays s.accounts[m] (upd s.accounts n (Option.map f))[m]
  rw [upd_get]
  split
  · next e =>
    subst e
    cases ha : s.accounts[m] with
    | none => exact .none
    | some a => exact .some (h a ha)
  · exact optionRel_refl _

/-- An account is opened where, granted `p`, none was: nothing is held for the slot. -/
theorem setAccount_opens {s : State} {n : SlotId} {a : Account} (hn : p → s.accounts[n] = none) (ha : AccountSafe a) (hl : Ledger a) :
    Sound p m s (setAccount s n (some a)) := by
  by_cases h : m = n
  · subst h
    have hacc : (setAccount s m (some a)).accounts[m] = some a := put_same _ _ _
    refine ⟨fun _ b hb => ?_, fun _ _ b hb => ?_, fun hp _ hw => ⟨hw.1, ?_⟩⟩
    · rw [hacc] at hb
      cases hb
      exact ha
    · rw [hacc] at hb
      cases hb
      exact hl
    · have hzero := hw.2
      rw [holdLimit_none (hn hp)] at hzero
      exact Nat.le_trans hzero (Nat.zero_le _)
  · exact .of_untouched (setAccount_untouched h s _)

/-! ### The arbiter (R64, R94) -/

theorem arbitrate_sound (s : State) : Sound p m s (arbitrate s) := by
  have hsame : SameHolds s (arbitrate s) := .of_frame (arbitrate_frame s) (by decide)
  rcases arbitrate_accounts s with h | ⟨-, -, n, a, b, ha, hs, h⟩
  · exact .of_sameHolds h hsame
  · exact .of_account (by rw [h]; exact put_stays ha (sent_stays hs)) (.of_engp hsame.table hsame.purges)

theorem Sound.arbitrateIfJoined {s t : State} (h : Sound p m s t) : Sound p m s (arbitrateIfJoined s t) :=
  .ite h (h.trans (arbitrate_sound t))

theorem setCbc_sound (s : State) (c : Cbc) : Sound p m s (setCbc s c) := .of_frame (cbc_frame s c) (by decide)

theorem joinQueue_sound (s : State) (e : QEntry) : Sound p m s (joinQueue s e) := (setCbc_sound s _).trans (arbitrate_sound _)

theorem trigger_sound (s : State) (n : SlotId) : Sound p m s (trigger s n) :=
  .ite ((setCbc_sound s _).trans (arbitrate_sound _)) (.refl s)

/-! ### Slots (R16, R20, R90, R91) -/

theorem requestAddUsed_sound (s : State) (n : SlotId) : Sound p m s (requestAddUsed s n) :=
  .of_frame (requestAddUsed_frame s n) (by decide)

theorem enqueueOp_sound (s : State) (n : SlotId) (op : WbOp) : Sound p m s (enqueueOp s n op) := setCbc_sound s _

theorem spentCheck_sound (s : State) (n : SlotId) : Sound p m s (spentCheck s n) := by
  refine .ite ((modAccount_sound fun a _ => ?_).trans (enqueueOp_sound _ n _)) (.refl s)
  exact marks_stay a a.level .requested a.suspended

theorem modSlot_sound (s : State) (n : SlotId) (f : SlotRec → SlotRec) : Sound p m s (modSlot s n f) :=
  .of_frame (modSlot_frame s n f) (by decide)

theorem postEvent_sound (s : State) (k : EventKind) (n c : Byte) (v : Option Word) : Sound p m s (postEvent s k n c v) :=
  .of_frame (postEvent_frame s k n c v) (by decide)

theorem raiseAlert_sound (s : State) (n : SlotId) (c : AlertCode) (v : Option Word) : Sound p m s (raiseAlert s n c v) :=
  .of_frame (raiseAlert_frame_slot s n c v) (by decide)

theorem raiseAlerts_sound (s : State) (n : SlotId) (l : List (AlertCode × Option Word)) : Sound p m s (raiseAlerts s n l) :=
  .of_frame (raiseAlerts_frame s n l) (by decide)

theorem moveSlot_sound (s : State) (n : SlotId) (st : SlotState) : Sound p m s (moveSlot s n st) :=
  .of_sameHolds rfl (moveSlot_sameHolds s n st)

theorem changeState_sound (s : State) (n : SlotId) (st : SlotState) : Sound p m s (changeState s n st) :=
  .ite (((moveSlot_sound s n st).trans (requestAddUsed_sound _ n)).trans (spentCheck_sound _ n)) (moveSlot_sound s n st)

theorem rejectSlot_sound (s : State) (n : SlotId) (why : Reason) : Sound p m s (rejectSlot s n why) :=
  (changeState_sound s n _).trans (raiseAlert_sound _ n _ _)

theorem reportIfLost_sound (s : State) (n : SlotId) (k : Nat) : Sound p m s (reportIfLost s n k) :=
  .ite (.ite (rejectSlot_sound s n _) (.refl s)) (.refl s)

theorem startReading_sound (s : State) (n : SlotId) : Sound p m s (startReading s n) :=
  (changeState_sound s n _).trans (joinQueue_sound _ _)

theorem insertion_sound (s : State) (n : SlotId) : Sound p m s (insertion s n) :=
  .ite ((changeState_sound s n _).trans (startReading_sound _ n)) (changeState_sound s n _)

theorem refreshLevel_sound (s : State) (n : SlotId) : Sound p m s (refreshLevel s n) := by
  by_cases h : m = n
  · subst h
    have hf : HoldsFall m s (refreshLevel s m) := .of_frame (refreshLevel_frame s m) (by decide)
    cases ha : s.accounts[m] with
    | none =>
      refine .of_same ?_ hf
      unfold refreshLevel
      rw [ha]
      exact ha
    | some a =>
      obtain ⟨⟨l, hl⟩, -⟩ := refreshLevel_at ha
      exact .of_account (by rw [ha, hl]; exact .some (marks_stay a l a.spent a.suspended)) hf
  · exact .of_untouched (refreshLevel_untouched h s)

/-! ### Debits and rebases (R77, R80, R88, R95, R99) -/

theorem afterDebit_holds {s : State} {n : SlotId} {a : Account} (ha : s.accounts[n] = some a) (before : Nat)
    (ho : HoldsOpen n s.engp.table) :
    HoldsFall n s (afterDebit s n before) ∧ (a.metered = true → holds (afterDebit s n before) n ≤ headroom a) := by
  by_cases hm : a.metered = true
  · obtain ⟨⟨l, hl⟩, -⟩ := refreshLevel_at ha
    have hlevel : HoldsFall n s (refreshLevel s n) := .of_frame (refreshLevel_frame s n) (by decide)
    obtain ⟨-, hfall, hholds⟩ := clampHolds_spec (refreshLevel s n) n
    have hclamped : holds (clampHolds (refreshLevel s n) n) n ≤ headroom a :=
      hholds { a with level := l } hl hm (ho.falls hlevel.table)
    have hrest : SameHolds (clampHolds (refreshLevel s n) n) (afterDebit s n before) := by
      rw [afterDebit_eq ha hm]
      exact (SameHolds.ite (reportExhaustion_sameHolds _ n) (.refl _)).trans (.of_frame (thresholdTaken_frame _ n) (by decide))
    exact ⟨(hlevel.trans (hfall n)).trans (.of_engp hrest.table hrest.purges), fun _ => (hrest.holds n).trans_le hclamped⟩
  · rw [afterDebit_unmetered ha hm]
    exact ⟨.of_engp rfl rfl, fun h => absurd h hm⟩

/-- The clamp brings the holds of an account debited or rebased within its headroom. -/
theorem debited_within {s v : State} {a b : Account} (ha : s.accounts[m] = some a) (hb : v.accounts[m] = some b) (hf : HoldsFall m s v)
    (hmet : b.metered = a.metered) (before : Nat) (hw : HoldsWithin m s) : HoldsWithin m (afterDebit v m before) := by
  obtain ⟨hopen, hlimit⟩ := hw
  obtain ⟨l, x, hc⟩ := afterDebit_account hb before
  obtain ⟨hfall, hroom⟩ := afterDebit_holds hb before (hopen.falls hf.table)
  have hall := hf.trans hfall
  refine ⟨hopen.falls hall.table, ?_⟩
  rw [holdLimit_some hc]
  rw [holdLimit_some ha] at hlimit
  dsimp only
  split
  · next hm => exact hroom hm
  · next hm =>
    rw [if_neg (by rw [← hmet]; exact hm)] at hlimit
    exact hall.holds.trans hlimit

/-- A debit or a rebase replaces account `a` by `b` and takes the steps of R88. -/
theorem debited_sound {s v : State} {n : SlotId} {a b : Account} (ha : s.accounts[n] = some a)
    (hv : v.accounts = put s.accounts n (some b)) (hf : ∀ k, HoldsFall k s v) (h : AccountGoes a b) (before : Nat) :
    Sound p m s (afterDebit v n before) := by
  by_cases hm : m = n
  · subst hm
    have hb : v.accounts[m] = some b := by
      rw [hv]
      exact put_same _ _ _
    obtain ⟨l, x, hc⟩ := afterDebit_account hb before
    have hmarks := marks_stay b l x b.suspended
    refine ⟨fun hr y hy => ?_, fun hr hl y hy => ?_, fun _ _ => debited_within ha hb (hf m) h.metered before⟩
    · rw [hc] at hy
      cases hy
      exact hmarks.safe (h.safe (hr a ha))
    · rw [hc] at hy
      cases hy
      exact hmarks.ledger (h.safe (hr a ha)) (h.ledger (hr a ha) (hl a ha))
  · have hother := afterDebit_untouched hm v before
    refine .of_same ?_ ((hf m).trans hother.holds)
    rw [hother.account, hv, put_other _ _ _ _ hm]

theorem rebased_sound {s : State} {n : SlotId} {a b : Account} (ha : s.accounts[n] = some a) (h : AccountGoes a b) (before : Nat) :
    Sound p m s (afterDebit (setAccount s n (some b)) n before) :=
  debited_sound (v := setAccount s n (some b)) ha rfl (fun _ => .of_engp rfl rfl) h before

theorem purged_goes (a : Account) (d : Nat) :
    AccountGoes a { a with pendingInk := a.pendingInk + d, purgeTotal := a.purgeTotal + d } := by
  refine ⟨fun ⟨h1, h2, h3, h4⟩ => ⟨h1, h2, Nat.le_add_right_of_le h3, h4⟩, fun _ hl => ?_, rfl⟩
  show a.confirmed + a.inFlight + (a.pendingInk + d) = a.catchUp + a.dropTotal + (a.purgeTotal + d)
  unfold Ledger at hl
  omega

theorem debitPurge_sound (s : State) (n : SlotId) (d : Nat) : Sound p m s (debitPurge s n d) := by
  unfold debitPurge
  split
  · exact .refl s
  · next a ha => exact rebased_sound ha (purged_goes a d) _

theorem drawn_goes (a : Account) (d : Nat) : AccountGoes a (drawn a d) := by
  refine ⟨fun ⟨h1, h2, h3, h4⟩ => ⟨h1, h2, Nat.le_add_right_of_le h3, h4⟩, fun _ hl => ?_, rfl⟩
  show a.confirmed + a.inFlight + (a.pendingInk + d) = a.catchUp + (a.dropTotal + d) + a.purgeTotal
  unfold Ledger at hl
  omega

theorem debitDrops_sound (s : State) (n : SlotId) (id : Byte) (d : Nat) : Sound p m s (debitDrops s n id d) := by
  unfold debitDrops
  split
  · exact .refl s
  · next a ha =>
    refine .ite (.refl s) (debited_sound (v := modSwath (setAccount s n (some (drawn a d))) id fun w => countInSwath w n d) ha rfl
      (fun k => ?_) (drawn_goes a d) _)
    exact HoldsFall.trans (t := setAccount s n (some (drawn a d))) (.of_engp rfl rfl) (modSwath_falls k n _ id d)

theorem entryAccount_account {s : State} {b : Byte} {n : SlotId} {a : Account} (h : entryAccount s b = some (n, a)) :
    s.accounts[n] = some a := by
  unfold entryAccount at h
  split at h
  · obtain ⟨x, hx, hxa⟩ := Option.map_eq_some_iff.1 h
    cases hxa
    exact hx
  · cases h

/-- An entry's residue is a remainder (R76). -/
theorem takeEntry_sound (s : State) (id : Byte) (t : Nat) (e : DropEntry) : Sound p m s (takeEntry s id t e).1 := by
  unfold takeEntry
  dsimp only
  split
  · next n a he =>
    refine (setAccount_sound (entryAccount_account he) ?_).trans (debitDrops_sound _ n id _)
    exact ⟨⟨fun ⟨_, h2, h3, h4⟩ => ⟨Nat.mod_lt _ unitsPerMicrolitre_pos, h2, h3, h4⟩, fun _ hl => hl, rfl⟩, fun _ => Nat.le_refl _⟩
  · exact .refl s

theorem takeEntries_sound (id : Byte) (t : Nat) (l : List DropEntry) (s : State) : Sound p m s (takeEntries id t s l).1 := by
  induction l generalizing s with
  | nil => exact .refl s
  | cons e l ih =>
    unfold takeEntries
    exact (takeEntry_sound s id t e).trans (ih _)

end

end Sys2Proof.Machine
end

section
/-! The operations of the bus and of the slots: each keeps a slot's account in its ranges, its ledger and its holds. -/

namespace Sys2Proof.Machine

/-- The slot under proof has no account open (R34, R83). -/
def Unopened (s : State) : Prop := ∀ n, s.prf.ctx.slot = some n → s.accounts[n] = none

/-! ### The replacements that results of write-back make (R91, R95 to R101) -/

theorem returnInFlight_stays (a : Account) : AccountStays a (returnInFlight a) := by
  refine ⟨⟨fun ⟨h1, h2, h3, h4⟩ => ⟨h1, h2, Nat.le_add_right_of_le h3, h4⟩, fun _ hl => ?_, rfl⟩, fun _ => ?_⟩
  · show a.confirmed + 0 + (a.pendingInk + a.inFlight) = a.catchUp + a.dropTotal + a.purgeTotal
    unfold Ledger at hl
    omega
  · show a.capacity - (a.base + a.confirmed + a.inFlight + a.pendingInk) ≤ a.capacity - (a.base + a.confirmed + 0 + (a.pendingInk + a.inFlight))
    omega

theorem doubt_stays {a : Account} {d : Nat} (hd : d ≤ a.pendingInk) : AccountStays a { a with doubtful := d } :=
  ⟨⟨fun ⟨h1, h2, _, h4⟩ => ⟨h1, h2, hd, h4⟩, fun _ hl => hl, rfl⟩, fun _ => Nat.le_refl _⟩

theorem countFailure_stays (a : Account) : AccountStays a (countFailure a) :=
  ⟨⟨fun ⟨h1, _, h3, h4⟩ => ⟨h1, Nat.min_le_left .., h3, h4⟩, fun _ hl => hl, rfl⟩, fun _ => Nat.le_refl _⟩

theorem noFailures_stays (a : Account) : AccountStays a { a with failures := 0 } :=
  ⟨⟨fun ⟨h1, _, h3, h4⟩ => ⟨h1, Nat.zero_le _, h3, h4⟩, fun _ hl => hl, rfl⟩, fun _ => Nat.le_refl _⟩

/-- A suspect account is metered as a genuine one is (R83, R86). -/
theorem suspect_stays (a : Account) (why : RefillReason) : AccountStays a (suspect a why) := by
  unfold suspect
  split
  · next h =>
    exact ⟨⟨fun ⟨h1, h2, h3, h4⟩ => ⟨h1, h2, h3, h4.trans (by simp [h])⟩, fun _ hl => hl, rfl⟩, fun _ => Nat.le_refl _⟩
  · exact .refl a

/-- In-flight ink confirmed (R95). -/
theorem confirmed_stays (a : Account) :
    AccountStays a { a with confirmed := a.confirmed + a.inFlight, inFlight := 0, failures := 0 } := by
  refine ⟨⟨fun ⟨h1, _, h3, h4⟩ => ⟨h1, Nat.zero_le _, h3, h4⟩, fun _ hl => ?_, rfl⟩, fun _ => ?_⟩
  · show a.confirmed + a.inFlight + 0 + a.pendingInk = a.catchUp + a.dropTotal + a.purgeTotal
    exact hl
  · show a.capacity - (a.base + a.confirmed + a.inFlight + a.pendingInk) ≤ a.capacity - (a.base + (a.confirmed + a.inFlight) + 0 + a.pendingInk)
    omega

/-- Doubtful ink found to have landed (R99). -/
theorem doubtLanded_stays (a : Account) : AccountStays a
    { a with confirmed := a.confirmed + a.doubtful, pendingInk := a.pendingInk - a.doubtful, doubtful := 0, failures := 0 } := by
  refine ⟨⟨fun ⟨h1, _, _, h4⟩ => ⟨h1, Nat.zero_le _, Nat.zero_le _, h4⟩, fun ⟨_, _, h3, _⟩ hl => ?_, rfl⟩, fun ⟨_, _, h3, _⟩ => ?_⟩
  · show a.confirmed + a.doubtful + a.inFlight + (a.pendingInk - a.doubtful) = a.catchUp + a.dropTotal + a.purgeTotal
    unfold Ledger at hl
    omega
  · show a.capacity - (a.base + a.confirmed + a.inFlight + a.pendingInk) ≤
      a.capacity - (a.base + (a.confirmed + a.doubtful) + a.inFlight + (a.pendingInk - a.doubtful))
    omega

/-- Ranges and ledger do not speak of the base. -/
theorem rebase_goes (a : Account) (b : Nat) : AccountGoes a { a with base := b } := ⟨id, fun _ h => h, rfl⟩

theorem openingAccount_safe (lim : Limits) (id : IdRecord) (cls : AccountClass) (refill : Option RefillReason) (c k : Nat) (spent : Bool) :
    AccountSafe (openingAccount lim id cls refill c k spent) :=
  ⟨unitsPerMicrolitre_pos, Nat.zero_le _, Nat.zero_le _, decide_eq_true_iff⟩

theorem openingAccount_ledger (lim : Limits) (id : IdRecord) (cls : AccountClass) (refill : Option RefillReason) (c k : Nat) (spent : Bool) :
    Ledger (openingAccount lim id cls refill c k spent) := by
  show 0 + 0 + k = k + 0 + 0
  omega

section
variable {p : Prop} {m : SlotId}

/-! ### Results of write-back (R91, R95 to R101) -/

theorem counterFell_sound {s : State} {n : SlotId} {a b : Account} (ha : s.accounts[n] = some a) (h : AccountStays a b) :
    Sound p m s (counterFell s n b) := by
  refine (setAccount_sound ha (h.trans ((suspect_stays b .counterFell).trans ?_))).trans (raiseAlert_sound _ n _ _)
  exact (noFailures_stays _).trans (marks_stay _ (suspect b .counterFell).level (suspect b .counterFell).spent true)

theorem landed_sound {s : State} {n : SlotId} {a : Account} (ha : s.accounts[n] = some a) (k total : Nat) :
    Sound p m s (landed s n a k total) :=
  (Sound.trans (.ite (rebased_sound ha (rebase_goes a _) _) (.refl s)) (modAccount_sound fun b _ => confirmed_stays b)).trans
    (spentCheck_sound _ n)

theorem refusedSpent_sound {s : State} {n : SlotId} {a : Account} (ha : s.accounts[n] = some a) (k : Word) :
    Sound p m s (refusedSpent s n a k) := by
  have hreturned : AccountStays a { returnInFlight a with suspended := true, failures := 0 } :=
    ((returnInFlight_stays a).trans (noFailures_stays _)).trans (marks_stay _ a.level a.spent true)
  refine (setAccount_sound ha ?_).trans (postEvent_sound _ _ _ _ _)
  split
  · exact hreturned
  · exact (hreturned.trans (suspect_stays _ _)).trans (marks_stay _ _ .found _)

/-- A failure counted and posted, that may lose contact (R98 to R100). -/
theorem failureCounted_sound {s : State} {n : SlotId} {a b : Account} (ha : s.accounts[n] = some a) (h : AccountStays a b) (c : Byte)
    (v : Option Word) (k : Nat) :
    Sound p m s (reportIfLost (postEvent (setAccount s n (some b)) .writebackFailed (slotByte n) c v) n k) :=
  ((setAccount_sound ha h).trans (postEvent_sound _ _ _ _ _)).trans (reportIfLost_sound _ n k)

theorem addUsedFailed_sound {s : State} {n : SlotId} {a : Account} (ha : s.accounts[n] = some a) (e : BusError) :
    Sound p m s (addUsedFailed s n a e) := by
  have hcounted : AccountStays a (countFailure { returnInFlight a with doubtful := a.inFlight }) :=
    ((returnInFlight_stays a).trans (doubt_stays (Nat.le_add_left _ _))).trans (countFailure_stays _)
  exact .ite (((failureCounted_sound ha hcounted _ _ _).trans (enqueueOp_sound _ n _)).trans (requestAddUsed_sound _ n))
    (failureCounted_sound ha hcounted _ _ _)

theorem addUsedResult_sound (s : State) (n : SlotId) (e k : Nat) (r : TxResult) : Sound p m s (addUsedResult s n e k r) := by
  unfold addUsedResult
  split
  · next ha => exact refusedSpent_sound ha _
  · next ha => exact .ite (landed_sound ha _ _) (counterFell_sound ha (returnInFlight_stays _))
  · next ha => exact addUsedFailed_sound ha _
  · exact .refl s

theorem settleDoubt_sound {s : State} {n : SlotId} {a : Account} (ha : s.accounts[n] = some a) (k : Nat) :
    Sound p m s (settleDoubt s n a k) := by
  have ask (t : State) : Sound p m t (spentCheck (requestAddUsed t n) n) := (requestAddUsed_sound t n).trans (spentCheck_sound _ n)
  unfold settleDoubt
  dsimp only
  refine .ite ((setAccount_sound ha ((doubt_stays (Nat.zero_le _)).trans (noFailures_stays _))).trans (ask _))
    (.ite ((setAccount_sound ha (doubtLanded_stays a)).trans (ask _)) (.ite ?_ (counterFell_sound ha (doubt_stays (Nat.zero_le _)))))
  refine ((rebased_sound ha (rebase_goes a _) _).trans (modAccount_sound fun b hb => ?_)).trans (ask _)
  obtain ⟨l, x, hc⟩ := afterDebit_account (s := setAccount s n (some { a with base := k - a.confirmed - a.doubtful })) (put_same _ _ _)
    (headroom a)
  rw [hc] at hb
  cases hb
  exact doubtLanded_stays _

theorem readUsageResult_sound (s : State) (n : SlotId) (r : TxResult) : Sound p m s (readUsageResult s n r) := by
  unfold readUsageResult
  split
  · next a _ _ ha => exact .ite (setAccount_sound ha (noFailures_stays a)) (settleDoubt_sound ha _)
  · next a e ha =>
    exact .ite ((failureCounted_sound ha (countFailure_stays a) _ _ _).trans (enqueueOp_sound _ n _))
      (failureCounted_sound ha (countFailure_stays a) _ _ _)
  · exact .refl s

theorem markSpentResult_sound (s : State) (n : SlotId) (r : TxResult) : Sound p m s (markSpentResult s n r) := by
  unfold markSpentResult
  split
  · next a _ _ ha => exact setAccount_sound ha ((noFailures_stays a).trans (marks_stay _ a.level .marked a.suspended))
  · next a _ ha =>
    have hunmarked : AccountStays a (if a.spent = .requested then { a with spent := .none } else a) := by
      split
      · exact marks_stay a a.level .none a.suspended
      · exact .refl a
    have h := (setAccount_sound (p := p) (m := m) ha (hunmarked.trans (countFailure_stays _))).trans (reportIfLost_sound _ n
      (countFailure (if a.spent = .requested then { a with spent := .none } else a)).failures)
    exact .ite (h.trans (spentCheck_sound _ n)) h
  · exact .refl s

/-! ### Proofs and their outcomes (R7 to R9, R34 to R38, R83) -/

theorem setIdentity_sound (s : State) (n : SlotId) (id : Option IdRecord) : Sound p m s (setIdentity s n id) :=
  .of_frame (setIdentity_frame s n id) (by decide)

theorem freePrf_sound (s : State) : Sound p m s (freePrf s) := .of_frame (freePrf_frame s) (by decide)

theorem readIdResult_sound (s : State) (n : SlotId) (r : TxResult) : Sound p m s (readIdResult s n r) := by
  unfold readIdResult
  refine .ite (.refl s) ?_
  split
  · unfold judgeBlock
    split
    · exact rejectSlot_sound s n _
    · exact ((setIdentity_sound s n _).trans (changeState_sound _ n _)).trans (joinQueue_sound _ _)
  · exact rejectSlot_sound s n _
  · exact rejectSlot_sound s n _
  · exact .refl s

/-- An account opened for a slot that has none (R83). -/
theorem openedAs_sound {s : State} {n : SlotId} (hn : p → s.accounts[n] = none) {a : Account} (ha : AccountSafe a) (hl : Ledger a)
    (st : SlotState) : Sound p m s (openedAs s n a st) :=
  (((setAccount_opens hn ha hl).trans (requestAddUsed_sound _ n)).trans (changeState_sound _ n st)).trans (setIdentity_sound _ n none)

theorem reconcileSlot_sound {s : State} {n : SlotId} (hn : p → s.accounts[n] = none) (id : IdRecord) (c : Nat) (spent : Bool) :
    Sound p m s (reconcileSlot s n id c spent) := by
  unfold reconcileSlot
  split
  · exact (setIdentity_sound s n _).trans (rejectSlot_sound _ n _)
  · rw [openOutcome_eq]
    exact (openedAs_sound hn (openingAccount_safe _ _ _ _ _ _ _) (openingAccount_ledger _ _ _ _ _ _ _) _).trans (raiseAlerts_sound _ n _)

theorem provenOutcome_sound {s : State} {n : SlotId} (hn : p → s.accounts[n] = none) (id : IdRecord) (c : Word) (f : Byte) :
    Sound p m s (provenOutcome s n id c f) :=
  (changeState_sound s n .reconciling).trans (reconcileSlot_sound (fun h => by rw [changeState_eq_moveSlot s n .reconciling nofun]; exact hn h) id _ _)

theorem mismatchOutcome_sound {s : State} {n : SlotId} (hn : p → s.accounts[n] = none) (id : IdRecord) (c : Option Word) (f : Option Byte) :
    Sound p m s (mismatchOutcome s n id c f) := by
  by_cases h : s.settings.nonGenuine = .block
  · rw [mismatchOutcome_blocks h]
    exact (setIdentity_sound s n _).trans (rejectSlot_sound _ n _)
  · rw [mismatchOutcome_opens h]
    exact (openedAs_sound hn (openingAccount_safe _ _ _ _ _ _ _) (openingAccount_ledger _ _ _ _ _ _ _) _).trans (raiseAlerts_sound _ n _)

theorem challengeResult_sound {s : State} (hp : p → Unopened s) (n : SlotId) (r : TxResult) : Sound p m s (challengeResult s n r) := by
  unfold challengeResult
  split
  · exact .refl s
  · next hc =>
    have hn : p → (freePrf s).accounts[n] = none := fun h => hp h n (not_not.1 hc)
    split
    · exact (freePrf_sound s).trans (mismatchOutcome_sound hn _ _ _)
    · exact ((freePrf_sound s).trans (setIdentity_sound _ n _)).trans (rejectSlot_sound _ n _)
    · exact freePrf_sound s
    · exact freePrf_sound s

theorem responseChecked_sound {s : State} (hp : p → Unopened s) (d : BitVec 64) : Sound p m s (responseChecked s d) := by
  unfold responseChecked
  dsimp only
  split
  · next n _ _ hslot _ _ =>
    have hn : p → (freePrf s).accounts[n] = none := fun h => hp h n hslot
    split
    · exact .ite ((freePrf_sound s).trans (provenOutcome_sound hn _ _ _)) ((freePrf_sound s).trans (mismatchOutcome_sound hn _ _ _))
    · exact freePrf_sound s
  · exact freePrf_sound s

/-! ### Transactions and attempts (R54 to R59) -/

theorem handOver_sound {s : State} (hp : p → Unopened s) (tx : Transaction) (r : TxResult) : Sound p m s (handOver s tx r) := by
  unfold handOver
  split
  · exact readIdResult_sound s _ r
  · exact challengeResult_sound hp _ r
  · exact addUsedResult_sound s _ _ _ r
  · exact readUsageResult_sound s _ r
  · exact markSpentResult_sound s _ r
  · exact .of_frame (passThroughResult_frame s _ _ _ _ r) (by decide)

theorem drainCheck_sound (s : State) : Sound p m s (drainCheck s) := .of_frame (drainCheck_frame s) (by decide)

theorem leaveLine_sound (s : State) : Sound p m s (leaveLine s) :=
  ((setCbc_sound s _).trans (arbitrate_sound _)).trans (drainCheck_sound _)

theorem beginAttempt_sound (s : State) (tx : Transaction) : Sound p m s (beginAttempt s tx) :=
  .of_frame (beginAttempt_frame s tx) (by decide)

theorem nextAttempt_sound (s : State) (tx : Transaction) : Sound p m s (nextAttempt s tx) := by
  unfold nextAttempt
  split
  · split
    · exact (Sound.of_frame (unbuiltChallenge_frame s _) (by decide)).trans (leaveLine_sound _)
    · next h => exact (Sound.of_frame (startChallenge_frame h) (by decide)).trans (beginAttempt_sound _ _)
  · exact beginAttempt_sound s _

theorem failAttempt_sound {s : State} (hp : p → Unopened s) (tx : Transaction) (noted : List BusError) :
    Sound p m s (failAttempt s tx noted) := by
  rw [failAttempt_eq]
  exact (setCbc_sound s _).trans (.ite (nextAttempt_sound _ _) ((handOver_sound (s := oweBreak s) hp tx _).trans (leaveLine_sound _)))

theorem collided_sound {s : State} (hp : p → Unopened s) (tx : Transaction) : Sound p m s (collided s tx) :=
  (setCbc_sound s _).trans (failAttempt_sound (s := lowSeen s) hp tx _)

theorem takeChallengeReply_sound (s : State) (body : List Byte) : Sound p m s (takeChallengeReply s body) :=
  .of_frame (takeChallengeReply_frame s body) (by decide)

theorem replyEnded_sound {s : State} (hp : p → Unopened s) (tx : Transaction) (address : Byte) (rest : List CbusChar) :
    Sound p m s (replyEnded s tx address rest) := by
  unfold replyEnded
  split
  · exact .ite ((setCbc_sound s _).trans (takeChallengeReply_sound _ _)) ((handOver_sound hp tx _).trans (leaveLine_sound _))
  · exact failAttempt_sound hp tx _

/-! ### A slot's work ended (R11, R17, R66, R122) -/

theorem cancelSlotWork_sound (s : State) (n : SlotId) : Sound p m s (cancelSlotWork s n) := by
  rw [cancelSlotWork_eq]
  refine ((Sound.of_frame (dropEntries_frame s n) (by decide)).trans (.of_frame (abortLine_others _ n) (by decide))).trans ?_
  exact (arbitrate_sound _).trans (drainCheck_sound _)

theorem dropEngineHolds_falls (s : State) (n : SlotId) : HoldsFall m s (dropEngineHolds s n) := by
  refine ⟨List.forall₂_map_right_iff.2 (List.forall₂_same.2 fun w _ => ?_), ?_⟩
  · exact swathFalls_modListed m w n (fun _ => rfl) fun _ => Nat.zero_le _
  · unfold purgeHold dropEngineHolds
    rw [put_get]
    split
    · exact Nat.zero_le _
    · exact Nat.le_refl _

/-- The account closes before its holds are dropped, so that only the whole keeps the holds within their limit. -/
theorem endSlotWork_sound (s : State) (n : SlotId) : Sound p m s (endSlotWork s n) := by
  have hclose := closeAccount_frame s n
  have hdrop : HoldsFall m (cancelSlotWork (closeAccount s n) n) (endSlotWork s n) := dropEngineHolds_falls _ n
  by_cases h : m = n
  · subst h
    have hnone := endSlotWork_account s m
    have hcancel : OnlyChanges (arbiterParts ++ [.his, .sto, .sysp]) (closeAccount s m) (cancelSlotWork (closeAccount s m) m) :=
      cancelSlotWork_others _ m
    have hfall : HoldsFall m s (endSlotWork s m) :=
      ((HoldsFall.of_frame hclose (by decide)).trans (.of_frame hcancel (by decide))).trans hdrop
    refine ⟨fun _ a ha => ?_, fun _ _ a ha => ?_, fun _ _ hw => ⟨hw.1.falls hfall.table, ?_⟩⟩
    · rw [hnone] at ha
      cases ha
    · rw [hnone] at ha
      cases ha
    · obtain ⟨hzero, -⟩ := endSlotWork_holds s m
      rw [hzero]
      exact Nat.zero_le _
  · have hclosed : Sound p m s (closeAccount s n) :=
      .of_same (by rw [closeAccount_accounts, put_other _ _ _ _ h]) (.of_frame hclose (by decide))
    exact (hclosed.trans (cancelSlotWork_sound _ n)).trans (.of_same rfl hdrop)

theorem removal_sound (s : State) (n : SlotId) : Sound p m s (removal s n) := by
  rw [removal_eq]
  have hclear (t : State) : Sound p m t (changeState (clearSlot t n) n .vacant) :=
    ((setIdentity_sound t n none).trans (modSlot_sound _ n _)).trans (changeState_sound _ n _)
  exact (endSlotWork_sound s n).trans (.ite ((hclear _).trans (raiseAlert_sound _ n _ _)) (hclear _))

/-! ### Swaths and purges (R109, R114 to R118, R126) -/

/-- The account stays, the holds do not rise and stay with OPEN swaths. -/
theorem Sound.of_holds {s t : State} (ha : t.accounts[m] = s.accounts[m]) (ho : HoldsOpen m s.engp.table → HoldsOpen m t.engp.table)
    (hh : holds t m ≤ holds s m) : Sound p m s t where
  range h a hs := h a (ha ▸ hs)
  ledger _ hl a hs := hl a (ha ▸ hs)
  within _ _ hw := ⟨ho hw.1, by rw [holdLimit_congr ha]; exact hh.trans hw.2⟩

/-- Some swaths of the table give up all they hold. -/
theorem mapTable_sound {s : State} {x : Engp} {f : Swath → Swath} (ht : x.table = s.engp.table.map f) (hp : x.purges = s.engp.purges)
    (hf : ∀ w, f w = w ∨ holdOf (f w) m = 0) : Sound p m s { s with engp := x } := by
  refine .of_holds rfl (fun ho => ?_) (Nat.add_le_add ?_ (Nat.le_of_eq ?_))
  · show HoldsOpen m x.table
    rw [ht]
    intro v hv hs
    obtain ⟨w, hw, rfl⟩ := List.mem_map.1 hv
    rcases hf w with h | h
    · rw [h] at hs ⊢
      exact ho w hw hs
    · exact h
  · show (x.table.map (holdOf · m)).sum ≤ (s.engp.table.map (holdOf · m)).sum
    rw [ht, List.map_map]
    refine List.sum_le_sum fun w _ => ?_
    rcases hf w with h | h
    · exact Nat.le_of_eq (congrArg (holdOf · m) h)
    · exact h.trans_le (Nat.zero_le _)
  · rw [purgeHold, purgeHold]
    show (x.purges[m].map (·.hold)).getD 0 = _
    rw [hp]

theorem expireSwath_holdOf (w : Swath) : holdOf (expireSwath w) m = 0 := by
  rw [holdOf, expireSwath, List.find?_map]
  cases w.slots.find? ((·.slot == m) ∘ fun l => { l with hold := 0 }) <;> rfl

theorem expireNamed_sound (s : State) (id : Byte) : Sound p m s (modSwath s id expireSwath) :=
  mapTable_sound rfl rfl fun w => by
    split
    · exact .inr (expireSwath_holdOf w)
    · exact .inl rfl

theorem dropSwath_sound (s : State) (id : Byte) : Sound p m s (dropSwath s id) := by
  refine .of_holds rfl (fun ho w hw => ho w (List.mem_of_mem_filter hw)) (Nat.add_le_add ?_ (Nat.le_refl _))
  exact (List.filter_sublist.map _).sum_le_sum fun _ _ => Nat.zero_le _

theorem stopIfNoneOpen_sound (s : State) : Sound p m s (stopIfNoneOpen s) := .ite (.refl s) (.of_sameHolds rfl ⟨rfl, rfl⟩)

theorem clearIfEmpty_sound (s : State) : Sound p m s (clearIfEmpty s) := .ite (.of_sameHolds rfl ⟨rfl, rfl⟩) (.refl s)

theorem closeSwath_sound (s : State) (w : Swath) : Sound p m s (closeSwath s w) := by
  rw [closeSwath_eq]
  refine (((dropSwath_sound s w.id).trans ?_).trans (stopIfNoneOpen_sound _)).trans (clearIfEmpty_sound _)
  exact .foldl (fun t (l : Listed) => trigger t l.slot) (fun t l => trigger_sound t l.slot) w.slots _

theorem holds_empty {s : State} (ht : s.engp.table = []) (hp : s.engp.purges[m] = none) : holds s m = 0 := by
  rw [holds, purgeHold, ht, hp]
  rfl

theorem restartEngine_sound (s : State) : Sound p m s (restartEngine s) := by
  have hp : (restartEngine s).engp.purges[m] = none := Vector.getElem_replicate ..
  refine .of_holds rfl (fun _ => nofun) ?_
  rw [holds_empty rfl hp]
  exact Nat.zero_le _

/-- What is granted to a slot is available to it (R109, R118). -/
theorem granted_within {s : State} {k : Nat} (hw : holds s m ≤ holdLimit s m)
    (hk : ∀ a, s.accounts[m] = some a → a.metered = true → k ≤ available s m a) :
    holds s m + (if meteredSlot s m then k else 0) ≤ holdLimit s m := by
  split
  · next hm =>
    unfold meteredSlot at hm
    cases ha : s.accounts[m] with
    | none =>
      rw [ha] at hm
      cases hm
    | some a =>
      rw [ha] at hm
      replace hm : a.metered = true := hm
      rw [holdLimit_some ha, if_pos hm] at hw ⊢
      have hle := hk a ha hm
      unfold available at hle
      omega
  · exact hw

/-- The swath a granted OPEN_SWATH makes. -/
def grantedSwath (s : State) (id : Byte) (l : List (SlotId × Nat)) : Swath :=
  ⟨id, .opened, l.map fun x => ⟨x.1, if meteredSlot s x.1 then x.2 else 0, 0⟩,
    some (startTimer s (ms (1000 * s.settings.limits.swath)))⟩

theorem grantSwath_engp (s : State) (id : Byte) (l : List (SlotId × Nat)) :
    (grantSwath s id l).engp.table = s.engp.table ++ [grantedSwath s id l] ∧ (grantSwath s id l).engp.purges = s.engp.purges := by
  unfold grantSwath
  dsimp only
  split <;> exact ⟨rfl, rfl⟩

theorem grantedSwath_holdOf (s : State) (id : Byte) (l : List (SlotId × Nat)) :
    holdOf (grantedSwath s id l) m = 0 ∨ ∃ x ∈ l, x.1 = m ∧ holdOf (grantedSwath s id l) m = if meteredSlot s m then x.2 else 0 := by
  unfold holdOf grantedSwath
  rw [List.find?_map]
  cases hf : l.find? ((·.slot == m) ∘ fun x => (⟨x.1, if meteredSlot s x.1 then x.2 else 0, 0⟩ : Listed)) with
  | none => exact .inl rfl
  | some x =>
    have hfound := List.find?_some hf
    have hx : x.1 = m := eq_of_beq hfound
    refine .inr ⟨x, List.mem_of_find?_eq_some hf, hx, ?_⟩
    rw [← hx]
    rfl

theorem askStatus_available {s : State} {x : SlotId × Nat} (h : askStatus s x = .ok) {a : Account} (ha : s.accounts[x.1] = some a)
    (hm : a.metered = true) : x.2 ≤ available s x.1 a := by
  unfold askStatus at h
  split at h
  · cases h
  · rw [ha] at h
    dsimp only at h
    split at h
    · cases h
    · next hc => exact Nat.le_of_not_lt fun hlt => hc ⟨hm, hlt⟩

theorem grantSwath_sound {s : State} (id : Byte) {l : List (SlotId × Nat)} (hl : ∀ x ∈ l, askStatus s x = .ok) :
    Sound p m s (grantSwath s id l) := by
  obtain ⟨ht, hp⟩ := grantSwath_engp s id l
  have ha : (grantSwath s id l).accounts = s.accounts := by
    unfold grantSwath
    dsimp only
    split <;> rfl
  have hholds : holds (grantSwath s id l) m = holds s m + holdOf (grantedSwath s id l) m := by
    rw [holds, holds, purgeHold, purgeHold, ht, hp, List.map_append, List.sum_append]
    simp only [List.map_cons, List.map_nil, List.sum_cons, List.sum_nil]
    omega
  refine ⟨fun h a hs => h a (ha ▸ hs), fun _ h a hs => h a (ha ▸ hs), fun _ _ hw => ⟨?_, ?_⟩⟩
  · rw [ht]
    intro w hmem hs
    rcases List.mem_append.1 hmem with hmem | hmem
    · exact hw.1 w hmem hs
    · rw [List.mem_singleton.1 hmem] at hs
      exact absurd rfl hs
  · have hlimit : holdLimit (grantSwath s id l) m = holdLimit s m := holdLimit_congr (by rw [ha])
    rw [hholds, hlimit]
    rcases grantedSwath_holdOf (m := m) s id l with hzero | ⟨x, hx, rfl, hhold⟩
    · rw [hzero]
      exact hw.2
    · rw [hhold]
      exact granted_within hw.2 fun a ha hm => askStatus_available (hl x hx) ha hm

theorem actOpenSwath_sound (id : Byte) (asks : List SwathAsk) (s : State) : Sound p m s (actOpenSwath id asks s).state := by
  unfold actOpenSwath
  split
  · exact .refl s
  · split
    · exact .refl s
    · split
      · next hall => exact grantSwath_sound id fun x hx => eq_of_beq (List.all_eq_true.1 hall x hx)
      · exact .refl s

theorem purgeRefusal_none {s : State} {n : SlotId} {k : Nat} (h : purgeRefusal s n k = none) :
    s.engp.purges[n] = none ∧ ∀ a, s.accounts[n] = some a → a.metered = true → k ≤ available s n a := by
  unfold purgeRefusal at h
  split at h
  · cases h
  · split at h
    · cases h
    · split at h
      · cases h
      · next hp =>
        refine ⟨by simpa using hp, fun a ha hm => ?_⟩
        rw [ha] at h
        dsimp only at h
        split at h
        · cases h
        · next hc => exact Nat.le_of_not_lt fun hlt => hc ⟨hm, hlt⟩

theorem grantPurge_sound {s : State} {n : SlotId} {k : Nat} (h : purgeRefusal s n k = none) : Sound p m s (grantPurge s n k) := by
  obtain ⟨hnone, hk⟩ := purgeRefusal_none h
  by_cases hm : m = n
  · subst hm
    have hold : purgeHold s m = 0 := by
      rw [purgeHold, hnone]
      rfl
    have hnew : purgeHold (grantPurge s m k) m = if meteredSlot s m then k else 0 := by
      rw [purgeHold, grantPurge]
      dsimp only
      rw [put_same]
      rfl
    refine ⟨id, fun _ h => h, fun _ _ hw => ⟨hw.1, ?_⟩⟩
    have hlimit := granted_within hw.2 hk
    rw [holds, hold, Nat.add_zero] at hlimit
    rw [holds, hnew]
    exact hlimit
  · refine .of_same rfl ⟨List.forall₂_same.2 fun w _ => .refl m w, Nat.le_of_eq ?_⟩
    rw [purgeHold, purgeHold, grantPurge]
    dsimp only
    rw [put_other _ _ _ _ hm]

theorem actPurgeStart_sound (slot : Byte) (amount : Half) (s : State) : Sound p m s (actPurgeStart slot amount s).state := by
  unfold actPurgeStart
  split
  · exact .refl s
  · split
    · exact .refl s
    · split
      · exact .refl s
      · exact .refl s
      · next h => exact grantPurge_sound h

theorem clearPurge_sound (s : State) (n : SlotId) : Sound p m s (clearPurge s n) := by
  refine .of_same rfl ⟨List.forall₂_same.2 fun w _ => .refl m w, ?_⟩
  unfold purgeHold clearPurge
  rw [put_get]
  split
  · exact Nat.zero_le _
  · exact Nat.le_refl _

theorem actPurgeEnd_sound (slot : Byte) (actual : Half) (s : State) : Sound p m s (actPurgeEnd slot actual s).state := by
  unfold actPurgeEnd
  split
  · exact .refl s
  · split
    · exact (((clearPurge_sound s _).trans (debitPurge_sound _ _ _)).trans (requestAddUsed_sound _ _)).arbitrateIfJoined
    · exact .refl s

theorem actDropReport_sound (id temperature : Byte) (l : List DropEntry) (s : State) :
    Sound p m s (actDropReport id temperature l s).state := by
  unfold actDropReport
  split
  · exact .refl s
  · have hwatch : Sound p m s (restartWatchdog s) := .ite (.of_sameHolds rfl ⟨rfl, rfl⟩) (.refl s)
    exact (hwatch.trans (takeEntries_sound id _ l _)).arbitrateIfJoined

/-! ### Power (R179, R182, R184) -/

theorem assertPfail_sound (s : State) : Sound p m s (assertPfail s) := by
  have hwarned : Sound p m s (warned s) := .of_sameHolds rfl ⟨rfl, rfl⟩
  rw [assertPfail_eq]
  exact (hwarned.trans (forSlots_sound trigger trigger_sound _)).trans (drainCheck_sound _)

theorem withdrawPfail_sound (s : State) : Sound p m s (withdrawPfail s) := by
  have hunwarned : Sound p m s (unwarned s) := .of_sameHolds rfl ⟨rfl, rfl⟩
  rw [withdrawPfail_eq]
  exact hunwarned.trans (arbitrate_sound _)

theorem finishLoad_sound (s : State) : Sound p m s (finishLoad s) := by
  have hpfail (t : State) : Sound p m t (samplePfail t) := by
    have hfilter (x : Sto) : Sound p m t { t with sto := x } := .of_frame (sto_frame t x) (by decide)
    rw [samplePfail_eq]
    exact .ite (hfilter _) ((hfilter _).trans (assertPfail_sound _))
  rw [finishLoad_eq]
  refine ((Sound.of_frame (loaded_frame s) (by decide)).trans (hpfail _)).trans (forSlots_sound sampleSlot (fun t n => ?_) _)
  exact .ite ((modSlot_sound t n _).trans (insertion_sound _ n)) (.refl t)

/-- A full reset leaves no account and no holds, whatever was before (R179). -/
theorem fullReset_sound (s u : State) (q : Phase) : Sound p m s (fullReset u q) := by
  have hnone : (fullReset u q).accounts[m] = none := reset_account m
  refine ⟨fun _ a h => ?_, fun _ _ a h => ?_, fun _ _ _ => ⟨nofun, ?_⟩⟩
  · rw [hnone] at h
    cases h
  · rw [hnone] at h
    cases h
  · rw [holds_empty rfl (Vector.getElem_replicate ..)]
    exact Nat.zero_le _

end

end Sys2Proof.Machine
end

section
/-! Every command keeps each slot's account in its ranges, its ledger balanced and its holds within its headroom (O10). -/

namespace Sys2Proof.Machine

/-- A command keeps slot `m` sound. -/
def ExecSound (p : Prop) (m : SlotId) (s : State) (o : Outcome) : Prop := ∀ t, o = .next t → Sound p m s t

section
variable {p : Prop} {m : SlotId}

theorem execSound_next {s t : State} (h : Sound p m s t) : ExecSound p m s (.next t) := fun _ ht => by cases ht; exact h

/-! ### The bus and the digest engine -/

theorem onLine_sound {s : State} {f : Transaction → State} (h : ∀ tx, Sound p m s (f tx)) : ExecSound p m s (.next (onLine s f)) := by
  refine execSound_next ?_
  unfold onLine
  split
  · exact .ite (h _) (.refl s)
  · exact .refl s

theorem setLine_sound (s : State) (tx : Transaction) (idle : Nat) : Sound p m s (setLine s tx idle) := setCbc_sound s _

theorem Unopened.withIdle {s : State} (h : Unopened s) (k : Nat) : Unopened (withIdle s k) := h

section
variable {s : State} (hp : p → Unopened s)
include hp

theorem execCollision_sound : ExecSound p m s (execCollision s) := by
  refine onLine_sound fun tx => ?_
  split
  · exact collided_sound hp tx
  · exact .refl s

theorem execReplyDeadlineExpiry_sound : ExecSound p m s (execReplyDeadlineExpiry s) :=
  onLine_sound fun tx => .ite (failAttempt_sound hp tx _) (.ite (setLine_sound s _ _) (.refl s))

theorem execCbusFramingError_sound : ExecSound p m s (execCbusFramingError s) := by
  refine execSound_next ?_
  unfold onCharacter
  split
  · exact .refl s
  · dsimp only
    split
    · exact setLine_sound s _ _
    · exact setLine_sound s _ _
    · exact collided_sound hp _
    · exact .refl s
    · exact setCbc_sound s _
  · exact setCbc_sound s _

theorem execFramingDiscardEnd_sound : ExecSound p m s (execFramingDiscardEnd s) := by
  refine onLine_sound fun tx => ?_
  split
  · exact (setCbc_sound s _).trans (failAttempt_sound (fun h => (hp h).withIdle 11) tx _)
  · exact .refl s

theorem execCbusReplyEnd_sound (rest : List CbusChar) : ExecSound p m s (execCbusReplyEnd rest s) := by
  have hended (tx : Transaction) (address : Byte) :
      Sound p m s (replyEnded (withIdle s (replyIdle address rest)) tx address rest) :=
    (setCbc_sound s _).trans (replyEnded_sound (fun h => (hp h).withIdle (replyIdle address rest)) tx address rest)
  refine onLine_sound fun tx => ?_
  split
  · exact hended tx _
  · exact .refl s

theorem execReplyLengthLimitExpiry_sound : ExecSound p m s (execReplyLengthLimitExpiry s) := by
  refine onLine_sound fun tx => ?_
  split
  · exact failAttempt_sound hp tx _
  · exact .refl s

theorem execIdleWaitLimitExpiry_sound : ExecSound p m s (execIdleWaitLimitExpiry s) := by
  refine onLine_sound fun tx => ?_
  split
  · exact failAttempt_sound hp tx _
  · exact failAttempt_sound hp tx _
  · exact failAttempt_sound hp tx _
  · exact .refl s

theorem execResponseDigestComplete_sound : ExecSound p m s (execResponseDigestComplete s) := by
  have hheld (t : State) : Sound p m t (leaveHeld t) := by
    unfold leaveHeld
    split
    · exact .ite (leaveLine_sound t) (.refl t)
    · exact .refl t
  refine execSound_next ?_
  split
  · exact .ite ((responseChecked_sound hp _).trans (hheld _)) (.refl s)
  · exact .refl s

end

/-! ### Requests of the system port -/

theorem sysRequest_sound {s : State} {sel : Selection} {k : Byte} {len : Nat} {act : State → Answer} (h : ∀ t, Sound p m t (act t).1) :
    ExecSound p m s (.next (sysRequest s sel k len act)) := by
  have hsysp (t : State) (x : Sysp) : Sound p m t { t with sysp := x } := .of_frame (sysp_frame t x) (by decide)
  exact execSound_next (.ite ((((hsysp s _).trans (hsysp _ _)).trans (h _)).trans (hsysp _ _)) (.refl s))

theorem forSlot_sound {slot : Byte} {act : SlotId → State → Answer} (h : ∀ n t, Sound p m t (act n t).1) (t : State) :
    Sound p m t (forSlot slot act t).1 := by
  unfold forSlot
  split
  · exact .refl t
  · exact h _ t

theorem actSetSlotMode_sound (mode : Byte) (n : SlotId) (s : State) : Sound p m s (actSetSlotMode mode n s).1 := by
  unfold actSetSlotMode
  split
  · exact .refl s
  · exact (Sound.of_frame (storeMode_frame s n _) (by decide)).trans (.ite (startReading_sound _ n) (.refl _))

theorem actAdmit_sound (n : SlotId) (s : State) : Sound p m s (actAdmit n s).1 := by
  unfold actAdmit
  split
  · exact .refl s
  · split
    · exact .refl s
    · exact startReading_sound s n

theorem actPark_sound (n : SlotId) (s : State) : Sound p m s (actPark n s).1 := by
  unfold actPark
  split
  · exact (modSlot_sound s n fun r => { r with target := .parked }).trans (changeState_sound _ n .parked)
  · exact .refl s

theorem actUnpark_sound (n : SlotId) (s : State) : Sound p m s (actUnpark n s).1 := by
  unfold actUnpark
  split
  · exact .refl s
  · split
    · exact .refl s
    · exact ((modSlot_sound s n _).trans (changeState_sound _ n _)).arbitrateIfJoined

theorem actRetry_sound (n : SlotId) (s : State) : Sound p m s (actRetry n s).1 := by
  unfold actRetry
  split
  · split
    · exact .refl s
    · exact Sound.trans (.ite (endSlotWork_sound s n) (.refl s)) (startReading_sound _ n)
  · exact .refl s

theorem actSetLimits_sound (l : Limits) (s : State) : Sound p m s (actSetLimits l s).1 := by
  have hstored : Sound p m s (limitsStored s (clampLimits l)) := .of_frame (limitsStored_frame s _) (by decide)
  exact .ite (.refl s) (.ite (hstored.trans (forSlots_sound refreshLevel refreshLevel_sound _)) hstored)

theorem actFlush_sound (s : State) : Sound p m s (actFlush s).1 := by
  have h : Sound p m s (forSlots trigger s) := forSlots_sound trigger trigger_sound s
  unfold actFlush
  dsimp only
  exact h

theorem execCartRead_sound (slot offset length : Byte) (sel : Selection) (s : State) : ExecSound p m s (execCartRead slot offset length sel s) := by
  have hsysp (t : State) (x : Sysp) : Sound p m t { t with sysp := x } := .of_frame (sysp_frame t x) (by decide)
  have htake (t : State) : Sound p m t (takeCartRead t slot offset length) := by
    unfold takeCartRead
    split
    · exact (hsysp t _).trans (joinQueue_sound _ _)
    · exact hsysp t _
    · exact .refl t
  exact execSound_next (.ite ((hsysp s _).trans (htake _)) (.refl s))

/-! ### Requests and timers of the engine port -/

theorem engRequest_sound {s : State} {sel : Selection} {k : Byte} {len : Nat} {act : State → EngAnswer}
    (h : ∀ t, Sound p m t (act t).state) : ExecSound p m s (.next (engRequest s sel k len act)) := by
  have hselected : Sound p m s (endEngSelection s sel.ready (len + 3 + sel.filler)) := .of_sameHolds rfl ⟨rfl, rfl⟩
  exact execSound_next (.ite ((hselected.trans (h _)).trans (.of_sameHolds rfl ⟨rfl, rfl⟩)) (.refl s))

theorem actCloseSwath_sound (id : Byte) (s : State) : Sound p m s (actCloseSwath id s).state := by
  unfold actCloseSwath
  split
  · exact closeSwath_sound s _
  · exact .refl s

theorem execEngFrameRejected_sound (frame : List Byte) (sel : Selection) (s : State) : ExecSound p m s (execEngFrameRejected frame sel s) := by
  unfold execEngFrameRejected
  split
  · split
    · exact execSound_next (.refl s)
    · exact engRequest_sound fun t => .refl t
  · exact execSound_next (.refl s)

theorem execReportWatchdogExpiry_sound (s : State) : ExecSound p m s (execReportWatchdogExpiry s) := by
  refine execSound_next (.ite (Sound.trans ?_ (postEvent_sound _ _ _ _ _)) (.refl s))
  refine mapTable_sound rfl rfl fun w => ?_
  split
  · exact .inr (expireSwath_holdOf w)
  · exact .inl rfl

theorem execSwathTimerExpiry_sound (id : Byte) (s : State) : ExecSound p m s (execSwathTimerExpiry id s) := by
  unfold execSwathTimerExpiry
  split
  · exact execSound_next (.ite (((expireNamed_sound s id).trans (stopIfNoneOpen_sound _)).trans (postEvent_sound _ _ _ _ _)) (.refl s))
  · exact execSound_next (.refl s)

theorem execPurgeTimerExpiry_sound (n : SlotId) (s : State) : ExecSound p m s (execPurgeTimerExpiry n s) := by
  unfold execPurgeTimerExpiry
  split
  · exact execSound_next (.ite
      (((clearPurge_sound s n).trans (debitPurge_sound _ n _)).trans (postEvent_sound _ _ _ _ _)).arbitrateIfJoined (.refl s))
  · exact execSound_next (.refl s)

/-! ### Presence and resets -/

theorem execPresenceTimerExpiry_sound (n : SlotId) (s : State) : ExecSound p m s (execPresenceTimerExpiry n s) := by
  have hsense : Sound p m s (senseSlot s n s.lines.presence[n]) := modSlot_sound s n _
  rw [execPresenceTimerExpiry_eq]
  exact execSound_next (.ite (.ite (hsense.trans (insertion_sound _ n)) (.ite (hsense.trans (removal_sound _ n)) hsense)) (.refl s))

theorem resetIfDue_sound (s : State) (v : Svl) : Sound p m s (resetIfDue { s with svl := v }) :=
  Sound.trans (t := { s with svl := v }) (.of_frame (svl_frame s v) (by decide)) (.ite (fullReset_sound _ _ _) (.refl _))

theorem execResetLineAsserted_sound (s : State) : ExecSound p m s (execResetLineAsserted s) := by
  have hlines : Sound p m s { s with lines := { s.lines with resetN := false } } := .of_frame (lines_frame s _) (by decide)
  exact execSound_next (.ite (.refl s) (.ite hlines (fullReset_sound s _ _)))

/-! ### Every command -/

theorem exec_sound {s : State} (hp : p → Unopened s) (i : Instr) : ExecSound p m s (exec i s) := by
  cases i with
  | presenceTimerExpiry slot => exact execPresenceTimerExpiry_sound slot s
  | responseDigestComplete => exact execResponseDigestComplete_sound hp
  | collision => exact execCollision_sound hp
  | replyDeadlineExpiry => exact execReplyDeadlineExpiry_sound hp
  | cbusFramingError => exact execCbusFramingError_sound hp
  | framingDiscardEnd => exact execFramingDiscardEnd_sound hp
  | cbusReplyEnd rest => exact execCbusReplyEnd_sound hp rest
  | replyLengthLimitExpiry => exact execReplyLengthLimitExpiry_sound hp
  | idleWaitLimitExpiry => exact execIdleWaitLimitExpiry_sound hp
  | setSlotMode slot mode sel => exact sysRequest_sound (forSlot_sound (actSetSlotMode_sound mode))
  | admitSlot slot sel => exact sysRequest_sound (forSlot_sound actAdmit_sound)
  | park slot sel => exact sysRequest_sound (forSlot_sound actPark_sound)
  | unpark slot sel => exact sysRequest_sound (forSlot_sound actUnpark_sound)
  | retry slot sel => exact sysRequest_sound (forSlot_sound actRetry_sound)
  | cartRead slot offset length sel => exact execCartRead_sound slot offset length sel s
  | setLimits low reserve threshold window swath purge sel => exact sysRequest_sound (actSetLimits_sound _)
  | flush sel => exact sysRequest_sound actFlush_sound
  | openSwath id asks sel => exact engRequest_sound (actOpenSwath_sound id asks)
  | dropReport id temperature entries sel => exact engRequest_sound (actDropReport_sound id temperature entries)
  | closeSwath id sel => exact engRequest_sound (actCloseSwath_sound id)
  | purgeStart slot amount sel => exact engRequest_sound (actPurgeStart_sound slot amount)
  | purgeEnd slot actual sel => exact engRequest_sound (actPurgeEnd_sound slot actual)
  | gateStatus sel => exact engRequest_sound fun t => .refl t
  | engineRestart sel => exact engRequest_sound restartEngine_sound
  | engFrameRejected frame sel => exact execEngFrameRejected_sound frame sel s
  | engPartialSelection received ready => exact execSound_next (.ite (.of_sameHolds rfl ⟨rfl, rfl⟩) (.refl s))
  | engCollectSelection clocked ready => exact execSound_next (.ite (.of_sameHolds rfl ⟨rfl, rfl⟩) (.refl s))
  | reportWatchdogExpiry => exact execReportWatchdogExpiry_sound s
  | swathTimerExpiry id => exact execSwathTimerExpiry_sound id s
  | purgeTimerExpiry slot => exact execPurgeTimerExpiry_sound slot s
  | svcReplySent | svcBreakEnd => exact execSound_next (.ite (resetIfDue_sound s _) (.refl s))
  | pfailAsserted => exact execSound_next (.ite (assertPfail_sound s) (.refl s))
  | pfailWithdrawn => exact execSound_next (.ite (withdrawPfail_sound s) (.refl s))
  | powerOn => exact execSound_next (fullReset_sound s _ _)
  | resetLineAsserted => exact execResetLineAsserted_sound s
  | startUpLoadComplete => exact execSound_next (.ite (finishLoad_sound s) (.refl s))
  | powerLoss => exact execSound_next (.ite (.refl s) (fullReset_sound s _ _))
  | _ => exact fun t he => .of_frame (exec_changes _ s t he) (by simp [footprint])

end

/-! ### The slot under proof -/

theorem admissionsSafe_unopened {s : State} (h : AdmissionsSafe s) : Unopened s := by
  obtain ⟨-, haccounts, -, -, -, hwork, -, hbound, -⟩ := h
  intro n hn
  obtain ⟨tx, hl, rfl, hc, -⟩ := hbound n hn
  have hmem : (tx.slot, AdmissionStep.challenge) ∈ admissionWork s := by
    unfold admissionWork
    rw [hl]
    dsimp only
    rw [hc]
    exact List.mem_append_left _ (List.mem_singleton.2 rfl)
  have hstate : s.slots[tx.slot].state = .proving := hwork _ hmem
  have hnone := haccounts tx.slot
  rw [hstate] at hnone
  exact Option.isSome_eq_false_iff.1 hnone |> Option.isNone_iff_eq_none.1

/-- Settles O10. -/
theorem everyStepKeepsAccountsInRange : Obligations.EveryStepKeepsAccountsInRange := by
  have hsound (s t : State) (h : step s = .next t) (m : SlotId) : Sound (AdmissionsSafe s) m s t := by
    unfold step at h
    split at h
    · next i rest _ =>
      refine Sound.trans (t := { s with pending := rest }) (.of_frame (pending_frame s rest) (by decide)) ?_
      exact exec_sound (fun ha => admissionsSafe_unopened (s := { s with pending := rest }) ha) i t h
    · cases h
      exact .of_frame (tick_frame s) (by decide)
  refine ⟨fun s t ha h n => (hsound s t h n).range (ha n), fun s t ha hl h n => (hsound s t h n).ledger (ha n) (hl n),
    fun s t ha hw hadm hh h n => ((hsound s t h n).within hadm (ha n) ⟨holdsOpen_of_safe hw n, hh n⟩).2⟩

end Sys2Proof.Machine
end

section
/-! The entries of a DROP_REPORT taken in order: what they leave of the table of swaths, of a slot's account and of its listing,
and what each of them debits (R71, R76 to R78, R110 to R113). -/

namespace Sys2Proof.Machine

/-! ### Entries of the swath table that list the same slots -/

/-- Two entries of a swath table that differ in figures alone. -/
structure SwathLike (w w' : Swath) : Prop where
  sameId : w'.id = w.id
  state : w'.state = w.state
  listed : w'.slots.map (·.slot) = w.slots.map (·.slot)

theorem SwathLike.refl (w : Swath) : SwathLike w w := ⟨rfl, rfl, rfl⟩

theorem SwathLike.trans {a b c : Swath} (h : SwathLike a b) (k : SwathLike b c) : SwathLike a c :=
  ⟨k.sameId.trans h.sameId, k.state.trans h.state, k.listed.trans h.listed⟩

theorem SwathLike.lists {w w' : Swath} (h : SwathLike w w') (n : SlotId) : lists w' n = lists w n := by
  have hmap (v : Swath) : Machine.lists v n = (v.slots.map (·.slot)).any (· == n) := by
    rw [List.any_map]
    rfl
  rw [hmap, hmap, h.listed]

theorem modListed_like (w : Swath) (n : SlotId) {f : Listed → Listed} (hf : ∀ l, (f l).slot = l.slot) : SwathLike w (modListed w n f) := by
  refine ⟨rfl, rfl, ?_⟩
  show (w.slots.map fun l => if l.slot = n then f l else l).map (·.slot) = _
  rw [List.map_map]
  refine List.map_congr_left fun l _ => ?_
  show (if l.slot = n then f l else l).slot = l.slot
  split
  · exact hf l
  · rfl

theorem find?_modListed_other (w : Swath) {m n : SlotId} (h : n ≠ m) {f : Listed → Listed} (hf : ∀ l, (f l).slot = l.slot) :
    (modListed w m f).slots.find? (·.slot == n) = w.slots.find? (·.slot == n) := by
  have hslot (l : Listed) : (if l.slot = m then f l else l).slot = l.slot := by
    split
    · exact hf l
    · rfl
  unfold modListed
  rw [List.find?_map]
  simp only [Function.comp_def, hslot]
  cases hl : w.slots.find? (·.slot == n) with
  | none => rfl
  | some l =>
    have hfound := List.find?_some hl
    have hn : l.slot = n := eq_of_beq hfound
    rw [Option.map_some, if_neg (by rw [hn]; exact h)]

theorem forall₂_find? {α : Type} {R : α → α → Prop} {q : α → Bool} (hq : ∀ x y, R x y → q y = q x) {l k : List α} (h : List.Forall₂ R l k)
    {x : α} (hx : l.find? q = some x) : ∃ y, k.find? q = some y ∧ R x y := by
  induction h with
  | nil => cases hx
  | @cons a b l k hab _ ih =>
    rw [List.find?_cons] at hx ⊢
    rw [hq a b hab]
    split at hx
    · cases hx
      exact ⟨b, rfl, hab⟩
    · exact ih hx

theorem forall₂_trans {α : Type} {P Q R : α → α → Prop} (hr : ∀ x y z, P x y → Q y z → R x z) {l m k : List α} (h : List.Forall₂ P l m)
    (g : List.Forall₂ Q m k) : List.Forall₂ R l k := by
  induction h generalizing k with
  | nil =>
    cases g
    exact .nil
  | cons hab _ ih =>
    cases g with
    | cons hbc g => exact .cons (hr _ _ _ hab hbc) (ih g)

/-! ### The table after a debit (R77, R89) -/

/-- From `w` to `w'` a swath's listing of slot `n` is only cut. -/
structure SwathCut (n : SlotId) (w w' : Swath) : Prop extends SwathLike w w' where
  hold : holdOf w' n ≤ holdOf w n
  debited : debitedOf w' n = debitedOf w n

/-- From `w` to `w'` a swath's listing of slot `n` is of the same figures. -/
structure SwathSame (n : SlotId) (w w' : Swath) : Prop extends SwathLike w w' where
  hold : holdOf w' n = holdOf w n
  debited : debitedOf w' n = debitedOf w n

theorem SwathSame.refl (n : SlotId) (w : Swath) : SwathSame n w w := ⟨.refl w, rfl, rfl⟩

theorem SwathSame.trans {n : SlotId} {a b c : Swath} (h : SwathSame n a b) (k : SwathSame n b c) : SwathSame n a c :=
  ⟨h.toSwathLike.trans k.toSwathLike, k.hold.trans h.hold, k.debited.trans h.debited⟩

theorem modListed_same (w : Swath) {m n : SlotId} (h : n ≠ m) {f : Listed → Listed} (hf : ∀ l, (f l).slot = l.slot) :
    SwathSame n w (modListed w m f) := by
  have hfind := find?_modListed_other w h hf
  exact ⟨modListed_like w m hf, by rw [holdOf, holdOf, hfind], by rw [debitedOf, debitedOf, hfind]⟩

theorem cutSwaths_cut (n : SlotId) (ws : List Swath) (e : Nat) : List.Forall₂ (SwathCut n) ws (cutSwaths n ws e).1 := by
  have hrefl (w : Swath) : SwathCut n w w := ⟨.refl w, Nat.le_refl _, rfl⟩
  have hmod (w : Swath) (k : Nat) : SwathCut n w (modListed w n fun l => { l with hold := l.hold - k }) := by
    have hfind := find?_modListed w n (fun l => { l with hold := l.hold - k }) fun _ => rfl
    refine ⟨modListed_like w n fun _ => rfl, ?_, ?_⟩
    · rw [holdOf, holdOf, hfind]
      cases w.slots.find? (·.slot == n) with
      | none => exact Nat.le_refl _
      | some l => exact Nat.sub_le _ _
    · rw [debitedOf, debitedOf, hfind]
      cases w.slots.find? (·.slot == n) <;> rfl
  induction ws with
  | nil => exact .nil
  | cons w ws ih =>
    unfold cutSwaths
    dsimp only
    split
    · exact .cons (hmod w _) ih
    · exact .cons (hrefl w) ih

theorem cutSwaths_same {m n : SlotId} (h : n ≠ m) (ws : List Swath) (e : Nat) : List.Forall₂ (SwathSame n) ws (cutSwaths m ws e).1 := by
  induction ws with
  | nil => exact .nil
  | cons w ws ih =>
    unfold cutSwaths
    dsimp only
    split
    · exact .cons (modListed_same w h fun _ => rfl) ih
    · exact .cons (.refl n w) ih

/-- The table after the steps of R88: as it was, or cut for holds above the headroom. -/
theorem afterDebit_table (s : State) (n : SlotId) (before : Nat) :
    (afterDebit s n before).engp.table = s.engp.table ∨ ∃ a, s.accounts[n] = some a ∧ a.metered = true ∧ headroom a < holds s n ∧
      (afterDebit s n before).engp.table = (cutSwaths n s.engp.table (holds s n - headroom a)).1 := by
  rcases afterDebit_cases s n before with hs | ⟨a, ha, hm, hs⟩
  · exact .inl (by rw [hs])
  · obtain ⟨⟨l, hl⟩, -⟩ := refreshLevel_at ha
    have hlevel : SameHolds s (refreshLevel s n) := .of_frame (refreshLevel_frame s n) (by decide)
    have hrest (c : Prop) [Decidable c] : (thresholdTaken (if c then reportExhaustion (clampHolds (refreshLevel s n) n) n
        else clampHolds (refreshLevel s n) n) n).engp.table = (clampHolds (refreshLevel s n) n).engp.table :=
      ((SameHolds.ite (reportExhaustion_sameHolds _ n) (.refl _)).trans (.of_frame (thresholdTaken_frame _ n) (by decide))).table
    obtain ⟨cuts, hclamp⟩ := clampHolds_eq hl
    rw [hs, hrest, hclamp]
    split
    · next hc =>
      have hroom : headroom { a with level := l } < holds s n := by
        rw [← hlevel.holds n]
        exact hc.2
      refine .inr ⟨a, ha, hm, hroom, ?_⟩
      have hcut : (postCuts (cut (refreshLevel s n) n (holds (refreshLevel s n) n - headroom { a with level := l })) n cuts).engp.table =
          (cutSwaths n (refreshLevel s n).engp.table (holds (refreshLevel s n) n - headroom { a with level := l })).1 := by
        have hengp := postCuts_frame (cut (refreshLevel s n) n (holds (refreshLevel s n) n - headroom { a with level := l })) n cuts .engp
          (by decide)
        exact congrArg Engp.table hengp
      rw [hcut, hlevel.table, hlevel.holds n]
      rfl
    · exact .inl hlevel.table

/-! ### The named swath's figures (R110) -/

/-- From `w` to `w'` a swath, if it is the one named, is charged `d` µL for slot `n`: the figure debited rises, the hold of an
OPEN one falls, down to 0. -/
structure SwathCharged (n : SlotId) (id : Byte) (d : Nat) (w w' : Swath) : Prop extends SwathLike w w' where
  hold : w.id = id → holdOf w' n = if w.state = .opened then holdOf w n - d else holdOf w n
  debited : w.id = id →
    debitedOf w' n = if d = 0 ∨ lists w n = false then debitedOf w n else min 4294967295 (debitedOf w n + d)

theorem SwathSame.charged {n : SlotId} {w w' : Swath} (h : SwathSame n w w') (id : Byte) : SwathCharged n id 0 w w' := by
  refine ⟨h.toSwathLike, fun _ => ?_, fun _ => ?_⟩
  · rw [h.hold, Nat.sub_zero, ite_self]
  · rw [h.debited, if_pos (.inl rfl)]

theorem SwathCharged.trans {n : SlotId} {id : Byte} {c d : Nat} {w w' w'' : Swath} (h : SwathCharged n id c w w')
    (k : SwathCharged n id d w' w'') : SwathCharged n id (c + d) w w'' := by
  refine ⟨h.toSwathLike.trans k.toSwathLike, fun hid => ?_, fun hid => ?_⟩
  · rw [k.hold (h.sameId.trans hid), h.hold hid, h.state]
    split
    · exact Nat.sub_sub _ _ _
    · rfl
  · rw [k.debited (h.sameId.trans hid), h.debited hid, h.toSwathLike.lists]
    cases lists w n with
    | false => simp
    | true =>
      simp only [Bool.true_eq_false, or_false, Nat.add_eq_zero_iff]
      by_cases hc : c = 0
      · simp [hc]
      · by_cases hd : d = 0
        · simp [hc, hd]
        · simp only [hc, hd, if_false, false_and]
          omega

theorem debitedOf_unlisted {w : Swath} {n : SlotId} (h : lists w n = false) : w.slots.find? (·.slot == n) = none :=
  List.find?_eq_none.2 fun l hl => List.any_eq_false.1 h l hl

theorem countInSwath_charged (w : Swath) (n : SlotId) (id : Byte) {d : Nat} (hd : d ≠ 0) : SwathCharged n id d w (countInSwath w n d) := by
  have hfind := find?_modListed w n (fun l => { l with
    hold := if w.state = .opened then l.hold - d else l.hold, debited := min 4294967295 (l.debited + d) }) fun _ => rfl
  refine ⟨modListed_like w n fun _ => rfl, fun _ => ?_, fun _ => ?_⟩
  · rw [holdOf, holdOf, countInSwath, hfind]
    cases w.slots.find? (·.slot == n) with
    | none => simp
    | some l => rfl
  · rw [debitedOf, debitedOf, countInSwath, hfind]
    cases hl : lists w n with
    | false =>
      rw [debitedOf_unlisted hl]
      simp
    | true =>
      obtain ⟨l, hmem, hslot⟩ := List.any_eq_true.1 hl
      cases hf : w.slots.find? (·.slot == n) with
      | none => exact absurd hslot (List.find?_eq_none.1 hf l hmem)
      | some l => simp [hd]

end Sys2Proof.Machine
end

section
/-! One entry of a DROP_REPORT: what it leaves of a slot's account and listing (R76 to R78, R89, R110). -/

namespace Sys2Proof.Machine

/-! ### The listing of the slot debited -/

/-- The table with slot `n`'s debit counted in the swath named (R110). -/
def counted (n : SlotId) (id : Byte) (d : Nat) (w : Swath) : Swath := if w.id = id then countInSwath w n d else w

theorem counted_charged (n : SlotId) (id : Byte) {d : Nat} (hd : d ≠ 0) (w : Swath) : SwathCharged n id d w (counted n id d w) := by
  unfold counted
  split
  · exact countInSwath_charged w n id hd
  · next h => exact ⟨.refl w, fun e => absurd e h, fun e => absurd e h⟩

theorem counted_falls (k n : SlotId) (id : Byte) (d : Nat) (w : Swath) : SwathFalls k w (counted n id d w) := by
  unfold counted
  split
  · exact countInSwath_falls k n w d
  · exact .refl k w

/-- What the named swath's hold falls by, the slot's holds fall by. -/
theorem sum_map_falls {g : Swath → Swath} {n : SlotId} (hg : ∀ w, holdOf (g w) n ≤ holdOf w n) {l : List Swath} {w : Swath} {d : Nat}
    (hw : w ∈ l) (hd : holdOf (g w) n + d ≤ holdOf w n) :
    ((l.map g).map (holdOf · n)).sum + d ≤ (l.map (holdOf · n)).sum := by
  induction l with
  | nil => cases hw
  | cons v l ih =>
    have hrest : ((l.map g).map (holdOf · n)).sum ≤ (l.map (holdOf · n)).sum := by
      rw [List.map_map]
      exact List.sum_le_sum fun w _ => hg w
    simp only [List.map_cons, List.sum_cons]
    rcases List.mem_cons.1 hw with rfl | hw
    · omega
    · have hhead := hg v
      have htail := ih hw
      omega

/-- A debit charges the swath named exactly: the clamp cuts only after it has given up its hold (R89, R110). -/
theorem debitDrops_charged {s : State} {n : SlotId} {a : Account} (ha : s.accounts[n] = some a) (hw : HoldsWithin n s) (id : Byte) {d : Nat}
    (hd : d ≠ 0) : List.Forall₂ (SwathCharged n id d) s.engp.table (debitDrops s n id d).engp.table := by
  rw [debitDrops_eq ha id hd]
  generalize hv : modSwath (setAccount s n (some (drawn a d))) id (fun w => countInSwath w n d) = v
  have htable : v.engp.table = s.engp.table.map (counted n id d) := by
    rw [← hv]
    rfl
  have hacc : v.accounts[n] = some (drawn a d) := by
    rw [← hv]
    exact put_same _ _ _
  have hpurge : purgeHold v n = purgeHold s n := by
    rw [← hv]
    rfl
  rcases afterDebit_table v n (headroom a) with h | ⟨b, hb, hm, hroom, h⟩
  · rw [h, htable]
    exact List.forall₂_map_right_iff.2 (List.forall₂_same.2 fun w _ => counted_charged n id hd w)
  · rw [hacc] at hb
    cases hb
    have hzero : ∀ w ∈ s.engp.table, w.id = id → holdOf (counted n id d w) n = 0 := by
      intro w hmem hid
      have hhold := (counted_charged n id hd w).hold hid
      by_cases ho : w.state = .opened
      · rw [if_pos ho] at hhold
        refine Nat.eq_zero_of_not_pos fun hpos => ?_
        have hsum := sum_map_falls (g := counted n id d) (fun w => (counted_falls n n id d w).hold) hmem (d := d) (by omega)
        have hlimit := hw.2
        rw [holds] at hlimit hroom
        rw [holdLimit_some ha, if_pos (show a.metered = true from hm)] at hlimit
        rw [htable, hpurge] at hroom
        simp only [headroom, consumedView, drawn] at hroom hlimit
        omega
      · rw [if_neg ho] at hhold
        rw [hhold]
        exact hw.1 w hmem ho
    have hcounted : List.Forall₂ (fun w w' => SwathCharged n id d w w' ∧ (w.id = id → holdOf w' n = 0)) s.engp.table v.engp.table := by
      rw [htable]
      exact List.forall₂_map_right_iff.2 (List.forall₂_same.2 fun w hmem => ⟨counted_charged n id hd w, hzero w hmem⟩)
    rw [h]
    refine forall₂_trans (fun x y z hxy hyz => ?_) hcounted (cutSwaths_cut n v.engp.table _)
    obtain ⟨hcharged, hnone⟩ := hxy
    refine ⟨hcharged.toSwathLike.trans hyz.toSwathLike, fun hid => ?_, fun hid => hyz.debited.trans (hcharged.debited hid)⟩
    rw [← hcharged.hold hid, hnone hid]
    exact Nat.le_zero.1 (hnone hid ▸ hyz.hold)

theorem debitDrops_within {s : State} {n : SlotId} {a : Account} (ha : s.accounts[n] = some a) (hw : HoldsWithin n s) (id : Byte) (d : Nat) :
    HoldsWithin n (debitDrops s n id d) := by
  by_cases hd : d = 0
  · rw [hd, debitDrops_none]
    exact hw
  · rw [debitDrops_eq ha id hd]
    exact debited_within (b := drawn a d) ha (put_same _ _ _)
      (HoldsFall.trans (t := setAccount s n (some (drawn a d))) (.of_engp rfl rfl) (modSwath_falls n n _ id d)) rfl _ hw

/-! ### The table otherwise -/

/-- From `s` to `t` relation `R` holds entry by entry of the swath tables. -/
def TableRel (R : Swath → Swath → Prop) (s t : State) : Prop := List.Forall₂ R s.engp.table t.engp.table

theorem TableRel.of_eq {R : Swath → Swath → Prop} (hr : ∀ w, R w w) {s t : State} (h : t.engp.table = s.engp.table) : TableRel R s t := by
  rw [TableRel, h]
  exact List.forall₂_same.2 fun w _ => hr w

/-- A relation that a count in the named swath and the clamp's cuts keep, a debit keeps. -/
theorem debitDrops_tableRel {R : Swath → Swath → Prop} (hrefl : ∀ w, R w w) (htrans : ∀ x y z, R x y → R y z → R x z) {n : SlotId}
    (hcount : ∀ w d, R w (countInSwath w n d)) (hcut : ∀ ws e, List.Forall₂ R ws (cutSwaths n ws e).1) (s : State) (id : Byte) (d : Nat) :
    TableRel R s (debitDrops s n id d) := by
  by_cases hd : d = 0
  · rw [hd, debitDrops_none]
    exact .of_eq hrefl rfl
  · cases ha : s.accounts[n] with
    | none =>
      have hs : debitDrops s n id d = s := by
        unfold debitDrops
        rw [ha]
      rw [hs]
      exact .of_eq hrefl rfl
    | some a =>
      rw [debitDrops_eq ha id hd]
      have hcounted : TableRel R s (modSwath (setAccount s n (some (drawn a d))) id fun w => countInSwath w n d) := by
        refine List.forall₂_map_right_iff.2 (List.forall₂_same.2 fun w _ => ?_)
        split
        · exact hcount w d
        · exact hrefl w
      rcases afterDebit_table (modSwath (setAccount s n (some (drawn a d))) id fun w => countInSwath w n d) n (headroom a) with
        h | ⟨b, -, -, -, h⟩
      · rw [TableRel, h]
        exact hcounted
      · rw [TableRel, h]
        exact forall₂_trans htrans hcounted (hcut _ _)

theorem debitDrops_like (s : State) (n : SlotId) (id : Byte) (d : Nat) : TableRel SwathLike s (debitDrops s n id d) :=
  debitDrops_tableRel .refl (fun _ _ _ => .trans) (fun w _ => modListed_like w n fun _ => rfl)
    (fun ws e => (cutSwaths_cut n ws e).imp fun _ _ h => h.toSwathLike) s id d

theorem debitDrops_same {m n : SlotId} (h : n ≠ m) (s : State) (id : Byte) (d : Nat) : TableRel (SwathSame n) s (debitDrops s m id d) :=
  debitDrops_tableRel (.refl n) (fun _ _ _ => .trans) (fun w _ => modListed_same w h fun _ => rfl) (cutSwaths_same h) s id d

/-! ### The account debited (R76, R77) -/

/-- From `a` to `b` an account is debited `d` µL of drops. -/
def DropDebited (d : Nat) (a b : Account) : Prop :=
  b.dropTotal = a.dropTotal + d ∧ b.inFlight + b.pendingInk = a.inFlight + a.pendingInk + d ∧ b.base = a.base ∧ b.confirmed = a.confirmed ∧
    b.purgeTotal = a.purgeTotal ∧ b.catchUp = a.catchUp

theorem DropDebited.refl (a : Account) : DropDebited 0 a a := ⟨rfl, rfl, rfl, rfl, rfl, rfl⟩

theorem DropDebited.trans {c d : Nat} {x y z : Account} (h : DropDebited c x y) (k : DropDebited d y z) : DropDebited (c + d) x z := by
  obtain ⟨h1, h2, h3, h4, h5, h6⟩ := h
  obtain ⟨k1, k2, k3, k4, k5, k6⟩ := k
  exact ⟨by omega, by omega, k3.trans h3, k4.trans h4, k5.trans h5, k6.trans h6⟩

theorem debitDrops_account {s : State} {n : SlotId} {a : Account} (ha : s.accounts[n] = some a) (id : Byte) (d : Nat) :
    ∃ b, (debitDrops s n id d).accounts[n] = some b ∧ b.residue = a.residue ∧ DropDebited d a b := by
  by_cases hd : d = 0
  · rw [hd, debitDrops_none]
    exact ⟨a, ha, rfl, .refl a⟩
  · rw [debitDrops_eq ha id hd]
    obtain ⟨l, x, hb⟩ := afterDebit_account (s := modSwath (setAccount s n (some (drawn a d))) id fun w => countInSwath w n d)
      (put_same _ _ _) (headroom a)
    exact ⟨_, hb, rfl, rfl, (Nat.add_assoc _ _ _).symm, rfl, rfl, rfl, rfl⟩

/-! ### The watchdog through a debit (R115) -/

theorem moveSlot_watchdog (s : State) (n : SlotId) (st : SlotState) : (moveSlot s n st).engp.watchdog = s.engp.watchdog := by
  rw [moveSlot_engp]

theorem reportExhaustion_watchdog (s : State) (n : SlotId) : (reportExhaustion s n).engp.watchdog = s.engp.watchdog := by
  unfold reportExhaustion
  dsimp only
  rw [raiseAlert_frame_slot _ n _ _ .engp (by decide)]
  split
  · rw [changeState_engp, moveSlot_watchdog]
    rfl
  · rfl

theorem clampHolds_watchdog (s : State) (n : SlotId) : (clampHolds s n).engp.watchdog = s.engp.watchdog := by
  unfold clampHolds
  split
  · rfl
  · split
    · rw [postCuts_frame _ n _ .engp (by decide)]
    · rfl

theorem afterDebit_watchdog (s : State) (n : SlotId) (before : Nat) : (afterDebit s n before).engp.watchdog = s.engp.watchdog := by
  rcases afterDebit_cases s n before with h | ⟨a, -, -, h⟩
  · rw [h]
  · have hclamp : (clampHolds (refreshLevel s n) n).engp.watchdog = s.engp.watchdog := by
      rw [clampHolds_watchdog, refreshLevel_frame s n .engp (by decide)]
    rw [h, thresholdTaken_frame _ n .engp (by decide)]
    split
    · rw [reportExhaustion_watchdog, hclamp]
    · exact hclamp

theorem debitDrops_watchdog (s : State) (n : SlotId) (id : Byte) (d : Nat) : (debitDrops s n id d).engp.watchdog = s.engp.watchdog := by
  unfold debitDrops
  split
  · rfl
  · split
    · rfl
    · rw [afterDebit_watchdog]
      rfl

/-! ### One entry (R71, R111, R113) -/

/-- The whole microlitres an entry debits (R76). -/
def entryDebit (s : State) (t : Nat) (e : DropEntry) : Nat :=
  match entryAccount s e.slot with
  | some (n, a) => (a.residue + fineVolume s.cal[n] e t) / unitsPerMicrolitre
  | none => 0

/-- An entry of a slot with an account: the residue replaced, then the debit. -/
theorem takeEntry_own {s : State} {e : DropEntry} {n : SlotId} {a : Account} (he : entryAccount s e.slot = some (n, a)) (id : Byte) (t : Nat) :
    (takeEntry s id t e).1 =
      debitDrops (setAccount s n (some { a with residue := (a.residue + fineVolume s.cal[n] e t) % unitsPerMicrolitre })) n id
        ((a.residue + fineVolume s.cal[n] e t) / unitsPerMicrolitre) := by
  unfold takeEntry
  rw [he]
  rfl

theorem takeEntry_none {s : State} {e : DropEntry} (he : entryAccount s e.slot = none) (id : Byte) (t : Nat) :
    (takeEntry s id t e).1 = s := by
  unfold takeEntry
  rw [he]

/-- The result of an entry (R113). -/
theorem takeEntry_result (s : State) (id : Byte) (t : Nat) (e : DropEntry) :
    (takeEntry s id t e).2 = [e.slot, if (entryAccount s e.slot).isSome then 0x00 else 0x06, yesNo (offSwath s id e.slot)] ++
      u16 (entryDebit s t e) := by
  unfold takeEntry entryDebit
  cases entryAccount s e.slot <;> rfl

/-- An entry of another slot, or of none. -/
theorem takeEntry_other {s : State} {e : DropEntry} {n : SlotId} (h : slotOf e.slot ≠ some n) (id : Byte) (t : Nat) :
    Untouched n s (takeEntry s id t e).1 ∧ TableRel (SwathSame n) s (takeEntry s id t e).1 := by
  cases he : entryAccount s e.slot with
  | none =>
    rw [takeEntry_none he]
    exact ⟨.refl n s, .of_eq (.refl n) rfl⟩
  | some x =>
    obtain ⟨m, a⟩ := x
    have hne : n ≠ m := fun hnm => h (hnm ▸ entryAccount_slot he)
    rw [takeEntry_own he]
    exact ⟨(setAccount_untouched hne s _).trans (debitDrops_untouched hne _ id _), debitDrops_same hne (setAccount s m _) id _⟩

/-- What an entry leaves alone: the accounts that are open, what the table lists, the watchdog. -/
structure EntryKept (s t : State) : Prop where
  accounts : ∀ n : SlotId, t.accounts[n].isSome = s.accounts[n].isSome
  table : TableRel SwathLike s t
  watchdog : t.engp.watchdog = s.engp.watchdog

theorem EntryKept.refl (s : State) : EntryKept s s := ⟨fun _ => rfl, .of_eq .refl rfl, rfl⟩

theorem EntryKept.trans {s t u : State} (h : EntryKept s t) (k : EntryKept t u) : EntryKept s u :=
  ⟨fun n => (k.accounts n).trans (h.accounts n), forall₂_trans (fun _ _ _ => .trans) h.table k.table, k.watchdog.trans h.watchdog⟩

theorem takeEntry_kept (s : State) (id : Byte) (t : Nat) (e : DropEntry) : EntryKept s (takeEntry s id t e).1 := by
  cases he : entryAccount s e.slot with
  | none =>
    rw [takeEntry_none he]
    exact .refl s
  | some x =>
    obtain ⟨m, a⟩ := x
    refine ⟨fun n => ?_, ?_, ?_⟩
    · by_cases hn : slotOf e.slot = some n
      · obtain rfl : m = n := Option.some.inj ((entryAccount_slot he).symm.trans hn)
        rw [takeEntry_own he]
        obtain ⟨b, hb, -⟩ := debitDrops_account (s := setAccount s m _) (put_same s.accounts m (some { a with
          residue := (a.residue + fineVolume s.cal[m] e t) % unitsPerMicrolitre })) id
          ((a.residue + fineVolume s.cal[m] e t) / unitsPerMicrolitre)
        rw [hb, entryAccount_account he]
        rfl
      · rw [(takeEntry_other hn id t).1.account]
    · rw [takeEntry_own he]
      exact debitDrops_like (setAccount s m _) m id _
    · rw [takeEntry_own he, debitDrops_watchdog]
      rfl

theorem EntryKept.offSwath {s t : State} (h : EntryKept s t) (id slot : Byte) : offSwath t id slot = offSwath s id slot := by
  have hid (x y : Swath) (hxy : SwathLike x y) : (y.id == id) = (x.id == id) := by rw [hxy.sameId]
  unfold Machine.offSwath swathOf
  cases hs : s.engp.table.find? (·.id == id) with
  | some w =>
    obtain ⟨w', hw', hlike⟩ := forall₂_find? hid h.table hs
    rw [hw']
    cases slotOf slot with
    | none => rfl
    | some n => exact congrArg (! ·) (hlike.lists n)
  | none =>
    cases ht : t.engp.table.find? (·.id == id) with
    | none => rfl
    | some w' =>
      obtain ⟨w, hw, -⟩ := forall₂_find? (R := fun x y => SwathLike y x) (fun x y hxy => (hid y x hxy).symm) h.table.flip ht
      rw [hs] at hw
      cases hw

theorem EntryKept.entryAccount {s t : State} (h : EntryKept s t) (b : Byte) : (entryAccount t b).isSome = (entryAccount s b).isSome := by
  unfold Machine.entryAccount
  split
  · rw [Option.isSome_map, Option.isSome_map, h.accounts]
  · rfl

end Sys2Proof.Machine
end

section
/-! A DROP_REPORT debits the accounts its entries name, in their order (R71, R76, R77, R110 to R113, R115; O42). -/

namespace Sys2Proof.Machine

/-! ### The entries in order (R71, R111) -/

/-- The microlitres the entries of a report debit, one after another. -/
def entryDebits (id : Byte) (t : Nat) : State → List DropEntry → List Nat
  | _, [] => []
  | s, e :: l => entryDebit s t e :: entryDebits id t (takeEntry s id t e).1 l

theorem entryDebits_length (id : Byte) (t : Nat) (l : List DropEntry) (s : State) : (entryDebits id t s l).length = l.length := by
  induction l generalizing s with
  | nil => rfl
  | cons e l ih => exact congrArg Nat.succ (ih _)

theorem takeEntries_cons (id : Byte) (t : Nat) (s : State) (e : DropEntry) (l : List DropEntry) :
    takeEntries id t s (e :: l) = ((takeEntries id t (takeEntry s id t e).1 l).1,
      (takeEntry s id t e).2 ++ (takeEntries id t (takeEntry s id t e).1 l).2) := rfl

theorem takeEntries_kept (id : Byte) (t : Nat) (l : List DropEntry) (s : State) : EntryKept s (takeEntries id t s l).1 := by
  induction l generalizing s with
  | nil => exact .refl s
  | cons e l ih => exact (takeEntry_kept s id t e).trans (ih _)

theorem takeEntries_untouched {m : SlotId} (id : Byte) (t : Nat) {l : List DropEntry} (h : ∀ e ∈ l, slotOf e.slot ≠ some m) (s : State) :
    Untouched m s (takeEntries id t s l).1 := by
  induction l generalizing s with
  | nil => exact .refl m s
  | cons e l ih =>
    obtain ⟨he, hl⟩ := List.forall_mem_cons.1 h
    exact (takeEntry_other he id t).1.trans (ih hl _)

/-- Entries without an account change nothing (R113). -/
theorem takeEntries_none (id : Byte) (t : Nat) {l : List DropEntry} {s : State} (h : ∀ e ∈ l, entryAccount s e.slot = none) :
    (takeEntries id t s l).1 = s := by
  induction l with
  | nil => rfl
  | cons e l ih =>
    obtain ⟨he, hl⟩ := List.forall_mem_cons.1 h
    rw [takeEntries_cons, takeEntry_none he]
    exact ih hl

/-- The result of an entry that debits (R113), with its account and its swath as at the report's start. -/
def entryResult (s : State) (id : Byte) (x : DropEntry × Nat) : List Byte :=
  [x.1.slot, if (entryAccount s x.1.slot).isSome then 0x00 else 0x06, yesNo (offSwath s id x.1.slot)] ++ u16 x.2

theorem EntryKept.result {s t : State} (h : EntryKept s t) (id : Byte) : entryResult t id = entryResult s id := by
  funext x
  rw [entryResult, entryResult, h.entryAccount, h.offSwath]

theorem takeEntries_results (id : Byte) (t : Nat) (l : List DropEntry) (s : State) :
    (takeEntries id t s l).2 = (l.zip (entryDebits id t s l)).flatMap (entryResult s id) := by
  induction l generalizing s with
  | nil => rfl
  | cons e l ih =>
    rw [takeEntries_cons, takeEntry_result, ih, (takeEntry_kept s id t e).result]
    rfl

/-! ### The slot named (R76, R77) -/

/-- The fine volume an entry has for a slot (R75). -/
def entryVolume (s : State) (n : SlotId) (t : Nat) (e : DropEntry) : Nat :=
  if slotOf e.slot = some n then fineVolume s.cal[n] e t else 0

theorem fineSum_entry (s : State) (n : SlotId) (id : Byte) (t : Nat) (e : DropEntry) (l : List DropEntry) :
    fineSum s n t (e :: l) = entryVolume s n t e + fineSum (takeEntry s id t e).1 n t l := by
  rw [fineSum_cons, fineSum_congr (takeEntry_frame id t s e .cal (by decide))]
  rfl

/-- An entry of a slot with an account (R76, R77). -/
theorem takeEntry_account {s : State} {e : DropEntry} {n : SlotId} {a : Account} (hs : slotOf e.slot = some n) (ha : s.accounts[n] = some a)
    (id : Byte) (t : Nat) :
    ∃ b, (takeEntry s id t e).1.accounts[n] = some b ∧ b.residue = (a.residue + entryVolume s n t e) % unitsPerMicrolitre ∧
      DropDebited ((a.residue + entryVolume s n t e) / unitsPerMicrolitre) a b := by
  unfold entryVolume
  rw [takeEntry_own (entryAccount_eq hs ha), if_pos hs]
  exact debitDrops_account (s := setAccount s n (some { a with
    residue := (a.residue + fineVolume s.cal[n] e t) % unitsPerMicrolitre })) (put_same _ _ _) id _

/-- A residue below one microlitre is carried through an entry of whatever slot. -/
theorem takeEntry_residue {s : State} {n : SlotId} {a : Account} (ha : s.accounts[n] = some a) (hr : a.residue < unitsPerMicrolitre)
    (id : Byte) (t : Nat) (e : DropEntry) :
    ∃ b, (takeEntry s id t e).1.accounts[n] = some b ∧ b.residue = (a.residue + entryVolume s n t e) % unitsPerMicrolitre ∧
      DropDebited ((a.residue + entryVolume s n t e) / unitsPerMicrolitre) a b := by
  by_cases hs : slotOf e.slot = some n
  · exact takeEntry_account hs ha id t
  · obtain ⟨hother, -⟩ := takeEntry_other (s := s) hs id t
    have hzero : entryVolume s n t e = 0 := if_neg hs
    rw [hzero, Nat.add_zero, Nat.mod_eq_of_lt hr, Nat.div_eq_of_lt hr]
    exact ⟨a, hother.account.trans ha, rfl, .refl a⟩

/-- Over a report a slot is debited the whole microlitres of residue and ink, and keeps the rest (R76). -/
theorem takeEntries_residue (id : Byte) (t : Nat) (l : List DropEntry) {s : State} {n : SlotId} {a : Account} (ha : s.accounts[n] = some a)
    (hr : a.residue < unitsPerMicrolitre) :
    ∃ b, (takeEntries id t s l).1.accounts[n] = some b ∧ b.residue = (a.residue + fineSum s n t l) % unitsPerMicrolitre ∧
      DropDebited ((a.residue + fineSum s n t l) / unitsPerMicrolitre) a b := by
  induction l generalizing s a with
  | nil =>
    refine ⟨a, ha, (Nat.mod_eq_of_lt hr).symm, ?_⟩
    rw [show (a.residue + fineSum s n t []) / unitsPerMicrolitre = 0 from Nat.div_eq_of_lt hr]
    exact .refl a
  | cons e l ih =>
    obtain ⟨b, hb, hres, hdeb⟩ := takeEntry_residue ha hr id t e
    obtain ⟨c, hc, hres', hdeb'⟩ := ih hb (by rw [hres]; exact Nat.mod_lt _ unitsPerMicrolitre_pos)
    refine ⟨c, hc, ?_, ?_⟩
    · rw [hres', hres, carry_mod, fineSum_entry s n id t e l]
    · rw [fineSum_entry s n id t e l, ← carry_div]
      rw [hres] at hdeb'
      exact hdeb.trans hdeb'

/-- A slot that a report names has its residue below one microlitre from then on. -/
theorem takeEntries_named (id : Byte) (t : Nat) {l : List DropEntry} {s : State} {n : SlotId} {a : Account} (ha : s.accounts[n] = some a)
    (hn : ∃ e ∈ l, slotOf e.slot = some n) :
    ∃ b, (takeEntries id t s l).1.accounts[n] = some b ∧ b.residue = (a.residue + fineSum s n t l) % unitsPerMicrolitre ∧
      DropDebited ((a.residue + fineSum s n t l) / unitsPerMicrolitre) a b := by
  induction l generalizing s with
  | nil =>
    obtain ⟨e, he, -⟩ := hn
    cases he
  | cons e l ih =>
    by_cases hs : slotOf e.slot = some n
    · obtain ⟨b, hb, hres, hdeb⟩ := takeEntry_account hs ha id t
      obtain ⟨c, hc, hres', hdeb'⟩ := takeEntries_residue id t l hb (by rw [hres]; exact Nat.mod_lt _ unitsPerMicrolitre_pos)
      refine ⟨c, hc, ?_, ?_⟩
      · rw [hres', hres, carry_mod, fineSum_entry s n id t e l]
      · rw [fineSum_entry s n id t e l, ← carry_div]
        rw [hres] at hdeb'
        exact hdeb.trans hdeb'
    · obtain ⟨hother, -⟩ := takeEntry_other (s := s) hs id t
      have hzero : entryVolume s n t e = 0 := if_neg hs
      obtain ⟨x, hx, hxs⟩ := hn
      have hmem : x ∈ l := (List.mem_cons.1 hx).resolve_left fun h => hs (h ▸ hxs)
      rw [fineSum_entry s n id t e l, hzero, Nat.zero_add]
      exact ih (hother.account.trans ha) ⟨x, hmem, hxs⟩

/-- What each entry debits: the whole microlitres its ink completes (R76). -/
theorem entryDebits_spec (id : Byte) (t : Nat) (l : List DropEntry) (s : State) {i : Nat} {e : DropEntry} (hi : l[i]? = some e) :
    (entryAccount s e.slot = none → (entryDebits id t s l)[i]? = some 0) ∧
      ∀ (n : SlotId) (a : Account), slotOf e.slot = some n → s.accounts[n] = some a → a.residue < unitsPerMicrolitre →
        (entryDebits id t s l)[i]? = some ((a.residue + fineSum s n t (l.take (i + 1))) / unitsPerMicrolitre -
          (a.residue + fineSum s n t (l.take i)) / unitsPerMicrolitre) := by
  induction l generalizing s i with
  | nil => cases hi
  | cons x l ih =>
    cases i with
    | zero =>
      cases hi
      refine ⟨fun hnone => ?_, fun n a hs ha hr => ?_⟩
      · show some (entryDebit s t e) = _
        rw [entryDebit, hnone]
      · show some (entryDebit s t e) = _
        have hsum : fineSum s n t ((e :: l).take 1) = fineVolume s.cal[n] e t := by
          rw [List.take_succ_cons, List.take_zero, fineSum_cons, if_pos hs]
          rfl
        have hstart : (a.residue + fineSum s n t ((e :: l).take 0)) / unitsPerMicrolitre = 0 := Nat.div_eq_of_lt hr
        rw [entryDebit, entryAccount_eq hs ha, hsum, hstart]
        rfl
    | succ i =>
      have hkept := takeEntry_kept s id t x
      obtain ⟨hnone, hsome⟩ := ih (takeEntry s id t x).1 hi
      refine ⟨fun h => hnone ?_, fun n a hs ha hr => ?_⟩
      · rw [← Option.isNone_iff_eq_none, ← Option.not_isSome, hkept.entryAccount, h]
        rfl
      · obtain ⟨b, hb, hres, -⟩ := takeEntry_residue ha hr id t x
        show (entryDebits id t (takeEntry s id t x).1 l)[i]? = _
        rw [hsome n b hs hb (by rw [hres]; exact Nat.mod_lt _ unitsPerMicrolitre_pos), List.take_succ_cons, List.take_succ_cons,
          fineSum_entry s n id t x (l.take (i + 1)), fineSum_entry s n id t x (l.take i), ← carry_div, ← carry_div, hres,
          Nat.add_sub_add_left]

/-! ### The swath named (R110 to R112) -/

theorem HoldsWithin.untouched {n : SlotId} {s t : State} (h : HoldsWithin n s) (hu : Untouched n s t) : HoldsWithin n t :=
  ⟨h.1.falls hu.holds.table, by rw [holdLimit_congr hu.account]; exact hu.holds.holds.trans h.2⟩

/-- An entry charges the swath named with what it debits the slot. -/
theorem takeEntry_charged {s : State} {n : SlotId} {a : Account} (ha : s.accounts[n] = some a) (hr : a.residue < unitsPerMicrolitre)
    (hw : HoldsWithin n s) (id : Byte) (t : Nat) (e : DropEntry) :
    TableRel (SwathCharged n id ((a.residue + entryVolume s n t e) / unitsPerMicrolitre)) s (takeEntry s id t e).1 ∧
      HoldsWithin n (takeEntry s id t e).1 := by
  by_cases hs : slotOf e.slot = some n
  · generalize hb : ({ a with residue := (a.residue + fineVolume s.cal[n] e t) % unitsPerMicrolitre } : Account) = b
    have hacc : (setAccount s n (some b)).accounts[n] = some b := put_same _ _ _
    have hlimit : holdLimit (setAccount s n (some b)) n = holdLimit s n := by
      rw [holdLimit_some hacc, holdLimit_some ha, ← hb]
      rfl
    have hset : HoldsWithin n (setAccount s n (some b)) := ⟨hw.1, by rw [hlimit]; exact hw.2⟩
    unfold entryVolume
    rw [takeEntry_own (entryAccount_eq hs ha), if_pos hs, hb]
    refine ⟨?_, debitDrops_within hacc hset id _⟩
    generalize (a.residue + fineVolume s.cal[n] e t) / unitsPerMicrolitre = d
    by_cases hd : d = 0
    · rw [hd, debitDrops_none]
      exact .of_eq (fun w => (SwathSame.refl n w).charged id) rfl
    · exact debitDrops_charged hacc hset id hd
  · obtain ⟨hother, hsame⟩ := takeEntry_other (s := s) hs id t
    have hzero : entryVolume s n t e = 0 := if_neg hs
    rw [hzero, Nat.add_zero, Nat.div_eq_of_lt hr]
    exact ⟨hsame.imp fun _ _ h => h.charged id, hw.untouched hother⟩

theorem takeEntries_charged (id : Byte) (t : Nat) (l : List DropEntry) {s : State} {n : SlotId} {a : Account} (ha : s.accounts[n] = some a)
    (hr : a.residue < unitsPerMicrolitre) (hw : HoldsWithin n s) :
    TableRel (SwathCharged n id ((a.residue + fineSum s n t l) / unitsPerMicrolitre)) s (takeEntries id t s l).1 := by
  induction l generalizing s a with
  | nil =>
    rw [show (a.residue + fineSum s n t []) / unitsPerMicrolitre = 0 from Nat.div_eq_of_lt hr]
    exact .of_eq (fun w => (SwathSame.refl n w).charged id) rfl
  | cons e l ih =>
    obtain ⟨b, hb, hres, -⟩ := takeEntry_residue ha hr id t e
    obtain ⟨htable, hwithin⟩ := takeEntry_charged ha hr hw id t e
    have hrest := ih hb (by rw [hres]; exact Nat.mod_lt _ unitsPerMicrolitre_pos) hwithin
    rw [fineSum_entry s n id t e l, ← carry_div, ← hres]
    exact forall₂_trans (fun _ _ _ => .trans) htable hrest

/-! ### The report (R111 to R113, R115) -/

/-- The state in which a report's entries are taken: the reply held has met the selection and the watchdog restarts (R106, R115). -/
def reportStart (s : State) (sel : Selection) (len : Nat) : State := restartWatchdog (endEngSelection s sel.ready (len + 3 + sel.filler))

theorem restartWatchdog_sameHolds (s : State) : SameHolds s (restartWatchdog s) := .ite ⟨rfl, rfl⟩ (.refl s)

theorem restartWatchdog_watchdog (s : State) :
    (restartWatchdog s).engp.watchdog = if s.engp.watchdog.isSome then some ⟨s.clock, 100 * s.settings.limits.window⟩ else none := by
  unfold restartWatchdog
  split
  · rfl
  · next h => simpa using h

theorem reportStart_frame (s : State) (sel : Selection) (len : Nat) : OnlyChanges [.engp] s (reportStart s sel len) :=
  (engp_frame s _).trans (restartWatchdog_frame _)

theorem reportStart_sameHolds (s : State) (sel : Selection) (len : Nat) : SameHolds s (reportStart s sel len) :=
  SameHolds.trans (t := endEngSelection s sel.ready (len + 3 + sel.filler)) ⟨rfl, rfl⟩ (restartWatchdog_sameHolds _)

theorem entryResult_congr {s v : State} (ha : v.accounts = s.accounts) (ht : v.engp.table = s.engp.table) (id : Byte) :
    entryResult v id = entryResult s id := by
  funext x
  unfold entryResult entryAccount offSwath swathOf
  rw [ha, ht]

/-- The state when every entry has been taken. -/
def reportTaken (s : State) (id carried : Byte) (l : List DropEntry) (sel : Selection) : State :=
  (takeEntries id (workingTemperature carried) (reportStart s sel (2 + 7 * l.length)) l).1

/-- The state once the arbiter has acted (R64, R111). -/
def reportDone (s : State) (id carried : Byte) (l : List DropEntry) (sel : Selection) : State :=
  arbitrateIfJoined (endEngSelection s sel.ready (2 + 7 * l.length + 3 + sel.filler)) (reportTaken s id carried l sel)

/-- A DROP_REPORT of 1 to 10 entries leaves the state once the arbiter has acted, with its reply placed (R106, R113). -/
theorem dropReport_next {s : State} (hr : s.phase = .running) (id carried : Byte) {l : List DropEntry} (h1 : 1 ≤ l.length)
    (h10 : l.length ≤ 10) (sel : Selection) :
    ∃ t, exec (.dropReport id carried l sel) s = .next t ∧ OnlyChanges debitParts s t ∧
      t = { reportDone s id carried l sel with engp := { (reportTaken s id carried l sel).engp with reply := t.engp.reply } } ∧
      EngReplied (replyMet s sel (2 + 7 * l.length)) 0x22 (reportStatus s id) false (decide (95 < carried.toNat))
        ((l.zip (entryDebits id (workingTemperature carried) (reportStart s sel (2 + 7 * l.length)) l)).flatMap (entryResult s id) ++
          be16 (gateMask t)) t := by
  have hact : actDropReport id carried l (endEngSelection s sel.ready (2 + 7 * l.length + 3 + sel.filler)) =
      { state := reportDone s id carried l sel, status := reportStatus s id, temp := decide (95 < carried.toNat)
        body := (takeEntries id (workingTemperature carried) (reportStart s sel (2 + 7 * l.length)) l).2 ++
          be16 (gateMask (reportDone s id carried l sel)) } := by
    unfold actDropReport
    rw [if_neg (by omega)]
    rfl
  obtain ⟨t, hexec, hframe, ht, hreply⟩ := engRequest_next (ps := debitParts) s sel 0x22 (2 + 7 * l.length) (actDropReport id carried l) hr
    (by decide) (actDropReport_frame id carried h1 h10 _)
  rw [hact] at ht hreply
  have hengp : (reportDone s id carried l sel).engp = (reportTaken s id carried l sel).engp := arbitrateIfJoined_engp _ _
  dsimp only at ht hreply
  rw [hengp] at ht
  refine ⟨t, hexec, hframe, ht, ?_⟩
  have hmask : gateMask (reportDone s id carried l sel) = gateMask t := by
    rw [gateMask, gateMask, ht, hengp]
  rw [takeEntries_results, entryResult_congr (reportStart_frame s sel _ .accounts (by decide)) (reportStart_sameHolds s sel _).table,
    hmask] at hreply
  exact hreply

section
variable (s : State) (id carried : Byte) (l : List DropEntry) (sel : Selection)

theorem reportTaken_watchdog : (reportTaken s id carried l sel).engp.watchdog =
    if s.engp.watchdog.isSome then some ⟨s.clock, 100 * s.settings.limits.window⟩ else none := by
  rw [reportTaken, (takeEntries_kept id _ l _).watchdog]
  exact restartWatchdog_watchdog _

/-- Entries without an account leave the state as the report found it, and nothing for the arbiter (R113). -/
theorem report_none (h : ∀ e ∈ l, entryAccount s e.slot = none) :
    reportTaken s id carried l sel = reportStart s sel (2 + 7 * l.length) ∧
      reportDone s id carried l sel = reportStart s sel (2 + 7 * l.length) := by
  have htaken : reportTaken s id carried l sel = reportStart s sel (2 + 7 * l.length) := by
    refine takeEntries_none id _ fun e he => ?_
    have hacc : (reportStart s sel (2 + 7 * l.length)).accounts = s.accounts := reportStart_frame s sel _ .accounts (by decide)
    rw [← h e he, entryAccount, entryAccount, hacc]
  refine ⟨htaken, ?_⟩
  rw [reportDone, htaken]
  exact arbitrateIfJoined_same (by rw [reportStart, restartWatchdog_frame _ .cbc (by decide)])

theorem reportStart_gates (len : Nat) : (reportStart s sel len).engp.gates = s.engp.gates := by
  unfold reportStart restartWatchdog
  split <;> rfl

end

/-- The account of a slot after a report. -/
theorem reportDone_account {s : State} {n : SlotId} {a : Account} (ha : s.accounts[n] = some a) (id carried : Byte) (l : List DropEntry)
    (sel : Selection) :
    ∃ b, (reportDone s id carried l sel).accounts[n] = some b ∧
      ((∃ e ∈ l, slotOf e.slot = some n) → b.residue = (a.residue + fineSum s n (workingTemperature carried) l) % unitsPerMicrolitre ∧
        DropDebited ((a.residue + fineSum s n (workingTemperature carried) l) / unitsPerMicrolitre) a b) ∧
      ((∀ e ∈ l, slotOf e.slot ≠ some n) → b.residue = a.residue ∧ DropDebited 0 a b) := by
  have hstart := reportStart_frame s sel (2 + 7 * l.length)
  have hacc : (reportStart s sel (2 + 7 * l.length)).accounts[n] = some a := by
    rw [hstart .accounts (by decide)]
    exact ha
  have hsum := fineSum_congr (hstart .cal (by decide)) n (workingTemperature carried) l
  have hdone {c : Account} {d : Nat} (hc : (reportTaken s id carried l sel).accounts[n] = some c) (hd : DropDebited d a c) :
      ∃ b, (reportDone s id carried l sel).accounts[n] = some b ∧ b.residue = c.residue ∧ DropDebited d a b := by
    obtain ⟨b, hb, hfields, hink⟩ := arbitrateIfJoined_account (s := endEngSelection s sel.ready (2 + 7 * l.length + 3 + sel.filler)) hc
    obtain ⟨h1, h2, h3⟩ := hd
    refine ⟨b, hb, by rw [hfields], ?_, hink.trans h2, ?_⟩
    · rw [hfields]
      exact h1
    · rw [hfields]
      exact h3
  by_cases hn : ∃ e ∈ l, slotOf e.slot = some n
  · obtain ⟨c, hc, hres, hdeb⟩ := takeEntries_named id (workingTemperature carried) hacc hn
    rw [hsum] at hres hdeb
    obtain ⟨b, hb, hres', hdeb'⟩ := hdone hc hdeb
    refine ⟨b, hb, fun _ => ⟨hres'.trans hres, hdeb'⟩, fun hnone => ?_⟩
    obtain ⟨e, he, hs⟩ := hn
    exact absurd hs (hnone e he)
  · have hnone : ∀ e ∈ l, slotOf e.slot ≠ some n := fun e he hs => hn ⟨e, he, hs⟩
    have hu := takeEntries_untouched id (workingTemperature carried) hnone (reportStart s sel (2 + 7 * l.length))
    obtain ⟨b, hb, hres, hdeb⟩ := hdone (hu.account.trans hacc) (.refl a)
    exact ⟨b, hb, fun h => absurd h hn, fun _ => ⟨hres, hdeb⟩⟩

/-- The swath named after a report, where the slot's holds were within its headroom. -/
theorem reportTaken_swath {s : State} {n : SlotId} {a : Account} (ha : s.accounts[n] = some a) (hr : a.residue < unitsPerMicrolitre)
    (hw : HoldsWithin n s) (id carried : Byte) (l : List DropEntry) (sel : Selection) {w : Swath} (hswath : swathOf s id = some w) :
    ∃ w', swathOf (reportTaken s id carried l sel) id = some w' ∧
      SwathCharged n id ((a.residue + fineSum s n (workingTemperature carried) l) / unitsPerMicrolitre) w w' := by
  have hstart := reportStart_frame s sel (2 + 7 * l.length)
  have hholds := reportStart_sameHolds s sel (2 + 7 * l.length)
  have hacc : (reportStart s sel (2 + 7 * l.length)).accounts = s.accounts := hstart .accounts (by decide)
  have hwithin : HoldsWithin n (reportStart s sel (2 + 7 * l.length)) := by
    refine ⟨by rw [hholds.table]; exact hw.1, ?_⟩
    have hlimit : holdLimit (reportStart s sel (2 + 7 * l.length)) n = holdLimit s n := holdLimit_congr (by rw [hacc])
    rw [hholds.holds, hlimit]
    exact hw.2
  have htable := takeEntries_charged id (workingTemperature carried) l (by rw [hacc]; exact ha) hr hwithin
  rw [fineSum_congr (hstart .cal (by decide))] at htable
  refine forall₂_find? (fun x y hxy => by rw [hxy.sameId]) htable ?_
  rw [hholds.table]
  exact hswath

/-- Settles O42. -/
theorem aDropReportDebitsTheAccount : Obligations.ADropReportDebitsTheAccount := by
  intro s id carried entries sel hr h1 h10 temp
  obtain ⟨t, hexec, hframe, ht, hreply⟩ := dropReport_next hr id carried h1 h10 sel
  have hstart := reportStart_frame s sel (2 + 7 * entries.length)
  have hengp : t.engp = { (reportTaken s id carried entries sel).engp with reply := t.engp.reply } := congrArg State.engp ht
  have hwatch : t.engp.watchdog = if s.engp.watchdog.isSome then some ⟨s.clock, 100 * s.settings.limits.window⟩ else none := by
    rw [hengp]
    exact reportTaken_watchdog s id carried entries sel
  refine ⟨t, entryDebits id temp (reportStart s sel (2 + 7 * entries.length)) entries, hexec, hframe, fun hsome => ?_, fun hnone => ?_,
    fun m hm => ?_, entryDebits_length .., hreply, fun i e hi => ?_, fun hnone => ?_, fun n a ha => ⟨?_, fun hsafe hlimit hres w hw => ?_⟩⟩
  · rw [hwatch, if_pos hsome]
  · rw [hwatch, hnone]
    rfl
  · have hu := takeEntries_untouched id temp hm (reportStart s sel (2 + 7 * entries.length))
    have hslots : t.slots = (reportTaken s id carried entries sel).slots :=
      (congrArg State.slots ht).trans (arbitrateIfJoined_slots _ _)
    rw [hslots]
    refine hu.slot.trans ?_
    rw [hstart .slots (by decide)]
  · obtain ⟨hnone, hsome⟩ := entryDebits_spec id temp entries (reportStart s sel (2 + 7 * entries.length)) hi
    have hacc : (reportStart s sel (2 + 7 * entries.length)).accounts = s.accounts := hstart .accounts (by decide)
    refine ⟨fun h => hnone ?_, fun n a hs ha hlt => ?_⟩
    · rw [← h, entryAccount, entryAccount, hacc]
    · rw [hsome n a hs (by rw [hacc]; exact ha) hlt, fineSum_congr (hstart .cal (by decide)), fineSum_congr (hstart .cal (by decide))]
  · have hholds := reportStart_sameHolds s sel (2 + 7 * entries.length)
    obtain ⟨htaken, hdone⟩ := report_none s id carried entries sel hnone
    rw [hdone, htaken] at ht
    rw [htaken] at hengp
    refine ⟨?_, ?_, ?_, ?_⟩
    · rw [ht]
      exact hstart.trans (engp_frame _ _)
    · rw [hengp]
      exact hholds.table
    · rw [hengp]
      exact reportStart_gates s sel _
    · rw [hengp]
      exact hholds.purges
  · obtain ⟨b, hb, hnamed, hunnamed⟩ := reportDone_account ha id carried entries sel
    have haccounts : t.accounts = (reportDone s id carried entries sel).accounts := by rw [ht]
    refine ⟨b, by rw [haccounts]; exact hb, fun h => ?_, fun h => ?_, ?_⟩
    · obtain ⟨hres, hdrop, hink, -⟩ := hnamed h
      exact ⟨hres, hdrop, hink⟩
    · obtain ⟨hres, hdrop, hink, -⟩ := hunnamed h
      exact ⟨hres, hdrop, hink⟩
    · by_cases h : ∃ e ∈ entries, slotOf e.slot = some n
      · obtain ⟨-, -, -, hrest⟩ := hnamed h
        exact hrest
      · obtain ⟨-, -, -, hrest⟩ := hunnamed fun e he hs => h ⟨e, he, hs⟩
        exact hrest
  · obtain ⟨w', hw', hcharged⟩ := reportTaken_swath ha hres ⟨holdsOpen_of_safe hsafe n, hlimit⟩ id carried entries sel hw
    have hfound : (w.id == id) = true := List.find?_some (p := fun x : Swath => x.id == id) hw
    have hid := eq_of_beq hfound
    refine ⟨w', ?_, hcharged.state, hcharged.listed, hcharged.hold hid, hcharged.debited hid⟩
    rw [swathOf, hengp]
    exact hw'

end Sys2Proof.Machine
end
